-- ==== Sys2Proof/Word.lean ====
section
/-! DEFINITION. The byte type and the plainest arithmetic of the book: clamping, saturation and truncating division (R1). -/

namespace Sys2Proof

/-- One byte of the line or of the store. -/
abbrev Byte := BitVec 8

/-- A clamp stated with both bounds (R1). -/
def clampInt (lo hi x : Int) : Int := max lo (min hi x)

/-- The same clamp on naturals (R175: the nearer bound). -/
def clampNat (lo hi x : Nat) : Nat := max lo (min hi x)

/-- Saturation to −32 767..+32 767, as R3, R13, R14 and R138 state it. -/
def sat16 (x : Int) : Int := clampInt (-32767) 32767 x

/-- Integer division truncating toward zero (R1). -/
def tdiv (x y : Int) : Int := Int.tdiv x y

end Sys2Proof
end

