-- ==== Sys2Proof/Syntax.lean ====
section
/-! DEFINITION. The commands of the block: one constructor of Instr for each row of spec/opcode_table.json, with what the row's event carries. -/

namespace Sys2Proof

/-- The two outlets of a berth. -/
inductive Outlet where
  | a
  | b
deriving DecidableEq, Repr

/-- The three crossing trackers of Table 1-2. -/
inductive TrackerId where
  | cell
  | bus
  | ship
deriving DecidableEq, Repr

/-- The two synchroniser channels (R88). -/
inductive ChannelId where
  | cell
  | ship
deriving DecidableEq, Repr

/-- The levels START finds on the pins: straps (R173), auxiliary contacts (R87) and supply warning (R172). -/
structure Pins where
  strap   : BitVec 5
  auxA    : Bool
  auxB    : Bool
  warning : Bool
deriving DecidableEq, Repr

/-- One sample set as it stands on the sample port (Table 1-1); channels in two's complement. -/
structure RawSet where
  seq   : Byte
  va    : BitVec 16
  vb    : BitVec 16
  vc    : BitVec 16
  ia    : BitVec 16
  ib    : BitVec 16
  ic    : BitVec 16
  vba   : BitVec 16
  vbb   : BitVec 16
  vsa   : BitVec 16
  vsb   : BitVec 16
  vdc   : BitVec 16
  check : BitVec 16
deriving DecidableEq, Repr

/-- What stands beside the fields of every order in a TERMINAL bulletin (R55): the terminal's station, tag and target. -/
structure OrderHead where
  sender : Nat
  tag    : Byte
  target : Byte
deriving DecidableEq, Repr

/-- The fields of SESSION OPEN as the order carries them (chapter 12, order fields). -/
structure SessionFields where
  outlet  : Byte
  id      : BitVec 32
  fNom    : BitVec 32
  vNom    : BitVec 16
  demand  : BitVec 16
  closing : Byte
  release : BitVec 16
deriving DecidableEq, Repr

/-- Whose mark is on the line: another station's, by where its carrier started (R43, R44), or the own one read back, with whether
more than one transmitter drove the line (R48). -/
inductive MarkHeard where
  | other (start : Int)
  | own (overdrive : Bool)
deriving DecidableEq, Repr

/-- The end of a station slot: its number, and the levels on the pins, which a RESTART in its bulletin reads (R54, R173). -/
structure SlotMoment where
  number : Nat
  pins   : Pins
deriving DecidableEq, Repr

/-- The commands, in the order of spec/opcode_table.json; their operands are log entry 5. -/
inductive Instr where
  | powerUp (pins : Pins)
  | resetPin (pins : Pins)
  | supplyWarning
  | supplyWarningClear (pins : Pins)
  | powerFail
  | sampleSet (raw : RawSet)
  | watchTimerExpiry
  | fallbackClose (t : TrackerId)
  | overloadTimerExpiry
  | cycleTimerExpiry
  | sendMark
  | markReceived (bytes : List Byte) (start : MarkHeard)
  | markWindowClose
  | silenceCountExpiry
  | loneCountExpiry
  | ownBulletinAssembly
  | ownSlotEnd (heard : List Byte) (overdrive : Bool)
  | bulletinReceived (bytes : List Byte) (start : Int)
  | slotEnd (slot : SlotMoment)
  | assign (h : OrderHead) (outlet : Byte)
  | unassign (h : OrderHead)
  | sessionOpen (h : OrderHead) (f : SessionFields)
  | sessionClose (h : OrderHead) (outlet : Byte) (id : BitVec 32)
  | startTransfer (h : OrderHead) (outlet : Byte)
  | startDeparture (h : OrderHead) (outlet : Byte)
  | clearTrip (h : OrderHead)
  | tariff (h : OrderHead) (count : Byte) (groups : List (BitVec 16 × Byte))
  | collect (h : OrderHead) (start : BitVec 32) (count : Byte)
  | confirm (h : OrderHead) (upTo : BitVec 32)
  | flush (h : OrderHead)
  | acknowledgeNotices (h : OrderHead) (count : Byte) (codes : List Byte)
  | restart (h : OrderHead) (pins : Pins)
  | unknownOrder (h : OrderHead) (kind : Byte)
  | auxLevelQualified (x : Outlet) (closed : Bool)
  | coilPulseTimerExpiry (x : Outlet)
  | confirmTimerExpiry (x : Outlet)
  | retryGapExpiry (x : Outlet)
  | crossingWatchExpiry (c : ChannelId)
  | cellChannelTimeout
  | shipChannelTimeout
  | backOffExpiry
  | joinAgeTick
  | progressTimerExpiry
  | absoluteRampTimerExpiry
  | lowGeneratorTimerExpiry
  | releaseTimerExpiry
  | releaseWaitExpiry
  | lowLoadTimerExpiry
  | leaveStallExpiry
  | secondAdvance
  | packingTimerExpiry
  | storeAbsoluteTimerExpiry
  | pageProgramComplete
  | sectorEraseComplete
deriving DecidableEq, Repr

end Sys2Proof
end

