-- ==== Sys2Proof/Config.lean ====
section
/-! DEFINITION. The free values and free choices of the model: constants without a body, so that nothing can be proved of what they are. -/

namespace Sys2Proof

/-- What byte k of the area being programmed or erased holds after loss of supply cut the n-th such operation
(R152, R164: 'a torn page or a sector part erased'); log entry 3. -/
opaque Config.tornByte (n k : Nat) : Byte

/-- The n-th choice between two orders that the spec leaves open inside one command (R39, R49, R96, R143, R177); log entry 3. -/
opaque Config.choice (n : Nat) : Bool

/-- f_cmd and V_cmd from the setting of the run flag to the first step after it, before they are brought into the bounds that R24 and
R28 give them, by the latched f_nom and the phase held; the rules state no value there (log entry 40). -/
opaque Config.startFrequency (fNom phase : Nat) : Int
opaque Config.startVoltage (fNom phase : Nat) : Int

/-- Byte k of a field into which the count v does not fit, where the spec states no result (Tables 12-6, 12-7); log entry 16. -/
opaque Config.overflowByte (v k : Nat) : Byte

end Sys2Proof
end

