-- ==== Sys2Proof/Machine/State.lean ====
section
/-! DEFINITION. The state of the part, block by block (00_scope Table 0-2), as plain data, the outcomes' reasons, and the state at reset. -/

namespace Sys2Proof.Machine

/-- A timer of a stated length: stopped, or running since it was last started at that length in ms (00_scope, TIMERS). -/
abbrev Timer := Option Nat

/-- The run states of chapter 11. `unpowered` is the model's name for a part without supply (log entry 1). -/
inductive RunState where
  | unpowered
  | starting
  | running
  | shutdown
deriving DecidableEq, Repr

/-- Table 3-2. -/
inductive LinkState where
  | listen
  | aligned
  | muted
deriving DecidableEq, Repr

/-- Table 7-2, in its order (Table 12-3 codes them 0..13). -/
inductive HState where
  | off
  | assigned
  | forming
  | joining
  | onBus
  | matching
  | parallelUp
  | parallelHold
  | island
  | departWait
  | parallelDown
  | releaseWait
  | leaving
  | tripped
deriving DecidableEq, Repr

/-- The synthesis modes of Table 2-1. -/
inductive Mode where
  | stopped
  | forming
  | follow
  | parallel
  | island
deriving DecidableEq, Repr

/-- The contactor states of Table 5-1 (`opened` is OPEN). -/
inductive CState where
  | opened
  | closing
  | closed
  | opening
  | welded
deriving DecidableEq, Repr

/-- The stage of a contactor operation in flight (Table 5-1). -/
inductive CPhase where
  | idle
  | pulse
  | confirm
  | gap
deriving DecidableEq, Repr

/-- The bus condition of R12. -/
inductive BusCond where
  | dead
  | live
  | uncertain
deriving DecidableEq, Repr

/-- The channel states of Table 6-2. -/
inductive ChState where
  | idle
  | seeking
  | met
  | backoff
  | spent
deriving DecidableEq, Repr

/-- The notice kinds of Table 10-1, in its order (codes 1..28). -/
inductive NoticeKind where
  | badBulletin
  | foreign
  | sampleGap
  | timeStep
  | markChange
  | configClamped
  | badRecord
  | orderOverrun
  | peerLost
  | linkSilent
  | vesselConflict
  | syncTimeout
  | closeFail
  | auxDrop
  | rampStall
  | releaseStall
  | leaveStall
  | shipCloseUnpermitted
  | shipOpenUnexpected
  | storeLow
  | storeFull
  | duplicateStation
  | overcurrent
  | overload
  | sampleLoss
  | openFail
  | auxUnexpected
  | configBad
deriving DecidableEq, Repr

/-- The notice classes of Table 10-1. -/
inductive NoticeClass where
  | correctable
  | nonFatal
  | fatal
deriving DecidableEq, Repr

/-- The trip causes of Table 5-4. -/
inductive TripCause where
  | overcurrent
  | overload
  | sampleLoss
  | muted
  | openFail
  | auxUnexpected
deriving DecidableEq, Repr

/-- The cause a membership's end carries (R132). -/
inductive LeaveCause where
  | leave
  | trip
  | auxDrop
  | sessionClose
  | power
deriving DecidableEq, Repr

/-- Where a contactor operation came from (R132): the meter reads the cause of a membership's end from it. -/
inductive Origin where
  | handover
  | trip
  | supplyWarning
  | start
  | interlock
  | auxiliary
deriving DecidableEq, Repr

/-- Why an order or a close request is refused (R169, R74). -/
inductive Reason where
  | state
  | range
  | capacity
  | interlock
  | unknown
deriving DecidableEq, Repr

/-- The result of an order (R169). -/
inductive Result where
  | accepted
  | refused (r : Reason)
deriving DecidableEq, Repr

/-- The order kinds of Table 12-4. -/
inductive OrderKind where
  | assign
  | unassign
  | sessionOpen
  | sessionClose
  | startTransfer
  | startDeparture
  | clearTrip
  | tariff
  | collect
  | confirm
  | flush
  | acknowledgeNotices
  | restart
  | unknown (code : Byte)
deriving DecidableEq, Repr

/-! ### Configuration -/

/-- Eleven channel values: the calibrated set of R3, or the eleven gains of the CAL block. -/
structure Channels where
  va  : Int
  vb  : Int
  vc  : Int
  ia  : Int
  ib  : Int
  ic  : Int
  vba : Int
  vbb : Int
  vsa : Int
  vsb : Int
  vdc : Int
deriving DecidableEq, Repr

/-- The values that the straps and the configuration chain give at START and that hold until the next (R173, R175). -/
structure Cfg where
  station     : Nat
  configBad   : Bool
  rating      : Nat
  vRated      : Nat
  dF          : Nat
  kShare      : Nat
  dQ          : Nat
  rampStep    : Nat
  iTrip       : Nat
  limitPu     : Nat
  closePulse  : Nat
  openPulse   : Nat
  confirmTime : Nat
  cellClosing : Nat
  gains       : Channels
  accept      : BitVec 32
  enCorr      : Bool
  enNonFatal  : Bool
  enFatal     : Bool
  packing     : Nat
  absolute    : Nat
  nearFull    : Nat
deriving DecidableEq, Repr

/-! ### Link controller -/

/-- The link controller (chapter 3). Instants are in 0.5 µs from the beginning of the cycle (log entry 12). -/
structure Lnk where
  state         : LinkState
  cycle         : Nat
  refInstant    : Int
  nextExpiry    : Int
  markSender    : Bool
  refSender     : Option Nat
  prevRef       : Option Nat
  contending    : Bool
  adopted       : Bool
  alignCount    : Nat
  silenceCount  : Nat
  faults        : List Bool
  loneCount     : Nat
  loneReported  : Bool
  heard         : Bool
  ownCarrier    : Bool
  ownDuplicate  : Bool
  rx            : Option (Nat × List Byte)
  tx            : Option (List Byte)
  txAge         : Nat
  markTx        : Option (List Byte)
  markAge       : Nat
  orderMem      : Vector (Option Byte) 31
  markOut       : Option (List Byte)
  bulletinOut   : Option (List Byte)
deriving DecidableEq, Repr

/-! ### Peer table -/

/-- The kept fields of a CELL body (Table 4-1). -/
structure CellBody where
  outlet  : Option Outlet
  hstate  : HState
  conA    : CState
  conB    : CState
  p       : Int
  pu      : Int
  fRamp   : Int
  rating  : Nat
  joinAge : Nat
  forming : Bool
  lead    : Bool
  leaving : Bool
deriving DecidableEq, Repr

/-- A TERMINAL body's time (Table 4-1). -/
structure TimeBody where
  day    : Nat
  second : Nat
  cycle  : Nat
deriving DecidableEq, Repr

/-- The ship facts of a VESSEL body (Table 4-1, R70). -/
structure ShipFacts where
  cableReady : Bool
  shipReady  : Bool
  breaker    : Bool
  generators : Nat
  load       : Int
deriving DecidableEq, Repr

/-- The role of an entry with its decoded body (R58): `none` is no role and no body. -/
inductive PeerBody where
  | none
  | cell (b : CellBody)
  | terminal (b : TimeBody)
  | vessel (outlet : Outlet) (b : ShipFacts)
deriving DecidableEq, Repr

/-- The states of an entry (R58). -/
inductive PeerState where
  | absent
  | live
  | stale
deriving DecidableEq, Repr

/-- One of the 31 entries (R58). -/
structure PeerEntry where
  state  : PeerState
  missed : Nat
  body   : PeerBody
deriving DecidableEq, Repr

/-- The peer table (chapter 4): entry k−1 is station k's. -/
structure Ptb where
  entries : Vector PeerEntry 31
deriving DecidableEq, Repr

/-! ### Measurement unit -/

/-- One crossing tracker (R6 to R11, R13). -/
structure Tracker where
  armed     : Bool
  capture   : Option Nat
  period    : Option Nat
  freq      : Option Nat
  freqValid : Bool
  fallback  : Nat
  count     : Nat
  sumSq     : Nat
  rms       : Option Nat
  ratio     : Option Nat
deriving DecidableEq, Repr

/-- A phase difference with its valid mark (R10). -/
structure PhaseDiff where
  valid : Bool
  value : Int
deriving DecidableEq, Repr

/-- The measurement unit (chapter 1). -/
structure Msu where
  setCount  : Nat
  lastSeq   : Option Byte
  lastSet   : Option Channels
  watch     : Bool
  setGap    : Nat
  vRef      : Nat
  cell      : Tracker
  bus       : Tracker
  ship      : Tracker
  sumP      : Int
  sumQ      : Int
  delayK    : Option Nat
  delayLine : List (Int × Int × Int)
  cellBus   : PhaseDiff
  busShip   : PhaseDiff
  busCond   : BusCond
  p         : Int
  q         : Int
  pu        : Int
  secSum    : Int
  mean      : Int
  ocRun     : Nat
  overload  : Option Nat
deriving DecidableEq, Repr

/-! ### Synthesis unit -/

/-- The record of the clamp of R24. -/
inductive ClampRec where
  | noAction
  | lower
  | upper
deriving DecidableEq, Repr

/-- One output of the reference port (R29). -/
structure RefOut where
  run     : Bool
  phase   : Nat
  voltage : Int
  nominal : Nat
deriving DecidableEq, Repr

/-- The synthesis unit (Table 2-1). -/
structure Syu where
  run       : Bool
  mode      : Mode
  fNom      : Nat
  vNom      : Nat
  phase     : Nat
  fCmd      : Int
  increment : Nat
  fRamp     : Int
  fJoin     : Int
  share     : Int
  vCmd      : Int
  vSteer    : Int
  limit     : Bool
  clamp     : ClampRec
  puAtLimit : Bool
  heldClear : Bool
  firstStep : Bool
  port      : Option RefOut
deriving DecidableEq, Repr

/-! ### Contactor controller -/

/-- One contactor record with its two coil outputs (Table 5-1, R73). -/
structure Contactor where
  state        : CState
  auxClosed    : Bool
  phase        : CPhase
  pulseTimer   : Timer
  confirmTimer : Timer
  retry        : Bool
  closeCoil    : Bool
  openCoil     : Bool
deriving DecidableEq, Repr

/-- The contactor controller (chapter 5). -/
structure Ctc where
  a : Contactor
  b : Contactor
deriving DecidableEq, Repr

/-! ### Synchroniser -/

/-- The result of a channel's latest evaluation (R88, R91). -/
structure Eval where
  good      : Bool
  slip      : Option Int
  predicted : Option Int
  dv        : Option Int
deriving DecidableEq, Repr

/-- One channel record (R88). -/
structure Channel where
  state    : ChState
  good     : Nat
  timeout  : Timer
  held     : Bool
  watch    : Option Nat
  attempts : Nat
  backoff  : Timer
  latest   : Option Eval
deriving DecidableEq, Repr

/-- The synchroniser (chapter 6). -/
structure Syn where
  cell : Channel
  ship : Channel
deriving DecidableEq, Repr

/-! ### Handover controller -/

/-- The fields of an OPEN session record (Table 7-3). -/
structure Session where
  id      : Nat
  fNom    : Nat
  vNom    : Nat
  demand  : Option Nat
  closing : Nat
  release : Nat
deriving DecidableEq, Repr

/-- The destination and the recorded state of a leave (R111). -/
structure Leave where
  dest : Option Outlet
  back : HState
deriving DecidableEq, Repr

/-- The handover controller (Table 7-1). A session record is NONE when it is `none`; the leaving flag is set when `leave` is some. -/
structure Hoc where
  assignment   : Option Outlet
  state        : HState
  forming      : Bool
  formingCount : Nat
  claimCarried : Bool
  lead         : Bool
  leadCount    : Nat
  leave        : Option Leave
  joinAge      : Nat
  joinTicks    : Nat
  acted        : Option ShipFacts
  progress     : Timer
  rampAbsolute : Timer
  lowGen       : Timer
  release      : Timer
  releaseWait  : Timer
  lowLoad      : Timer
  leaveStall   : Timer
  rampDone     : Bool
  lowestGen    : Option Int
  shedDue      : Option Int
  sessionA     : Option Session
  sessionB     : Option Session
deriving DecidableEq, Repr

/-! ### Meter -/

/-- One band of a tariff schedule (R139). -/
structure Band where
  start : Nat
  cls   : Nat
deriving DecidableEq, Repr

/-- The two tariff copies. -/
inductive Copy where
  | a
  | b
deriving DecidableEq, Repr

/-- What a membership takes from the session record (R130). -/
structure Membership where
  id     : Nat
  outlet : Outlet
  fNom   : Nat
  demand : Option Nat
deriving DecidableEq, Repr

/-- The open interval record (R135, Table 8-2); NO_TIME is a first index of none. -/
structure Interval where
  first      : Option Nat
  last       : Option Nat
  cls        : Nat
  importWh   : Nat
  exportWh   : Nat
  ownPeak    : Int
  outletPeak : Int
  seconds    : Nat
  metered    : Bool
  isPartial  : Bool
  merged     : Bool
  mixedRate  : Bool
  stepped    : Bool
  backward   : Bool
  session    : Option Nat
deriving DecidableEq, Repr

/-- The content of an EVENT record (Table 5-5, R143). -/
structure EventRec where
  trip    : Option TripCause
  on      : Option Outlet
  conA    : CState
  conB    : CState
  hstate  : HState
  p       : Int
  session : Option Nat
  time    : Option (Nat × Nat)
deriving DecidableEq, Repr

/-- A record request of the meter, without its sequence number (Table 8-3, Table 12-7). -/
inductive Rec where
  | sessionJoin (m : Membership) (time : Option (Nat × Nat))
  | interval (iv : Interval)
  | sessionLeave (id : Nat) (outlet : Outlet) (importWh exportWh count : Nat) (cause : LeaveCause) (time : Option (Nat × Nat))
  | interruption (id : Nat) (restart : Bool)
  | event (e : EventRec)
deriving DecidableEq, Repr

/-- The meter (Table 8-1). -/
structure Mtr where
  residue     : Int
  day         : Nat
  second      : Nat
  cycleCount  : Nat
  timeValid   : Bool
  membership  : Option Membership
  totImport   : Nat
  totExport   : Nat
  totCount    : Nat
  interval    : Interval
  meteredMark : Bool
  copyA       : List Band
  copyB       : List Band
  active      : Copy
  armed       : Bool
  holder      : List Rec
  dropped     : Nat
deriving DecidableEq, Repr

/-! ### Record store -/

/-- One line of the sector table (Table 9-2). -/
structure SectorLine where
  used    : Bool
  highest : Option Nat
deriving DecidableEq, Repr

/-- A held record of the ring: its slot (0..2047 over the whole store) and its sequence number (R148). -/
structure HeldSlot where
  slot : Nat
  seq  : Nat
deriving DecidableEq, Repr

/-- One entry of the staging queue (Table 9-2). -/
structure Staged where
  seq       : Nat
  image     : List Byte
  inProgram : Bool
deriving DecidableEq, Repr

/-- The one operation in flight of the engine (R153). -/
inductive Engine where
  | idle
  | programming (sector : Fin 64) (page : Fin 8)
  | erasing (sector : Fin 64)
deriving DecidableEq, Repr

/-- The ready item of a collection job (R160). -/
inductive ReadyItem where
  | gone (oldest : Nat)
  | record (image : List Byte)
  | finish (newest : Nat)
deriving DecidableEq, Repr

/-- A collection job (R159). -/
structure Job where
  requester : Nat
  next      : Nat
  remaining : Nat
  ready     : Option ReadyItem
deriving DecidableEq, Repr

/-- The record store (Table 9-2). `mem` lists the bytes that are not erased, by rising address; `warned` is set once the store has been
handed the supply warning (R164, R177; log entry 58). -/
structure Rst where
  mem       : List Host.Cell
  protect   : Fin 64
  table     : Vector SectorLine 64
  slots     : List HeldSlot
  posSector : Fin 64
  posPage   : Fin 8
  newest    : Nat
  oldest    : Option Nat
  mark      : Nat
  full      : Bool
  queue     : List Staged
  drain     : Option Nat
  packTimer : Timer
  absTimer  : Timer
  engine    : Engine
  low       : Bool
  preErase  : Bool
  job       : Option Job
  warned    : Bool
deriving DecidableEq, Repr

/-! ### Notice unit -/

/-- The record of one notice kind (R165). -/
structure KindRec where
  pending : Bool
  count   : Nat
deriving DecidableEq, Repr

/-- One place of the reply queue; it is filled when `result` is some (R169). -/
structure ReplyPlace where
  kind      : OrderKind
  tag       : Byte
  requester : Nat
  result    : Option Result
deriving DecidableEq, Repr

/-- The notice unit (chapter 10). -/
structure Ntu where
  kinds   : Vector KindRec 28
  queue   : List NoticeKind
  replies : List ReplyPlace
  spacing : Nat
deriving DecidableEq, Repr

/-! ### The part -/

/-- The whole part but for the queue of waiting commands. `freeIdx` is the model's own field (log entry 3). -/
structure Dev where
  run     : RunState
  pins    : Pins
  cfg     : Cfg
  lnk     : Lnk
  ptb     : Ptb
  msu     : Msu
  syu     : Syu
  ctc     : Ctc
  syn     : Syn
  hoc     : Hoc
  mtr     : Mtr
  rst     : Rst
  ntu     : Ntu
  freeIdx : Nat
deriving DecidableEq, Repr

/-- The machine: the waiting commands, first in first out, and the part. -/
structure State where
  pending : List Instr
  dev     : Dev
deriving DecidableEq, Repr

/-- Why a run could stop with a fault. No command of this block does (log entry 4). -/
inductive Fault where
  /-- An access outside the 65 536 bytes of the store. Nobody raises it: sector, page and slot numbers are bounded by their types. Safe. -/
  | storeAddress
deriving DecidableEq, Repr

/-- Why a command could be refused. No command of this block is. -/
inductive Refusal where
  /-- An arm of exec without a meaning. No arm answers it: every row has its meaning. Safe. -/
  | notModelled (mnemonic : String)
deriving DecidableEq, Repr

/-! ### Updates: one for each part of the device -/

def Dev.setRun (d : Dev) (x : RunState) : Dev := { d with run := x }
def Dev.setPins (d : Dev) (x : Pins) : Dev := { d with pins := x }
def Dev.setCfg (d : Dev) (x : Cfg) : Dev := { d with cfg := x }
def Dev.setLnk (d : Dev) (x : Lnk) : Dev := { d with lnk := x }
def Dev.setPtb (d : Dev) (x : Ptb) : Dev := { d with ptb := x }
def Dev.setMsu (d : Dev) (x : Msu) : Dev := { d with msu := x }
def Dev.setSyu (d : Dev) (x : Syu) : Dev := { d with syu := x }
def Dev.setCtc (d : Dev) (x : Ctc) : Dev := { d with ctc := x }
def Dev.setSyn (d : Dev) (x : Syn) : Dev := { d with syn := x }
def Dev.setHoc (d : Dev) (x : Hoc) : Dev := { d with hoc := x }
def Dev.setMtr (d : Dev) (x : Mtr) : Dev := { d with mtr := x }
def Dev.setRst (d : Dev) (x : Rst) : Dev := { d with rst := x }
def Dev.setNtu (d : Dev) (x : Ntu) : Dev := { d with ntu := x }
def Dev.setFreeIdx (d : Dev) (x : Nat) : Dev := { d with freeIdx := x }

/-- A command's effect on the part, the queue left alone. -/
def State.onDev (s : State) (f : Dev → Dev) : State := { s with dev := f s.dev }

/-! ### START values (the START rule of each chapter) -/

def Channels.zero : Channels := ⟨0, 0, 0, 0, 0, 0, 0, 0, 0, 0, 0⟩

/-- Unity gains (R3). -/
def Channels.unity : Channels :=
  ⟨16384, 16384, 16384, 16384, 16384, 16384, 16384, 16384, 16384, 16384, 16384⟩

/-- The fallback set of Table 11-2, and station number 0. -/
def Cfg.fallback : Cfg where
  station := 0
  configBad := false
  rating := 500
  vRated := 6600
  dF := 0
  kShare := 0
  dQ := 0
  rampStep := 1
  iTrip := 100
  limitPu := 11000
  closePulse := 200
  openPulse := 100
  confirmTime := 150
  cellClosing := 60
  gains := Channels.unity
  accept := 0xFFFFFFFF
  enCorr := true
  enNonFatal := true
  enFatal := true
  packing := 20
  absolute := 10
  nearFull := 96

/-- R40, R45 to R48, R55, R56. The link state is LISTEN while STARTING, before stage 6 enters LISTEN or MUTED (R172; log entry 2). -/
def Lnk.start : Lnk where
  state := .listen
  cycle := 0
  refInstant := 0
  nextExpiry := 4000
  markSender := false
  refSender := none
  prevRef := none
  contending := false
  adopted := false
  alignCount := 0
  silenceCount := 0
  faults := []
  loneCount := 0
  loneReported := false
  heard := false
  ownCarrier := false
  ownDuplicate := false
  rx := none
  tx := none
  txAge := 0
  markTx := none
  markAge := 0
  orderMem := Vector.replicate 31 none
  markOut := none
  bulletinOut := none

/-- R58. -/
def PeerEntry.start : PeerEntry := ⟨.absent, 0, .none⟩

/-- R58. -/
def Ptb.start : Ptb := ⟨Vector.replicate 31 PeerEntry.start⟩

/-- A restarted tracker (R6, R17). -/
def Tracker.start : Tracker := ⟨false, none, none, none, false, 0, 0, 0, none, none⟩

/-- R17; V_ref is the rated line voltage, since nothing is assigned (R6). -/
def Msu.start (vRated : Nat) : Msu where
  setCount := 0
  lastSeq := none
  lastSet := none
  watch := false
  setGap := 0
  vRef := vRated
  cell := Tracker.start
  bus := Tracker.start
  ship := Tracker.start
  sumP := 0
  sumQ := 0
  delayK := none
  delayLine := []
  cellBus := ⟨false, 0⟩
  busShip := ⟨false, 0⟩
  busCond := .uncertain
  p := 0
  q := 0
  pu := 0
  secSum := 0
  mean := 0
  ocRun := 0
  overload := none

/-- R18. -/
def Syu.start : Syu where
  run := false
  mode := .stopped
  fNom := 0
  vNom := 0
  phase := 0
  fCmd := 0
  increment := 0
  fRamp := 0
  fJoin := 0
  share := 0
  vCmd := 0
  vSteer := 0
  limit := false
  clamp := .noAction
  puAtLimit := false
  heldClear := false
  firstStep := false
  port := none

/-- R87: the record OPEN, nothing running, coils de-energised, and the level the input shows. -/
def Contactor.start (auxClosed : Bool) : Contactor := ⟨.opened, auxClosed, .idle, none, none, false, false, false⟩

/-- R88. -/
def Channel.start : Channel := ⟨.idle, 0, none, false, none, 0, none, none⟩

/-- R106. It names no START value for the lowest generator load, which starts at none (log entry 2). -/
def Hoc.start : Hoc where
  assignment := none
  state := .off
  forming := false
  formingCount := 0
  claimCarried := false
  lead := false
  leadCount := 0
  leave := none
  joinAge := 0
  joinTicks := 0
  acted := none
  progress := none
  rampAbsolute := none
  lowGen := none
  release := none
  releaseWait := none
  lowLoad := none
  leaveStall := none
  rampDone := false
  lowestGen := none
  shedDue := none
  sessionA := none
  sessionB := none

/-- An open interval record just begun, at an index, in a rate class, for a session (R135). -/
def Interval.begin (first : Option Nat) (cls : Nat) (session : Option Nat) : Interval :=
  ⟨first, first, cls, 0, 0, 0, 0, 0, false, false, false, false, false, false, session⟩

/-- R129, Table 8-1. -/
def Mtr.start : Mtr where
  residue := 0
  day := 0
  second := 0
  cycleCount := 0
  timeValid := false
  membership := none
  totImport := 0
  totExport := 0
  totCount := 0
  interval := Interval.begin none 0 none
  meteredMark := false
  copyA := [⟨0, 0⟩]
  copyB := [⟨0, 0⟩]
  active := .a
  armed := false
  holder := []
  dropped := 0

/-- R148 over a given storage: everything before the scan. -/
def Rst.start (mem : List Host.Cell) (protect : Fin 64) : Rst where
  mem := mem
  protect := protect
  table := Vector.replicate 64 ⟨false, none⟩
  slots := []
  posSector := protect
  posPage := 0
  newest := 0
  oldest := none
  mark := 0
  full := false
  queue := []
  drain := none
  packTimer := none
  absTimer := none
  engine := .idle
  low := false
  preErase := false
  job := none
  warned := false

/-- R165, R169, R171. -/
def Ntu.start : Ntu := ⟨Vector.replicate 28 ⟨false, 0⟩, [], [], 8⟩

/-- The part as START's first stage leaves it (R172), over an erased store and open inputs (log entry 2). -/
def Dev.reset : Dev where
  run := .starting
  pins := ⟨0, false, false, false⟩
  cfg := Cfg.fallback
  lnk := Lnk.start
  ptb := Ptb.start
  msu := Msu.start 6600
  syu := Syu.start
  ctc := ⟨Contactor.start false, Contactor.start false⟩
  syn := ⟨Channel.start, Channel.start⟩
  hoc := Hoc.start
  mtr := Mtr.start
  rst := Rst.start [] 8
  ntu := Ntu.start
  freeIdx := 0

/-- The machine right after reset: START has begun and every block stands at its START values (R172 stage 1). -/
def State.reset : State := ⟨[], Dev.reset⟩

end Sys2Proof.Machine
end

