-- ==== Sys2Proof/Machine/Ops.lean ====
section
/-! DEFINITION. The shared operations: byte order and check words (R178), the store's bytes (R147), free choices, and the reads of assignment, sessions and contactors that the blocks have in common. -/

namespace Sys2Proof.Machine

/-! ### Byte order (R178) -/

/-- A multi-byte value, most significant byte first. -/
def beNat (l : List Byte) : Nat := l.foldl (fun acc x => acc * 256 + x.toNat) 0

/-- The k bytes of a value, most significant first; the value is taken modulo 256^k. -/
def natBe : Nat → Nat → List Byte
  | 0, _ => []
  | k + 1, v => natBe k (v / 256) ++ [BitVec.ofNat 8 v]

/-- A signed value of k bytes in two's complement. -/
def intBe (k : Nat) (x : Int) : List Byte := natBe k (x % (256 ^ k : Nat)).toNat

/-- Reading two's complement of k bytes. -/
def beInt (l : List Byte) : Int :=
  if 2 * beNat l < 256 ^ l.length then (beNat l : Int) else (beNat l : Int) - (256 ^ l.length : Nat)

/-- An unsigned count in k bytes; where it does not fit, the spec states no result and each byte is a free value (log entry 16). -/
def fitBe (k v : Nat) : List Byte :=
  if v < 256 ^ k then natBe k v else (List.range k).map (Config.overflowByte v)

/-- `len` bytes of a message from an offset. -/
def field (l : List Byte) (off len : Nat) : List Byte := (l.drop off).take len

/-- One byte of a message; a byte that the message does not have reads 0. -/
def byteAt (l : List Byte) (off : Nat) : Byte := l.getD off 0

/-! ### Check words (R178) -/

/-- One bit into the CRC-16 register: x^16 + x^12 + x^5 + 1. -/
def crc16Bit (r : BitVec 16) (x : Bool) : BitVec 16 :=
  if r.msb == x then r <<< 1 else (r <<< 1) ^^^ 0x1021#16

/-- One byte into the CRC-16 register, most significant bit first. -/
def crc16Byte (r : BitVec 16) (x : Byte) : BitVec 16 :=
  [7, 6, 5, 4, 3, 2, 1, 0].foldl (fun acc i => crc16Bit acc (x.getLsbD i)) r

/-- The CRC-16 of the link and of sample sets: all ones at the start, not inverted. -/
def crc16 (l : List Byte) : BitVec 16 := l.foldl crc16Byte 0xFFFF#16

/-- One bit into the CRC-32 register: 04C11DB7. -/
def crc32Bit (r : BitVec 32) (x : Bool) : BitVec 32 :=
  if r.msb == x then r <<< 1 else (r <<< 1) ^^^ 0x04C11DB7#32

/-- One byte into the CRC-32 register, most significant bit first. -/
def crc32Byte (r : BitVec 32) (x : Byte) : BitVec 32 :=
  [7, 6, 5, 4, 3, 2, 1, 0].foldl (fun acc i => crc32Bit acc (x.getLsbD i)) r

/-- The CRC-32 of records and configuration blocks: all ones at the start, inverted. -/
def crc32 (l : List Byte) : BitVec 32 := ~~~(l.foldl crc32Byte 0xFFFFFFFF#32)

/-! ### The bytes of the store (R147, R178) -/

/-- What an erased store byte reads (R178). -/
def erasedByte : Byte := 255

/-- The canonical form of the store: addresses strictly rising and inside the 65 536 bytes, and no erased byte listed. -/
abbrev memWf (m : List Host.Cell) : Prop :=
  m.Pairwise (fun x y => x.1 < y.1) ∧ ∀ c ∈ m, c.2 ≠ erasedByte ∧ c.1 < 65536

/-- The byte at an address; an unlisted address is erased. -/
def memRead : List Host.Cell → Nat → Byte
  | [], _ => erasedByte
  | c :: r, adr => if c.1 = adr then c.2 else memRead r adr

/-- A listed byte put at its place. -/
def memPut : List Host.Cell → Nat → Byte → List Host.Cell
  | [], adr, x => [(adr, x)]
  | c :: r, adr, x =>
    if adr < c.1 then (adr, x) :: c :: r
    else if adr = c.1 then (adr, x) :: r
    else c :: memPut r adr x

/-- A byte written: the erased value removes the entry. -/
def memWrite (m : List Host.Cell) (adr : Nat) (x : Byte) : List Host.Cell :=
  if x = erasedByte then m.filter (fun c => c.1 != adr) else memPut m adr x

/-- Consecutive bytes written from an address. -/
def memWriteBytes (m : List Host.Cell) (adr : Nat) : List Byte → List Host.Cell
  | [] => m
  | x :: xs => memWriteBytes (memWrite m adr x) (adr + 1) xs

/-- Consecutive bytes read from an address. -/
def memReadBytes (m : List Host.Cell) (adr len : Nat) : List Byte :=
  (List.range len).map (fun i => memRead m (adr + i))

/-- A range of bytes returned to erased. -/
def memErase (m : List Host.Cell) (adr len : Nat) : List Host.Cell :=
  m.filter (fun c => !(decide (adr ≤ c.1) && decide (c.1 < adr + len)))

/-- The address of slot n of the whole store (32 slots a sector, 32 bytes a slot). -/
def slotAddr (n : Nat) : Nat := n * 32

/-- The first slot of a page. -/
def pageSlot (sector : Fin 64) (page : Fin 8) : Nat := sector.val * 32 + page.val * 4

/-- A slot is erased when every byte of it is (R162). -/
def slotErased (m : List Host.Cell) (n : Nat) : Bool :=
  !(m.any (fun c => c.1 / 32 == n && c.2 != erasedByte))

/-- The 32 bytes of a slot. -/
def slotImage (m : List Host.Cell) (n : Nat) : List Byte := memReadBytes m (slotAddr n) 32

/-- A page is erased when its four slots are erased (R162). -/
def pageErased (m : List Host.Cell) (sector : Fin 64) (page : Fin 8) : Bool :=
  !(m.any (fun c => c.1 / 128 == sector.val * 8 + page.val && c.2 != erasedByte))

/-! ### Free choices (log entry 3) -/

/-- The next free choice between two orders of taking events. -/
def Dev.choice (d : Dev) : Bool := Config.choice d.freeIdx

/-- The choice is used up: the next one is another value. -/
def Dev.spend (d : Dev) : Dev := d.setFreeIdx (d.freeIdx + 1)

/-! ### Reads the blocks share -/

/-- The part takes events of its line, ports and timers in RUNNING and SHUTDOWN only (R172, R177; log entry 4). -/
def Dev.up (d : Dev) : Bool := d.run == .running || d.run == .shutdown

/-- A command's effect while the part is up; otherwise nothing comes of it. -/
def Dev.whenUp (f : Dev → Dev) (d : Dev) : Dev := if d.up then f d else d

/-- The other outlet. -/
def otherOutlet : Outlet → Outlet
  | .a => .b
  | .b => .a

/-- An order's outlet code (chapter 12: 1 for A, 2 for B). -/
def outletOfCode (x : Byte) : Option Outlet :=
  if x = 1 then some .a else if x = 2 then some .b else none

/-- The code of an outlet or of none. -/
def outletCode : Option Outlet → Byte
  | none => 0
  | some .a => 1
  | some .b => 2

/-- The session record of an outlet; none is NONE (Table 7-3). -/
def Hoc.session (h : Hoc) : Outlet → Option Session
  | .a => h.sessionA
  | .b => h.sessionB

def Hoc.setSession (h : Hoc) (x : Outlet) (v : Option Session) : Hoc :=
  match x with
  | .a => { h with sessionA := v }
  | .b => { h with sessionB := v }

/-- The session record of the assigned outlet. -/
def Hoc.ownSession (h : Hoc) : Option Session := h.assignment.bind h.session

/-- The contactor record of an outlet. -/
def Ctc.get (c : Ctc) : Outlet → Contactor
  | .a => c.a
  | .b => c.b

def Ctc.set (c : Ctc) (x : Outlet) (v : Contactor) : Ctc :=
  match x with
  | .a => { c with a := v }
  | .b => { c with b := v }

/-- The state of an outlet's contactor record. -/
def Dev.con (d : Dev) (x : Outlet) : CState := (d.ctc.get x).state

/-- The state of the assigned outlet's contactor, or none without an assignment. -/
def Dev.ownCon (d : Dev) : Option CState := d.hoc.assignment.map d.con

/-- The own cell is a member of its assigned outlet: that contactor is CLOSED (R64). -/
def Dev.ownMember (d : Dev) : Bool := d.ownCon == some .closed

/-- Either record WELDED (R74, R85, R109). -/
def Ctc.anyWelded (c : Ctc) : Bool := c.a.state == .welded || c.b.state == .welded

/-- Both records OPEN (R112, R176). -/
def Ctc.bothOpen (c : Ctc) : Bool := c.a.state == .opened && c.b.state == .opened

/-- The member states of R106. -/
def HState.isMember : HState → Bool
  | .onBus => true
  | .matching => true
  | .parallelUp => true
  | .parallelHold => true
  | .island => true
  | .departWait => true
  | .parallelDown => true
  | .releaseWait => true
  | .off => false
  | .assigned => false
  | .forming => false
  | .joining => false
  | .leaving => false
  | .tripped => false

/-- The member states in which the outlet carries ship load (R110). -/
def HState.isLoaded : HState → Bool
  | .parallelUp => true
  | .parallelHold => true
  | .island => true
  | .departWait => true
  | .parallelDown => true
  | .releaseWait => true
  | .onBus => false
  | .matching => false
  | .off => false
  | .assigned => false
  | .forming => false
  | .joining => false
  | .leaving => false
  | .tripped => false

/-- Table 2-2. -/
def HState.mode : HState → Mode
  | .off => .stopped
  | .assigned => .stopped
  | .tripped => .stopped
  | .forming => .forming
  | .joining => .follow
  | .matching => .follow
  | .onBus => .parallel
  | .parallelUp => .parallel
  | .parallelHold => .parallel
  | .parallelDown => .parallel
  | .releaseWait => .parallel
  | .leaving => .parallel
  | .island => .island
  | .departWait => .island

/-- The handover state of a code of Table 12-3. -/
def HState.code : HState → Nat
  | .off => 0
  | .assigned => 1
  | .forming => 2
  | .joining => 3
  | .onBus => 4
  | .matching => 5
  | .parallelUp => 6
  | .parallelHold => 7
  | .island => 8
  | .departWait => 9
  | .parallelDown => 10
  | .releaseWait => 11
  | .leaving => 12
  | .tripped => 13

def hstateOfCode (n : Nat) : Option HState :=
  [HState.off, .assigned, .forming, .joining, .onBus, .matching, .parallelUp, .parallelHold, .island, .departWait,
    .parallelDown, .releaseWait, .leaving, .tripped][n]?

def CState.code : CState → Nat
  | .opened => 0
  | .closing => 1
  | .closed => 2
  | .opening => 3
  | .welded => 4

def cstateOfCode (n : Nat) : Option CState :=
  [CState.opened, .closing, .closed, .opening, .welded][n]?

end Sys2Proof.Machine
end

