-- ==== Sys2Proof/Machine/Flags.lean ====
section
/-! DEFINITION. The notice unit: kinds, classes, raises, the class summary, acknowledgement and the reply queue (chapter 10). -/

namespace Sys2Proof.Machine

/-- The class of a kind (Table 10-1). -/
def NoticeKind.cls : NoticeKind → NoticeClass
  | .badBulletin => .correctable
  | .foreign => .correctable
  | .sampleGap => .correctable
  | .timeStep => .correctable
  | .markChange => .correctable
  | .configClamped => .correctable
  | .badRecord => .correctable
  | .orderOverrun => .correctable
  | .peerLost => .nonFatal
  | .linkSilent => .nonFatal
  | .vesselConflict => .nonFatal
  | .syncTimeout => .nonFatal
  | .closeFail => .nonFatal
  | .auxDrop => .nonFatal
  | .rampStall => .nonFatal
  | .releaseStall => .nonFatal
  | .leaveStall => .nonFatal
  | .shipCloseUnpermitted => .nonFatal
  | .shipOpenUnexpected => .nonFatal
  | .storeLow => .nonFatal
  | .storeFull => .nonFatal
  | .duplicateStation => .fatal
  | .overcurrent => .fatal
  | .overload => .fatal
  | .sampleLoss => .fatal
  | .openFail => .fatal
  | .auxUnexpected => .fatal
  | .configBad => .fatal

/-- All kinds in the order of Table 10-1: kind k stands at place k − 1. -/
def NoticeKind.all : List NoticeKind :=
  [.badBulletin, .foreign, .sampleGap, .timeStep, .markChange, .configClamped, .badRecord, .orderOverrun, .peerLost,
    .linkSilent, .vesselConflict, .syncTimeout, .closeFail, .auxDrop, .rampStall, .releaseStall, .leaveStall,
    .shipCloseUnpermitted, .shipOpenUnexpected, .storeLow, .storeFull, .duplicateStation, .overcurrent, .overload,
    .sampleLoss, .openFail, .auxUnexpected, .configBad]

/-- The place of a kind in the table, its code less one. -/
def NoticeKind.idx : NoticeKind → Fin 28
  | .badBulletin => 0
  | .foreign => 1
  | .sampleGap => 2
  | .timeStep => 3
  | .markChange => 4
  | .configClamped => 5
  | .badRecord => 6
  | .orderOverrun => 7
  | .peerLost => 8
  | .linkSilent => 9
  | .vesselConflict => 10
  | .syncTimeout => 11
  | .closeFail => 12
  | .auxDrop => 13
  | .rampStall => 14
  | .releaseStall => 15
  | .leaveStall => 16
  | .shipCloseUnpermitted => 17
  | .shipOpenUnexpected => 18
  | .storeLow => 19
  | .storeFull => 20
  | .duplicateStation => 21
  | .overcurrent => 22
  | .overload => 23
  | .sampleLoss => 24
  | .openFail => 25
  | .auxUnexpected => 26
  | .configBad => 27

/-- The kind of a code 1..28 (chapter 12, ACKNOWLEDGE NOTICES). -/
def kindOfCode (x : Byte) : Option NoticeKind := if x = 0 then none else NoticeKind.all[x.toNat - 1]?

/-- The enable of a class (R165). -/
def Cfg.enabled (c : Cfg) : NoticeClass → Bool
  | .correctable => c.enCorr
  | .nonFatal => c.enNonFatal
  | .fatal => c.enFatal

/-- The record of a kind. -/
def Ntu.entry (n : Ntu) (k : NoticeKind) : KindRec := n.kinds[k.idx]

/-- A raise: count up, pending set, and the kind queued when its class is enabled and it is not queued yet (R165). -/
def Ntu.raise (n : Ntu) (enabled : Bool) (k : NoticeKind) : Ntu :=
  { n with
    kinds := n.kinds.set k.idx ⟨true, min 255 ((n.entry k).count + 1)⟩
    queue := if enabled && !n.queue.contains k then n.queue ++ [k] else n.queue }

/-- A block raises a notice. -/
def Dev.raise (k : NoticeKind) (d : Dev) : Dev := d.setNtu (d.ntu.raise (d.cfg.enabled k.cls) k)

/-- A raise that happens only under a condition. -/
def Dev.raiseIf (c : Bool) (k : NoticeKind) (d : Dev) : Dev := if c then d.raise k else d

/-- Some kind of a class is pending: one flag of the class summary (R165). -/
def Ntu.summary (n : Ntu) (c : NoticeClass) : Bool := NoticeKind.all.any (fun k => k.cls == c && (n.entry k).pending)

/-- A listed kind cleared by an acknowledgement: flag, count and place in the queue (R167). -/
def Ntu.clear (n : Ntu) (k : NoticeKind) : Ntu :=
  { n with kinds := n.kinds.set k.idx ⟨false, 0⟩, queue := n.queue.filter (fun q => q != k) }

/-- The reply queue has a free place (R169). -/
def Ntu.hasPlace (n : Ntu) : Bool := decide (n.replies.length < 4)

/-- The order path takes a place, not yet filled. -/
def Ntu.takePlace (n : Ntu) (k : OrderKind) (h : OrderHead) : Ntu :=
  { n with replies := n.replies ++ [⟨k, h.tag, h.sender, none⟩] }

/-- The owning block fills the place that stands unfilled. -/
def fillPlaces (r : Result) : List ReplyPlace → List ReplyPlace
  | [] => []
  | p :: ps => if p.result = none then { p with result := some r } :: ps else p :: fillPlaces r ps

def Ntu.fill (n : Ntu) (r : Result) : Ntu := { n with replies := fillPlaces r n.replies }

/-- The METER spacing count rises at each cycle beginning (R171). -/
def Ntu.tick (n : Ntu) : Ntu := { n with spacing := min 8 (n.spacing + 1) }

end Sys2Proof.Machine
end

