-- ==== Sys2Proof/Machine/Operands.lean ====
section
/-! DEFINITION. The byte layouts of chapter 12: marks, bulletins, bodies, orders, annexes and stored records, decoded and encoded (R178, R179). -/

namespace Sys2Proof.Machine

/-! ### Marks and bulletins (Tables 12-1, 12-2) -/

/-- A message with its CRC-16 after it. -/
def withCrc16 (l : List Byte) : List Byte := l ++ natBe 2 (crc16 l).toNat

/-- The last two bytes are the CRC-16 of the ones before them. -/
def crc16Good (l : List Byte) (len : Nat) : Bool :=
  l.length == len && field l (len - 2) 2 == natBe 2 (crc16 (l.take (len - 2))).toNat

/-- A mark of a cycle number by a station. -/
def encodeMark (cycle station : Nat) : List Byte :=
  withCrc16 (165 :: (natBe 2 cycle ++ [BitVec.ofNat 8 station]))

/-- The mark decoder: the mark code, and a good check word (R43); the cycle number and the sender. -/
def decodeMark (l : List Byte) : Option (Nat × Nat) :=
  if crc16Good l 6 && byteAt l 0 == 165 then some (beNat (field l 1 2), (byteAt l 3).toNat) else none

/-- The station role of a header (Table 12-2). -/
inductive Role where
  | cell
  | terminal
  | vessel
deriving DecidableEq, Repr

def roleOfCode (x : Byte) : Option Role :=
  if x = 1 then some .cell else if x = 2 then some .terminal else if x = 3 then some .vessel else none

/-- The 20 body bytes of a bulletin. -/
def bulletinBody (l : List Byte) : List Byte := field l 4 20

/-- The 42 order field bytes of a TERMINAL bulletin: body bytes 10..19 and the annex (R179). -/
def orderFields (l : List Byte) : List Byte := field l 14 42

/-! ### Bodies -/

def inRange (lo hi x : Int) : Bool := decide (lo ≤ x) && decide (x ≤ hi)

/-- The outlet codes of a CELL body: 0 none, 1 A, 2 B; none here is a code without a meaning. -/
def optOutletOfCode (x : Byte) : Option (Option Outlet) :=
  if x = 0 then some none else if x = 1 then some (some .a) else if x = 2 then some (some .b) else none

/-- A CELL body that passes the range check of R60 (Table 12-3); none is a rejected one. Bits without a field are not tested. -/
def decodeCell (b : List Byte) : Option CellBody :=
  match optOutletOfCode (byteAt b 0), hstateOfCode (byteAt b 1).toNat, cstateOfCode ((byteAt b 2).toNat / 16),
      cstateOfCode ((byteAt b 2).toNat % 16) with
  | some outlet, some hs, some ca, some cb =>
    let flags := byteAt b 3
    let link := (byteAt b 4).toNat % 4
    let p := beInt (field b 5 2)
    let q := beInt (field b 7 2)
    let pu := beInt (field b 9 2)
    let fr := beInt (field b 11 2)
    let rating := beNat (field b 13 2)
    let freq := beNat (field b 17 3)
    if (link == 1 || link == 2) && inRange (-32767) 32767 p && inRange (-32767) 32767 q && inRange (-32767) 32767 pu
        && inRange (-3000) 3000 fr && inRange 500 4000 rating && (freq == 0 || inRange 40000 69999 freq) then
      some
        { outlet := outlet
          hstate := hs
          conA := ca
          conB := cb
          p := p
          pu := pu
          fRamp := fr
          rating := rating
          joinAge := beNat (field b 15 2)
          forming := flags.getLsbD 7
          lead := flags.getLsbD 6
          leaving := flags.getLsbD 5 }
    else none
  | _, _, _, _ => none

/-- A TERMINAL body's time that passes the range check (Table 12-4). -/
def decodeTime (b : List Byte) : Option TimeBody :=
  let second := beNat (field b 2 3)
  let cycle := beNat (field b 5 2)
  if second ≤ 86399 ∧ cycle ≤ 499 then some ⟨beNat (field b 0 2), second, cycle⟩ else none

/-- A yes/no code. -/
def flagOfCode (x : Byte) : Option Bool := if x = 0 then some false else if x = 1 then some true else none

/-- A VESSEL body that passes the range check (Table 12-5). -/
def decodeVessel (b : List Byte) : Option (Outlet × ShipFacts) :=
  match outletOfCode (byteAt b 0), flagOfCode (byteAt b 1), flagOfCode (byteAt b 2), flagOfCode (byteAt b 6) with
  | some x, some cable, some breaker, some ready =>
    let load := beInt (field b 4 2)
    if (byteAt b 3).toNat ≤ 15 ∧ inRange (-32767) 32767 load then
      some (x, ⟨cable, ready, breaker, (byteAt b 3).toNat, load⟩)
    else none
  | _, _, _, _ => none

/-- The decoded body of an accepted bulletin by its role; none is a body rejected under R60. -/
def decodeBody (role : Role) (b : List Byte) : Option PeerBody :=
  match role with
  | .cell => (decodeCell b).map .cell
  | .terminal => (decodeTime b).map .terminal
  | .vessel => (decodeVessel b).map (fun v => .vessel v.1 v.2)

/-! ### Orders (Table 12-4, ORDER FIELDS) -/

/-- An order with its fields as the bulletin carries them. -/
inductive Order where
  | assign (outlet : Byte)
  | unassign
  | sessionOpen (f : SessionFields)
  | sessionClose (outlet : Byte) (id : BitVec 32)
  | startTransfer (outlet : Byte)
  | startDeparture (outlet : Byte)
  | clearTrip
  | tariff (count : Byte) (groups : List (BitVec 16 × Byte))
  | collect (start : BitVec 32) (count : Byte)
  | confirm (upTo : BitVec 32)
  | flush
  | acknowledge (count : Byte) (codes : List Byte)
  | restart (pins : Pins)
  | unknown (kind : Byte)
deriving DecidableEq, Repr

def Order.kind : Order → OrderKind
  | .assign _ => .assign
  | .unassign => .unassign
  | .sessionOpen _ => .sessionOpen
  | .sessionClose _ _ => .sessionClose
  | .startTransfer _ => .startTransfer
  | .startDeparture _ => .startDeparture
  | .clearTrip => .clearTrip
  | .tariff _ _ => .tariff
  | .collect _ _ => .collect
  | .confirm _ => .confirm
  | .flush => .flush
  | .acknowledge _ _ => .acknowledgeNotices
  | .restart _ => .restart
  | .unknown k => .unknown k

def OrderKind.code : OrderKind → Byte
  | .assign => 1
  | .unassign => 2
  | .sessionOpen => 3
  | .sessionClose => 4
  | .startTransfer => 5
  | .startDeparture => 6
  | .clearTrip => 7
  | .tariff => 8
  | .collect => 9
  | .confirm => 10
  | .flush => 11
  | .acknowledgeNotices => 12
  | .restart => 13
  | .unknown k => k

def u16At (f : List Byte) (off : Nat) : BitVec 16 := BitVec.ofNat 16 (beNat (field f off 2))
def u32At (f : List Byte) (off : Nat) : BitVec 32 := BitVec.ofNat 32 (beNat (field f off 4))

/-- The order of a TERMINAL bulletin's kind code and field bytes; kind 0 is no order (R55). RESTART re-reads the pins as they stand (R173). -/
def decodeOrder (kind : Byte) (f : List Byte) (pins : Pins) : Option Order :=
  if kind = 0 then none
  else if kind = 1 then some (.assign (byteAt f 0))
  else if kind = 2 then some .unassign
  else if kind = 3 then
    some (.sessionOpen ⟨byteAt f 0, u32At f 1, u32At f 5, u16At f 9, u16At f 11, byteAt f 13, u16At f 14⟩)
  else if kind = 4 then some (.sessionClose (byteAt f 0) (u32At f 1))
  else if kind = 5 then some (.startTransfer (byteAt f 0))
  else if kind = 6 then some (.startDeparture (byteAt f 0))
  else if kind = 7 then some .clearTrip
  else if kind = 8 then
    some (.tariff (byteAt f 0) ([0, 1, 2, 3, 4, 5].map (fun i => (u16At f (1 + 3 * i), byteAt f (3 + 3 * i)))))
  else if kind = 9 then some (.collect (u32At f 0) (byteAt f 4))
  else if kind = 10 then some (.confirm (u32At f 0))
  else if kind = 11 then some .flush
  else if kind = 12 then some (.acknowledge (byteAt f 0) (field f 1 28))
  else if kind = 13 then some (.restart pins)
  else some (.unknown kind)

/-! ### Annexes (Table 12-6) -/

/-- The item granted to a bulletin's annex. -/
inductive Annex where
  | none
  | permit (outlet : Outlet) (e : Option Eval)
  | openRequest (outlet : Outlet) (id : Nat)
  | shed (outlet : Outlet) (excess : Int)
  | reply (p : ReplyPlace)
  | notice (k : NoticeKind) (r : KindRec)
  | record (image : List Byte)
  | gone (requester oldest : Nat)
  | finish (requester newest : Nat)
  | meter (session first : Option Nat) (importWh : Nat) (copy : Copy) (armed : Bool) (dropped : Nat)
deriving DecidableEq, Repr

def Annex.code : Annex → Byte
  | .none => 0
  | .permit _ _ => 1
  | .openRequest _ _ => 2
  | .shed _ _ => 3
  | .reply _ => 4
  | .notice _ _ => 5
  | .record _ => 6
  | .gone _ _ => 7
  | .finish _ _ => 8
  | .meter _ _ _ _ _ _ => 9

def flagByte (x : Bool) : Byte := if x then 1 else 0

def resultCode : Option Result → Byte
  | none => 0
  | some .accepted => 0
  | some (.refused .state) => 1
  | some (.refused .range) => 2
  | some (.refused .capacity) => 3
  | some (.refused .interlock) => 4
  | some (.refused .unknown) => 5

def NoticeClass.code : NoticeClass → Byte
  | .correctable => 1
  | .nonFatal => 2
  | .fatal => 3

/-- The value of an index field: 8 388 607 is none, in the last index as in the first (Table 12-7; log entry 54). -/
def indexCode : Option Nat → Nat
  | none => 8388607
  | some i => i

/-- The bytes of an annex before its zero padding. A PERMIT's channel is MET, so its latest evaluation holds all three values. A METER annex
without a session carries 0 as its session ID (R146, Table 12-6; log entry 59). -/
def Annex.bytes : Annex → List Byte
  | .none => []
  | .permit x e =>
    outletCode (some x) :: (intBe 2 ((e.bind Eval.slip).getD 0) ++ intBe 2 ((e.bind Eval.predicted).getD 0)
      ++ intBe 2 ((e.bind Eval.dv).getD 0))
  | .openRequest x id => outletCode (some x) :: natBe 4 id
  | .shed x e => outletCode (some x) :: intBe 2 e
  | .reply p => [p.kind.code, p.tag, BitVec.ofNat 8 p.requester, resultCode p.result]
  | .notice k r => [BitVec.ofNat 8 (k.idx.val + 1), k.cls.code, BitVec.ofNat 8 r.count, flagByte r.pending]
  | .record image => image
  | .gone q o => BitVec.ofNat 8 q :: natBe 4 o
  | .finish q n => BitVec.ofNat 8 q :: natBe 4 n
  | .meter ses first imp copy armed dropped =>
    flagByte ses.isSome :: (natBe 4 (ses.getD 0) ++ natBe 3 (indexCode first) ++ fitBe 4 imp
      ++ [flagByte (copy == .b), flagByte armed, BitVec.ofNat 8 dropped])

/-- Bytes without a field are sent as 0 (R178). -/
def padTo (n : Nat) (l : List Byte) : List Byte := l ++ List.replicate (n - l.length) 0

/-! ### Stored records (Table 12-7) -/

/-- The day and second bytes of a record's time; 0 when there is none. -/
def timeBytes : Option (Nat × Nat) → List Byte
  | none => natBe 2 0 ++ natBe 3 0
  | some (day, second) => natBe 2 day ++ natBe 3 second

/-- Byte 4: the kind in the upper three positions, the flags in the lower five. -/
def kindByte (kind flags : Nat) : Byte := BitVec.ofNat 8 (kind * 32 + flags)

def bitIf (x : Bool) (v : Nat) : Nat := if x then v else 0

def TripCause.code : TripCause → Nat
  | .overcurrent => 1
  | .overload => 2
  | .sampleLoss => 3
  | .muted => 4
  | .openFail => 5
  | .auxUnexpected => 6

def LeaveCause.code : LeaveCause → Nat
  | .leave => 1
  | .trip => 2
  | .auxDrop => 3
  | .sessionClose => 4
  | .power => 5

/-- Bytes 4..27 of a record. -/
def Rec.content : Rec → List Byte
  | .sessionJoin m time =>
    kindByte 1 (bitIf time.isNone 8) :: (natBe 4 m.id
      ++ [outletCode (some m.outlet), flagByte (m.fNom == 60000)] ++ natBe 2 (m.demand.getD 0) ++ timeBytes time)
  | .interval iv =>
    kindByte 2 (bitIf iv.isPartial 16 + bitIf iv.merged 8 + bitIf iv.mixedRate 4 + bitIf iv.stepped 2 + bitIf iv.backward 1)
      :: (natBe 4 (iv.session.getD 0)
      ++ natBe 6 (indexCode iv.first * 33554432 + indexCode iv.last * 4 + iv.cls)
      ++ fitBe 4 iv.importWh ++ fitBe 4 iv.exportWh ++ intBe 2 iv.ownPeak ++ intBe 2 iv.outletPeak
      ++ [BitVec.ofNat 8 (min 255 (iv.seconds / 4))])
  | .sessionLeave id x imp exp count cause time =>
    kindByte 3 (bitIf time.isNone 8) :: (natBe 4 id ++ [outletCode (some x)] ++ fitBe 4 imp ++ fitBe 4 exp
      ++ natBe 2 (min 65535 count) ++ [BitVec.ofNat 8 cause.code] ++ timeBytes time)
  | .interruption id restart =>
    kindByte 4 8 :: (natBe 4 id ++ [if restart then 2 else 1])
  | .event e =>
    kindByte 5 (bitIf e.session.isNone 16 + bitIf e.time.isNone 8) :: (natBe 4 (e.session.getD 0)
      ++ [if e.trip.isSome then 1 else 2, BitVec.ofNat 8 ((e.trip.map TripCause.code).getD 0), outletCode e.on,
          BitVec.ofNat 8 (e.conA.code * 16 + e.conB.code), BitVec.ofNat 8 e.hstate.code]
      ++ intBe 2 e.p ++ timeBytes e.time)

/-- The 32-byte image: sequence, content padded to 28 bytes, and the CRC-32 over them. -/
def recordImage (seq : Nat) (r : Rec) : List Byte :=
  let content := padTo 28 (natBe 4 seq ++ r.content)
  content ++ natBe 4 (crc32 content).toNat

/-- The check word of a stored image is good (R162). -/
def imageGood (image : List Byte) : Bool := field image 28 4 == natBe 4 (crc32 (image.take 28)).toNat

/-- The sequence in an image. -/
def imageSeq (image : List Byte) : Nat := beNat (field image 0 4)

/-- The session of an open membership that a newest record shows, by R144: a SESSION_JOIN, an INTERVAL, or an EVENT that carries a session ID. -/
def imageOpenSession (image : List Byte) : Option Nat :=
  let kind := (byteAt image 4).toNat / 32
  if kind == 1 || kind == 2 || (kind == 5 && !(byteAt image 4).getLsbD 4) then some (beNat (field image 5 4)) else none

end Sys2Proof.Machine
end

