-- ==== Sys2Proof/Machine/Store.lean ====
section
/-! DEFINITION. The record store: staging, write-back, the erase/program engine, collection reads, the available count, the scan and the loss of supply (chapter 9). -/

namespace Sys2Proof.Machine

/-! ### Reads of the store's state -/

/-- The entries that wait, oldest first (Table 9-2). -/
def Rst.waiting (r : Rst) : List Staged := r.queue.filter (fun e => !e.inProgram)

/-- The free count the meter reads (R149): 0 once the sequence numbers are exhausted. -/
def Rst.free (r : Rst) : Nat := if 4294967295 ≤ r.newest then 0 else 16 - r.queue.length

/-- The line of a sector in the sector table. -/
def Rst.line (r : Rst) (x : Fin 64) : SectorLine := r.table[x]

/-- A sector is eligible: no held record of it lies above the confirmed mark (R154). -/
def Rst.eligible (r : Rst) (x : Fin 64) : Bool :=
  match (r.line x).highest with
  | none => true
  | some h => decide (h ≤ r.mark)

/-- The next sector of the ring: sector P follows sector 63 (R147). -/
def Rst.next (r : Rst) (x : Fin 64) : Fin 64 := if x = 63 then r.protect else x + 1

/-- The sequence numbers held in the ring and in the queue (R148). -/
def Rst.heldSeqs (r : Rst) : List Nat := r.slots.map HeldSlot.seq ++ r.queue.map Staged.seq

/-- The page at the write position is erased: its own four slots are (R162), and it is not page 0 of a USED sector, which R152 and R163
call not erased (log entry 51). -/
def Rst.posErased (r : Rst) : Bool := pageErased r.mem r.posSector r.posPage && !(r.posPage == 0 && (r.line r.posSector).used)

/-- Write-back is due (R150). -/
def Rst.writeBackDue (r : Rst) : Bool :=
  decide (4 ≤ r.waiting.length) ||
    (match r.drain with
     | none => false
     | some m => r.waiting.any (fun e => decide (e.seq ≤ m)))

/-- The next sector is USED and eligible: the pre-erase test (R155). -/
def Rst.preEraseTest (r : Rst) : Bool := (r.line (r.next r.posSector)).used && r.eligible (r.next r.posSector)

/-- The three terms of the available count (R157). -/
def Rst.countTerms (r : Rst) : Nat :=
  (if r.posErased then
      4 * ((List.finRange 8).filter (fun p => decide (r.posPage ≤ p) && pageErased r.mem r.posSector p)).length
    else 32)
  + 32 * ((List.finRange 64).filter
      (fun x => decide (r.protect ≤ x) && x != r.posSector && (!(r.line x).used || r.eligible x))).length

/-- The available count: 0 where the position's page is not erased and its sector not eligible, as the store is FULL or is
about to be found so; otherwise the sum of the three terms (R156, R157, log entry 39). -/
def Rst.available (r : Rst) : Nat := if !r.posErased && !r.eligible r.posSector then 0 else r.countTerms

/-! ### Drain demands and timers (R150, R151) -/

/-- A drain demand: the drain mark takes the newest waiting entry; with none waiting nothing changes. -/
def Rst.demand (r : Rst) : Rst :=
  match r.waiting.getLast? with
  | none => r
  | some e => { r with drain := some e.seq }

/-- The timers at the joining of an entry: none with packing time 0; otherwise packing restarts and the absolute timer starts if stopped. -/
def Rst.joinTimers (c : Cfg) (r : Rst) : Rst :=
  if c.packing = 0 then r
  else
    { r with
      packTimer := some (c.packing * 100)
      absTimer := if r.absTimer.isNone && c.absolute != 0 then some (c.absolute * 1000) else r.absTimer }

/-! ### The engine (R152 to R156) -/

/-- The oldest waiting entries, up to k, become in program. -/
def markFirst : Nat → List Staged → List Staged
  | 0, l => l
  | _ + 1, [] => []
  | k + 1, e :: l => if e.inProgram then e :: markFirst (k + 1) l else { e with inProgram := true } :: markFirst k l

/-- The engine takes a due write-back: the page at the write position with up to four waiting entries (R150, R152). -/
def Rst.startProgram (r : Rst) : Rst :=
  let r1 := { r with queue := markFirst 4 r.queue, engine := .programming r.posSector r.posPage }
  let r2 := if r1.waiting.isEmpty then { r1 with packTimer := none, absTimer := none } else r1
  match r2.drain with
  | none => r2
  | some m => if r2.waiting.any (fun e => decide (e.seq ≤ m)) then r2 else { r2 with drain := none }

/-- The highest sequence among the held slots of a sector. -/
def highestOf (slots : List HeldSlot) (x : Fin 64) : Option Nat :=
  ((slots.filter (fun h => h.slot / 32 == x.val)).map HeldSlot.seq).max?

/-- A ring slot found bad at a read is not held from then on (R160). -/
def Rst.dropSlot (r : Rst) (h : HeldSlot) : Rst :=
  let slots := r.slots.filter (fun g => g != h)
  let r1 :=
    { r with
      slots := slots
      table := r.table.mapIdx (fun i (l : SectorLine) => if h.slot / 32 == i then { l with highest := highestOf slots (Fin.ofNat 64 i) } else l) }
  { r1 with oldest := r1.heldSeqs.min? }

/-- One attempt at a collection read for a job (R160): the ready item and the next sequence, or the bad slot that was met. -/
inductive ReadOutcome where
  | item (i : ReadyItem) (next : Nat)
  | bad (h : HeldSlot)
deriving DecidableEq, Repr

/-- The item that a held record of sequence n gives. -/
def Rst.readSeq (r : Rst) (n : Nat) : ReadOutcome :=
  match r.slots.find? (fun h => h.seq == n) with
  | some h => if imageGood (slotImage r.mem h.slot) then .item (.record (slotImage r.mem h.slot)) (n + 1) else .bad h
  | none => .item (.record (((r.queue.find? (fun e => e.seq == n)).map Staged.image).getD [])) (n + 1)

/-- The table of R160. -/
def Rst.readOnce (r : Rst) (next : Nat) : ReadOutcome :=
  match r.oldest, (r.heldSeqs.filter (fun n => decide (next ≤ n))).min? with
  | some o, found =>
    if next < o then .item (.gone o) o
    else
      match found with
      | none => .item (.finish r.newest) next
      | some n => r.readSeq n
  | none, none => .item (.finish r.newest) next
  | none, some n => r.readSeq n

/-- The job takes a ready item. -/
def Rst.ready (r : Rst) (j : Job) (i : ReadyItem) (next : Nat) : Rst :=
  { r with job := some { j with ready := some i, next := next } }

/-- A collection read: bad slots are dropped with BAD_RECORD and the read is made again (R160). The fuel bounds the bad slots. -/
def Dev.readLoop : Nat → Job → Dev → Dev
  | 0, _, d => d
  | fuel + 1, j, d =>
    match d.rst.readOnce j.next with
    | .item i next => d.setRst (d.rst.ready j i next)
    | .bad h => Dev.readLoop fuel j ((d.setRst (d.rst.dropSlot h)).raise .badRecord)

/-- The read that an open job without a ready item waits for. -/
def Dev.collectionRead (d : Dev) : Dev :=
  match d.rst.job with
  | none => d
  | some j => if j.ready.isSome then d else Dev.readLoop (d.rst.slots.length + 1) j d

/-- The engine's choice among erase, pre-erase and program, the read already made (R153, lines 2 to 4). An erase starts only
on a USED sector that is eligible at that moment (R154). -/
def Dev.engineWork (d : Dev) : Dev :=
  let r := d.rst
  if !r.posErased && !r.full then
    if r.eligible r.posSector then d.setRst { r with engine := .erasing r.posSector }
    else (d.setRst { r with full := true }).raise .storeFull
  else if r.preErase && r.preEraseTest && !r.full && d.run != .shutdown then
    d.setRst { r with engine := .erasing (r.next r.posSector), preErase := false }
  else if r.writeBackDue && r.posErased && !r.full then d.setRst r.startProgram
  else d

/-- The engine's choice while IDLE (R153). -/
def Dev.engineChoice (d : Dev) : Dev :=
  if d.rst.engine = .idle then d.collectionRead.engineWork else d

/-- The available-count test; `scan` is the end of the scan, where STORE_LOW is raised whenever the condition is set (R157). -/
def Dev.availableTest (scan : Bool) (d : Dev) : Dev :=
  let low := decide (d.rst.available ≤ d.cfg.nearFull)
  (d.setRst { d.rst with low := low }).raiseIf (low && (scan || !d.rst.low)) .storeLow

/-! ### Staging (R149) -/

/-- An entry at the tail of the queue with the next sequence number. -/
def Rst.join (r : Rst) (rec : Rec) : Rst :=
  { r with
    newest := r.newest + 1
    queue := r.queue ++ [⟨r.newest + 1, recordImage (r.newest + 1) rec, false⟩]
    oldest := some (r.oldest.getD (r.newest + 1)) }

/-- The timers and the demand an entry brings with it: a demand with packing time 0, and once the store has been handed the supply
warning (R150, R151, R164; log entry 58). -/
def Rst.afterJoin (c : Cfg) (r : Rst) : Rst :=
  let r1 := r.joinTimers c
  if c.packing = 0 || r.warned then r1.demand else r1

/-- An offer that finds room is taken, and the engine chooses (R149, R153). One that finds none is not taken. -/
def Dev.stage (rec : Rec) (d : Dev) : Dev :=
  if d.rst.free = 0 then d
  else (d.setRst ((d.rst.join rec).afterJoin d.cfg)).engineChoice

/-- A drain demand of the queue, and the engine's choice. -/
def Dev.drainDemand (d : Dev) : Dev := (d.setRst d.rst.demand).engineChoice

/-! ### Completions -/

/-- The images of the entries in program, in queue order: the bytes of one page of four slots at most (R147). -/
def Rst.programImages (r : Rst) : List Byte := ((r.queue.filter Staged.inProgram).flatMap Staged.image).take 128

/-- The held slots a completed program adds: the entries in program from the page's slot 0 on. -/
def heldFrom : Nat → List Staged → List HeldSlot
  | _, [] => []
  | n, e :: l => ⟨n, e.seq⟩ :: heldFrom (n + 1) l

/-- The first erased page of a sector after a page. -/
def nextErasedPage (m : List Host.Cell) (x : Fin 64) (p : Nat) : Option (Fin 8) :=
  (List.finRange 8).find? (fun q => decide (p < q.val) && pageErased m x q)

/-- The write position after a page: the next erased page of the sector, or page 0 of the next sector (R152, R163). -/
def Rst.placeAfter (r : Rst) (x : Fin 64) (p : Nat) : Rst :=
  match nextErasedPage r.mem x p with
  | some q => { r with posSector := x, posPage := q }
  | none => { r with posSector := r.next x, posPage := 0 }

/-- The pre-erase test where the write position has come to rest (R152, R155). -/
def Rst.landed (r : Rst) : Rst := { r with preErase := decide (r.posPage = 7) && r.preEraseTest }

/-- The effects of a completed page program on the store (R152). -/
def Rst.programmed (r : Rst) (x : Fin 64) (p : Fin 8) : Rst :=
  let done := r.queue.filter Staged.inProgram
  let r1 :=
    { r with
      mem := memWriteBytes r.mem (slotAddr (pageSlot x p)) r.programImages
      slots := r.slots ++ heldFrom (pageSlot x p) done
      table := r.table.set x ⟨true, (done.getLast?.map Staged.seq)⟩
      queue := r.queue.filter (fun e => !e.inProgram)
      engine := .idle }
  (r1.placeAfter x p.val).landed

/-- The effects of a completed sector erase on the store; a next sector that is ERASED needs no pre-erase (R154, R155). -/
def Rst.erased (r : Rst) (x : Fin 64) : Rst :=
  let r1 :=
    { r with
      mem := memErase r.mem (x.val * 1024) 1024
      slots := r.slots.filter (fun h => h.slot / 32 != x.val)
      table := r.table.set x ⟨false, none⟩
      engine := .idle }
  { r1 with oldest := r1.heldSeqs.min?, preErase := r1.preErase && r1.preEraseTest }

/-! ### Orders of the store (R150, R158, R159) -/

/-- CONFIRM: the mark, and the tests that a raised mark makes, the count test before the engine's choice (R158, R155, R156, R157; log
entry 52). -/
def Dev.confirmTo (upTo : Nat) (d : Dev) : Dev :=
  let m := min upTo d.rst.newest
  if d.rst.mark < m then
    let r1 := { d.rst with mark := m }
    let r2 := { r1 with preErase := if r1.posPage = 7 then r1.preEraseTest else r1.preErase }
    let r3 := { r2 with full := r2.full && !r2.eligible r2.posSector }
    ((d.setRst r3).availableTest false).engineChoice
  else d

/-- COLLECT: a new job in place of any other (R159). -/
def Dev.openJob (requester start count : Nat) (d : Dev) : Dev :=
  (d.setRst { d.rst with job := some ⟨requester, start, count, none⟩ }).engineChoice

/-- The grant of the ready item: it leaves the job, which reads again or closes (R161). -/
def Dev.itemGranted (d : Dev) : Dev :=
  match d.rst.job with
  | none => d
  | some j =>
    match j.ready with
    | none => d
    | some (.gone _) => (d.setRst { d.rst with job := some { j with ready := none } }).engineChoice
    | some (.finish _) => d.setRst { d.rst with job := none }
    | some (.record _) =>
      if j.remaining ≤ 1 then d.setRst { d.rst with job := none }
      else (d.setRst { d.rst with job := some { j with ready := none, remaining := j.remaining - 1 } }).engineChoice

/-! ### Loss of supply and START (R164, R172) -/

/-- The operation in flight runs to its completion: what it leaves in the bytes (R164, R172 stage 1). -/
def Rst.settledMem (r : Rst) : List Host.Cell :=
  match r.engine with
  | .idle => r.mem
  | .programming x p => memWriteBytes r.mem (slotAddr (pageSlot x p)) r.programImages
  | .erasing x => memErase r.mem (x.val * 1024) 1024

/-- Loss of supply in an operation: every byte it was changing is a free value (R152, R164). -/
def Rst.tornMem (n : Nat) (r : Rst) : List Host.Cell :=
  match r.engine with
  | .idle => r.mem
  | .programming x p =>
    memWriteBytes r.mem (slotAddr (pageSlot x p)) ((List.range r.programImages.length).map (Config.tornByte n))
  | .erasing x => memWriteBytes r.mem (x.val * 1024) ((List.range 1024).map (Config.tornByte n))

/-- The protected count read from the first word of sector 0; true when it is not 2, 4 or 8 and 8 is taken (R147). -/
def readProtect (m : List Host.Cell) : Fin 64 × Bool :=
  let v := beNat (memReadBytes m 0 4)
  if v = 2 then (2, false) else if v = 4 then (4, false) else if v = 8 then (8, false) else (8, true)

/-- What the scan finds in the ring: the good slots, and whether any slot is bad (R162). -/
def scanSlots (m : List Host.Cell) (protect : Fin 64) : List HeldSlot × Bool :=
  let ring := m.filter (fun c => decide (protect.val * 1024 ≤ c.1))
  let used := (List.range' (protect.val * 32) (2048 - protect.val * 32)).filter (fun n => !slotErased ring n)
  ((used.filter (fun n => imageGood (slotImage ring n))).map (fun n => ⟨n, imageSeq (slotImage ring n)⟩),
    used.any (fun n => !imageGood (slotImage ring n)))

/-- The sector table the scan forms (R162). -/
def scanTable (m : List Host.Cell) (slots : List HeldSlot) : Vector SectorLine 64 :=
  Vector.ofFn (fun x : Fin 64 => ⟨m.any (fun c => c.1 / 1024 == x.val && c.2 != erasedByte), highestOf slots x⟩)

/-- The slot of the newest held record. -/
def newestSlot (slots : List HeldSlot) : Option HeldSlot :=
  (slots.map HeldSlot.seq).max?.bind (fun n => slots.find? (fun h => h.seq == n))

/-- The store after the scan, before its engine choice (R162, R163). -/
def scanned (m : List Host.Cell) (protect : Fin 64) : Rst :=
  let slots := (scanSlots m protect).1
  let r0 := Rst.start m protect
  let newest := ((slots.map HeldSlot.seq).max?).getD 0
  let oldest := (slots.map HeldSlot.seq).min?
  let r1 :=
    { r0 with
      table := scanTable m slots
      slots := slots
      newest := newest
      oldest := oldest
      mark := match oldest with
        | none => newest
        | some o => o - 1 }
  match newestSlot slots with
  | none => r1.landed
  | some h => (r1.placeAfter (Fin.ofNat 64 (h.slot / 32)) (h.slot / 4 % 8)).landed

/-- The scan of START: BAD_RECORD once for any bad slot, the rebuilt state, the engine's choice and then the count test (R162, R163; the
order of STORE_FULL and STORE_LOW is log entry 52). -/
def Dev.scan (d : Dev) : Dev :=
  ((d.setRst (scanned d.rst.mem d.rst.protect)).raiseIf (scanSlots d.rst.mem d.rst.protect).2
    .badRecord).engineChoice.availableTest true

/-- The image of the newest held record, which the meter asks for (R144, R162). -/
def Rst.newestImage (r : Rst) : Option (List Byte) := (newestSlot r.slots).map (fun h => slotImage r.mem h.slot)

end Sys2Proof.Machine
end

