-- ==== Sys2Proof/Machine/Peer.lean ====
section
/-! DEFINITION. The peer table: entries, their storing and ageing, and the views formed from them at each read (chapter 4). -/

namespace Sys2Proof.Machine

/-- The entry of a station; a number that is no station's reads as the START entry. -/
def Ptb.get (t : Ptb) (k : Nat) : PeerEntry :=
  if h : 1 ≤ k ∧ k ≤ 31 then t.entries[k - 1]'(by omega) else PeerEntry.start

/-- The entry of a station replaced. -/
def Ptb.put (t : Ptb) (k : Nat) (e : PeerEntry) : Ptb :=
  if h : 1 ≤ k ∧ k ≤ 31 then ⟨t.entries.set (k - 1) e (by omega)⟩ else t

/-- All 31 entries with their station numbers, in station order. -/
def Ptb.all (t : Ptb) : List (Nat × PeerEntry) := (List.range 31).map (fun i => (i + 1, t.get (i + 1)))

/-! ### Storing and ageing (R59, R62) -/

/-- The entry of a stored bulletin. -/
def PeerEntry.stored (b : PeerBody) : PeerEntry := ⟨.live, 0, b⟩

/-- The effect of a missed outcome (R62). -/
def PeerEntry.aged (e : PeerEntry) : PeerEntry :=
  match e.state with
  | .absent => e
  | .live => { e with missed := min 50 (e.missed + 1), state := if 3 ≤ e.missed + 1 then .stale else .live }
  | .stale => { e with missed := min 50 (e.missed + 1), state := if 50 ≤ e.missed + 1 then .absent else .stale }

/-! ### The peers a view counts -/

/-- The CELL entries that are LIVE or STALE, in station order. -/
def Ptb.cells (t : Ptb) : List (Nat × PeerState × CellBody) :=
  t.all.filterMap (fun e =>
    match e.2.state, e.2.body with
    | .absent, _ => none
    | st, .cell b => some (e.1, st, b)
    | _, _ => none)

/-- The contactor state a body announces for an outlet. -/
def CellBody.con (b : CellBody) : Outlet → CState
  | .a => b.conA
  | .b => b.conB

/-- The peers that are members of X (R65). -/
def Ptb.members (t : Ptb) (x : Outlet) : List (Nat × PeerState × CellBody) :=
  t.cells.filter (fun c => c.2.2.outlet == some x && c.2.2.con x == .closed)

/-- The peers in the share set of X (R65). -/
def Ptb.sharers (t : Ptb) (x : Outlet) : List (Nat × PeerState × CellBody) :=
  (t.members x).filter (fun c => !c.2.2.leaving)

/-- The own cell is a member of X: its contactor X is CLOSED (R64). -/
def Dev.memberOf (d : Dev) (x : Outlet) : Bool := d.con x == .closed

/-- The own cell is in the share set of X. -/
def Dev.inShare (d : Dev) (x : Outlet) : Bool := d.memberOf x && d.hoc.leave.isNone

/-- The outlet total of X in kW (R66). -/
def Dev.outletTotal (d : Dev) (x : Outlet) : Int :=
  ((d.ptb.members x).map (fun c => c.2.2.p)).sum + (if d.memberOf x then d.msu.p else 0)

/-- The capacity sum of X in kW (R66). -/
def Dev.capacitySum (d : Dev) (x : Outlet) : Int :=
  (((d.ptb.sharers x).map (fun c => (c.2.2.rating : Int))).sum) + (if d.inShare x then (d.cfg.rating : Int) else 0)

/-- pu_avg over the share set with the own cell in it (R22). -/
def Dev.puAvg (d : Dev) (x : Outlet) : Int :=
  tdiv (((d.ptb.sharers x).map (fun c => c.2.2.pu)).sum + d.msu.pu) ((d.ptb.sharers x).length + 1)

/-- The own cell ranks first among itself and the LIVE peers of the share set (R67). -/
def Dev.ranksFirst (d : Dev) (x : Outlet) : Bool :=
  d.inShare x && ((d.ptb.sharers x).filter (fun c => c.2.1 == .live)).all (fun c =>
    decide (c.2.2.joinAge < d.hoc.joinAge) || (c.2.2.joinAge == d.hoc.joinAge && decide (d.cfg.station < c.1)))

/-- The forming claimants of X, lowest station first (R68). -/
def Ptb.formingClaimants (t : Ptb) (x : Outlet) : List Nat :=
  (t.cells.filter (fun c => c.2.2.outlet == some x && c.2.2.forming)).map (fun c => c.1)

/-- The lead claimants of X with the states they announce, lowest station first (R68). -/
def Ptb.leadClaimants (t : Ptb) (x : Outlet) : List (Nat × HState) :=
  ((t.members x).filter (fun c => c.2.1 == .live && c.2.2.lead)).map (fun c => (c.1, c.2.2.hstate))

/-- The state that the lowest-numbered lead claimant announces (R68). -/
def Ptb.leadState (t : Ptb) (x : Outlet) : Option HState := (t.leadClaimants x).head?.map (fun c => c.2)

/-- A cell that opposes the own forming claim to X (R113). -/
def Dev.opposed (d : Dev) (x : Outlet) : Bool :=
  (d.ptb.formingClaimants x).any (fun k => decide (k < d.cfg.station)) ||
    d.ptb.cells.any (fun c => c.2.2.outlet == some x && (c.2.2.con x == .closing || c.2.2.con x == .closed))

/-- The time source: the lowest-numbered LIVE TERMINAL (R69). -/
def Ptb.timeSource (t : Ptb) : Option Nat :=
  (t.all.find? (fun e =>
    match e.2.state, e.2.body with
    | .live, .terminal _ => true
    | _, _ => false)).map (fun e => e.1)

/-- The counted adapters of X with their facts, lowest station first (R70, R71). -/
def Ptb.adapters (t : Ptb) (x : Outlet) : List (Nat × ShipFacts) :=
  t.all.filterMap (fun e =>
    match e.2.state, e.2.body with
    | .absent, _ => none
    | _, .vessel y f => if y = x then some (e.1, f) else none
    | _, _ => none)

/-- The ship view of X (R70). -/
def Ptb.shipView (t : Ptb) (x : Outlet) : Option ShipFacts := (t.adapters x).head?.map (fun v => v.2)

/-- The station a ship view is drawn from. -/
def Ptb.shipSource (t : Ptb) (x : Outlet) : Option Nat := (t.adapters x).head?.map (fun v => v.1)

/-- An entry counts among X's adapters (R71). -/
def PeerEntry.adapterOf (e : PeerEntry) (x : Outlet) : Bool :=
  match e.state, e.body with
  | .absent, _ => false
  | _, .vessel y _ => y == x
  | _, _ => false

/-- A store makes station k a counted adapter of X while another is counted: VESSEL_CONFLICT (R71). -/
def vesselConflict (before after : Ptb) (k : Nat) (x : Outlet) : Bool :=
  !(before.get k).adapterOf x && (after.get k).adapterOf x && (after.adapters x).any (fun v => v.1 != k)

/-- An entry's last values name it a member of X (R63). -/
def PeerEntry.lastMember (e : PeerEntry) (x : Outlet) : Bool :=
  match e.body with
  | .cell b => b.outlet == some x && b.con x == .closed
  | _ => false

/-- The own cell's ship view: that of its assigned outlet. -/
def Dev.ownView (d : Dev) : Option ShipFacts := d.hoc.assignment.bind d.ptb.shipView

/-- The ship view of the assigned outlet reports cable ready; a view of none does not (R70, R112). -/
def Dev.cableReady (d : Dev) : Bool := (d.ownView.map ShipFacts.cableReady).getD false

end Sys2Proof.Machine
end

