-- ==== Sys2Proof/Machine/Meter.lean ====
section
/-! DEFINITION. The meter: record requests and the pending holder, memberships, energy, local time, intervals, demand and tariffs (chapter 8). -/

namespace Sys2Proof.Machine

/-! ### Reads -/

/-- The local day and second, or none while time is invalid (R130, R132, R143). -/
def Mtr.time (m : Mtr) : Option (Nat × Nat) := if m.timeValid then some (m.day, m.second) else none

/-- The interval index of the local time (R135). -/
def Mtr.index (m : Mtr) : Option Nat := if m.timeValid then some (m.day * 96 + m.second / 900) else none

/-- The start minute of an index; none counts as minute 0 (R135). -/
def startMinute : Option Nat → Nat
  | none => 0
  | some i => i % 96 * 15

/-- The schedule in force. -/
def Mtr.bands (m : Mtr) : List Band :=
  match m.active with
  | .a => m.copyA
  | .b => m.copyB

/-- The class of the band with the largest start minute not above a minute (R140). -/
def rateClass (bands : List Band) (minute : Nat) : Nat :=
  ((bands.filter (fun x => decide (x.start ≤ minute))).foldl
    (fun best x => if best.start ≤ x.start then x else best) ⟨0, 0⟩).cls

/-- The rate class of an index under the schedule in force. -/
def Mtr.classOf (m : Mtr) (i : Option Nat) : Nat := rateClass m.bands (startMinute i)

/-- A new open interval record at an index, with its class looked up and the membership's session ID (R135, R136). -/
def Mtr.newInterval (m : Mtr) (i : Option Nat) : Interval := Interval.begin i (m.classOf i) (m.membership.map Membership.id)

/-! ### Record requests (R141, R142) -/

/-- A record goes behind those in the pending holder, or is dropped and counted when two stand there. -/
def Mtr.hold (m : Mtr) (r : Rec) : Mtr :=
  if m.holder.length < 2 then { m with holder := m.holder ++ [r] } else { m with dropped := min 255 (m.dropped + 1) }

/-- A session record request: SESSION_JOIN, PARTIAL, SESSION_LEAVE or INTERRUPTION (Table 8-3, R142). -/
def Dev.requestSession (r : Rec) (d : Dev) : Dev :=
  if d.mtr.holder.isEmpty && decide (1 ≤ d.rst.free) then d.stage r else d.setMtr (d.mtr.hold r)

/-- An EVENT request: at least 4 free entries and an empty holder, and never in SHUTDOWN; otherwise dropped and counted (R141, R143). -/
def Dev.requestEvent (e : EventRec) (d : Dev) : Dev :=
  if d.mtr.holder.isEmpty && decide (4 ≤ d.rst.free) && d.run != .shutdown then
    d.stage (.event { e with session := d.mtr.membership.map Membership.id, time := d.mtr.time })
  else d.setMtr { d.mtr with dropped := min 255 (d.mtr.dropped + 1) }

/-- An entry joined while the engine's choice still waits (a completion makes it afterwards). -/
def Dev.joinOnly (r : Rec) (d : Dev) : Dev := d.setRst ((d.rst.join r).afterJoin d.cfg)

/-- Held records staged, oldest first, one per free entry (R142). -/
def Dev.stageHeldFrom : List Rec → Dev → Dev
  | [], d => d.setMtr { d.mtr with holder := [] }
  | r :: rs, d => if d.rst.free = 0 then d.setMtr { d.mtr with holder := r :: rs } else Dev.stageHeldFrom rs (d.joinOnly r)

def Dev.stageHeld (d : Dev) : Dev := Dev.stageHeldFrom d.mtr.holder d

/-! ### Memberships (R130, R132) -/

/-- The first metered set of a membership: totals cleared, the open interval takes the session ID, SESSION_JOIN requested. -/
def Dev.beginMembership (x : Outlet) (ses : Session) (d : Dev) : Dev :=
  let m : Membership := ⟨ses.id, x, ses.fNom, ses.demand⟩
  (d.setMtr
    { d.mtr with
      membership := some m
      totImport := 0
      totExport := 0
      totCount := 0
      interval := { d.mtr.interval with session := some m.id } }).requestSession (.sessionJoin m d.mtr.time)

/-- Step 1 of R132: an interval that metered a set closes as PARTIAL. -/
def Dev.closePartial (d : Dev) : Dev :=
  if d.mtr.interval.metered then
    (d.setMtr { d.mtr with totCount := d.mtr.totCount + 1 }).requestSession
      (.interval { d.mtr.interval with isPartial := true })
  else d

/-- Step 3 of R132: no membership, and a new open interval at the current index, for which no set has been metered in this second (R138). -/
def Dev.membershipGone (d : Dev) : Dev :=
  let m := { d.mtr with membership := none, meteredMark := false }
  d.setMtr { m with interval := m.newInterval m.index }

/-- The end of a membership with its cause; without one nothing is requested (R132). -/
def Dev.endMembership (cause : LeaveCause) (d : Dev) : Dev :=
  match d.mtr.membership with
  | none => d
  | some m =>
    let d1 := d.closePartial
    (d1.requestSession
      (.sessionLeave m.id m.outlet d1.mtr.totImport d1.mtr.totExport d1.mtr.totCount cause d1.mtr.time)).membershipGone

/-- The cause of a membership's end by the origin of the contactor's operation (R132). -/
def Origin.leaveCause : Origin → LeaveCause
  | .handover => .leave
  | .trip => .trip
  | .supplyWarning => .power
  | .start => .leave
  | .interlock => .trip
  | .auxiliary => .auxDrop

/-! ### Energy (R131) -/

/-- One watt-hour in units of 0.1 W × 1/9600 s. -/
def whUnits : Int := 345600000

/-- The energy of one metered set: whole watt-hours leave the residue into the interval and the totals. -/
def Mtr.count (m : Mtr) (p : Int) : Mtr :=
  let n := tdiv (m.residue + p) whUnits
  { m with
    residue := m.residue + p - n * whUnits
    meteredMark := true
    totImport := m.totImport + n.toNat
    totExport := m.totExport + (-n).toNat
    interval :=
      { m.interval with
        metered := true
        importWh := m.interval.importWh + n.toNat
        exportWh := m.interval.exportWh + (-n).toNat } }

/-- The session record under which a set admitted now is metered, or none when it is not metered (R130). -/
def Dev.meteredUnder (d : Dev) : Option (Outlet × Session) :=
  if d.ownMember && d.run == .running then
    d.hoc.assignment.bind (fun x => (d.hoc.session x).map (fun ses => (x, ses)))
  else none

/-- An admitted set at the meter (R130, R131). -/
def Dev.meterSet (p : Int) (d : Dev) : Dev :=
  match d.meteredUnder with
  | none => d
  | some (x, ses) =>
    let d1 := if d.mtr.membership.isNone then d.beginMembership x ses else d
    d1.setMtr (d1.mtr.count p)

/-! ### Demand (R14, R138) -/

/-- The one-second mean that closes now (R14). -/
def Msu.secondMean (m : Msu) : Int := sat16 (tdiv (tdiv m.secSum 9600) 10000)

/-- The announced P of the other members of the assigned outlet. -/
def Dev.othersP (d : Dev) : Int :=
  match d.hoc.assignment with
  | none => 0
  | some x => ((d.ptb.members x).map (fun c => c.2.2.p)).sum

/-- The demand of the second just ended (R138). -/
def Mtr.demand (m : Mtr) (mean outlet : Int) : Mtr :=
  if m.meteredMark then
    { m with
      meteredMark := false
      interval :=
        { m.interval with
          ownPeak := if m.interval.seconds = 0 then mean else max m.interval.ownPeak mean
          outletPeak := if m.interval.seconds = 0 then outlet else max m.interval.outletPeak outlet
          seconds := m.interval.seconds + 1 } }
  else m

/-- The one-second close: the mean to the meter's demand trackers, the accumulator cleared (R14, R133, R138). -/
def Dev.secondClose (d : Dev) : Dev :=
  let mean := d.msu.secondMean
  (d.setMsu { d.msu with mean := mean, secSum := 0 }).setMtr (d.mtr.demand mean (max mean (sat16 (mean + d.othersP))))

/-! ### Intervals (R136, R137, R140) -/

/-- Stage 1 of a boundary: an armed switch makes the standby copy active. -/
def Mtr.switchTariff (m : Mtr) : Mtr :=
  if m.armed then { m with armed := false, active := if m.active = .a then .b else .a } else m

/-- The new index is lower than the last index before it (Table 8-2, BACKWARD). -/
def backwardFrom (last new : Option Nat) : Bool :=
  match last, new with
  | some o, some n => decide (n < o)
  | _, _ => false

/-- The open interval kept across a boundary for want of room (R137). -/
def Mtr.merge (m : Mtr) (i : Option Nat) : Mtr :=
  { m with
    interval :=
      { m.interval with
        last := i
        merged := true
        mixedRate := m.interval.mixedRate || m.classOf i != m.interval.cls
        backward := m.interval.backward || backwardFrom m.interval.last i } }

/-- A new open interval begun at a boundary (R136 stages 2 and 4). -/
def Mtr.renew (m : Mtr) (i : Option Nat) : Mtr :=
  { m with interval := { m.newInterval i with backward := backwardFrom m.interval.last i } }

/-- A boundary at a new index (R136). -/
def Dev.boundary (i : Option Nat) (d : Dev) : Dev :=
  let d1 := d.setMtr d.mtr.switchTariff
  if d1.mtr.interval.metered then
    if 2 ≤ d1.rst.free ∧ d1.mtr.holder.isEmpty then
      let d2 := (d1.setMtr { d1.mtr with totCount := d1.mtr.totCount + 1 }).stage (.interval d1.mtr.interval)
      d2.setMtr (d2.mtr.renew i)
    else d1.setMtr (d1.mtr.merge i)
  else d1.setMtr (d1.mtr.renew i)

/-! ### Local time (R133, R134) -/

/-- One cycle-timer expiry at the meter. -/
def Mtr.tick (m : Mtr) : Mtr := { m with cycleCount := m.cycleCount + 1 }

/-- The second advanced by one, the day with it (R133). -/
def Mtr.nextSecond (m : Mtr) : Mtr :=
  { m with
    cycleCount := m.cycleCount - 500
    second := if m.second = 86399 then 0 else m.second + 1
    day := if m.second = 86399 then (if m.day = 65535 then 0 else m.day + 1) else m.day }

/-- The second advance: the one-second close, then a boundary on a multiple of 900 s of valid time (R133, R136). -/
def Dev.advanceSecond (d : Dev) : Dev :=
  let d1 := (d.setMtr d.mtr.nextSecond).secondClose
  if d1.mtr.timeValid && d1.mtr.second % 900 == 0 then d1.boundary d1.mtr.index else d1

/-- A linear position in cycles (R134). -/
def cyclePosition (day second cycle : Nat) : Nat := (day * 86400 + second) * 500 + cycle

/-- The adoption is a step: valid time, and a difference above 500 cycles (R134). -/
def Mtr.isStep (m : Mtr) (t : TimeBody) : Bool :=
  m.timeValid &&
    decide (500 < ((cyclePosition t.day t.second t.cycle : Int) - cyclePosition m.day m.second m.cycleCount).natAbs)

/-- The source's time set; a step flags the open interval. -/
def Mtr.adopt (m : Mtr) (t : TimeBody) : Mtr :=
  { m with
    day := t.day
    second := t.second
    cycleCount := t.cycle
    timeValid := true
    interval := { m.interval with stepped := m.interval.stepped || m.isStep t } }

/-- A time hand-off at the meter (R134). -/
def Dev.adoptTime (t : TimeBody) (d : Dev) : Dev :=
  let moved := d.mtr.day != t.day || d.mtr.second != t.second
  let d1 := (d.setMtr (d.mtr.adopt t)).raiseIf (d.mtr.isStep t) .timeStep
  let d2 := if moved then d1.secondClose else d1
  if d2.mtr.interval.last = none ∨ d2.mtr.interval.last ≠ d2.mtr.index then d2.boundary d2.mtr.index else d2

/-! ### Tariffs (R139) -/

/-- The bands a TARIFF order carries: the groups up to its count. -/
def tariffBands (count : Byte) (groups : List (BitVec 16 × Byte)) : List Band :=
  (groups.take count.toNat).map (fun g => ⟨g.1.toNat, g.2.toNat⟩)

/-- A valid schedule (R139). -/
def tariffValid (count : Byte) (bands : List Band) : Bool :=
  decide (1 ≤ count.toNat ∧ count.toNat ≤ 6) && bands.length == count.toNat
    && (bands.head?.map Band.start == some 0)
    && decide (bands.Pairwise (fun x y => x.start < y.start))
    && bands.all (fun x => decide (x.start ≤ 1439) && decide (x.cls ≤ 3))

/-- The schedule written whole into the standby copy, and the switch armed. -/
def Mtr.writeStandby (m : Mtr) (bands : List Band) : Mtr :=
  match m.active with
  | .a => { m with copyB := bands, armed := true }
  | .b => { m with copyA := bands, armed := true }

/-! ### START (R144) -/

/-- The INTERRUPTION record of START, when the newest held record shows an open membership. -/
def Dev.interruption (restart : Bool) (d : Dev) : Dev :=
  match d.rst.newestImage.bind imageOpenSession with
  | none => d
  | some id => d.requestSession (.interruption id restart)

end Sys2Proof.Machine
end

