-- ==== Sys2Proof/Machine/Synthesis.lean ====
section
/-! DEFINITION. The synthesis unit: modes and the run flag, the step at each set, the ramp offset and its writers, restoration (chapter 2). -/

namespace Sys2Proof.Machine

/-! ### Modes and the run flag (R19 to R21) -/

/-- The run flag clears: the phase is held, the commands, the limit flag and the clamp record clear (R20). -/
def Syu.clearRun (s : Syu) : Syu :=
  { s with run := false, limit := false, clamp := .noAction, vCmd := 0, fCmd := 0 }

/-- The joining offsets cleared (R19). -/
def Syu.clearJoin (s : Syu) : Syu := { s with fJoin := 0, vSteer := 0 }

/-- The run flag sets and latches the session's nominal values (R20). Until the first step the two commands are free values inside
the bounds that hold whenever the flag is set (R24, R28; log entry 40). -/
def Syu.setRunFlag (s : Syu) (ses : Option Session) : Syu :=
  let fNom := (ses.map Session.fNom).getD s.fNom
  { s with
    run := true
    firstStep := true
    fNom := fNom
    vNom := (ses.map Session.vNom).getD s.vNom
    fCmd := clampInt (fNom - 2500) (fNom + 2500) (Config.startFrequency fNom s.phase)
    vCmd := clampInt 900 1100 (Config.startVoltage fNom s.phase) }

/-- A change of mode: offsets cleared; STOPPED clears the run flag and f_ramp; leaving STOPPED sets the run flag
while RUNNING and not held clear by the supply warning (R19, R20, R21). -/
def Syu.setMode (s : Syu) (m : Mode) (running : Bool) (ses : Option Session) : Syu :=
  if m = s.mode then s
  else
    let s1 := { s.clearJoin with mode := m }
    if m = .stopped then { s1.clearRun with fRamp := 0 }
    else if s.mode = .stopped ∧ running ∧ !s.heldClear then s1.setRunFlag ses
    else s1

/-! ### The step (R22 to R29) -/

/-- The share correction of the step; 0 outside the share set (R22, R23). -/
def Dev.shareNow (d : Dev) : Int :=
  match d.hoc.assignment with
  | none => 0
  | some x =>
    if d.inShare x then clampInt (-500) 500 (tdiv (d.cfg.kShare * (d.puAvg x - d.msu.pu)) 64) else 0

/-- The droop (R24). -/
def Dev.droop (d : Dev) : Int := tdiv (d.cfg.dF * d.msu.pu) 10000

/-- f_cmd before the clamp (the table of R24). -/
def Dev.rawCommand (d : Dev) (share : Int) : Int :=
  match d.syu.mode with
  | .forming => d.syu.fNom
  | .stopped => d.syu.fNom
  | .follow =>
    if d.ownMember then d.syu.fNom + d.syu.fRamp + share - d.droop else d.syu.fNom + d.syu.fJoin - d.droop
  | .parallel => d.syu.fNom + d.syu.fRamp + share - d.droop
  | .island => d.syu.fNom + d.syu.fRamp + share - d.droop

/-- Whether the clamp of R24 acts, and at which bound. -/
def clampActs (lo hi x : Int) : ClampRec := if x < lo then .lower else if hi < x then .upper else .noAction

/-- The increment of a frequency command, rounded half up (R26). -/
def phaseIncrement (fCmd : Int) : Nat := (tdiv (fCmd * 4294967296 + 4800000) 9600000).toNat

/-- The reactive droop (R28). -/
def Dev.reactiveDroop (d : Dev) : Int := tdiv (d.cfg.dQ * tdiv (d.msu.q * 10000) d.cfg.rating) 10000

/-- The voltage command (R28, R35). -/
def Dev.voltageCommand (d : Dev) : Int :=
  if d.syu.mode = .forming then 1000 else clampInt 900 1100 (1000 + d.syu.vSteer - d.reactiveDroop)

/-- One step of the synthesis unit; `gap` is the number of missing positions before the set (R22 to R28). -/
def Dev.synthesise (gap : Nat) (d : Dev) : Syu :=
  let share := d.shareNow
  let raw := d.rawCommand share
  let lo : Int := d.syu.fNom - 2500
  let hi : Int := d.syu.fNom + 2500
  let fCmd := clampInt lo hi raw
  let inc := phaseIncrement fCmd
  let n := if d.syu.firstStep then 1 else gap + 1
  let atLimit := decide ((d.cfg.limitPu : Int) ≤ d.msu.pu)
  let acted := clampActs lo hi raw
  { d.syu with
    share := share
    fCmd := fCmd
    increment := inc
    phase := (d.syu.phase + n * inc) % 4294967296
    vCmd := d.voltageCommand
    clamp := acted
    puAtLimit := atLimit
    limit := atLimit || acted != .noAction
    firstStep := false }

/-- What the reference port carries for a set (R29). -/
def Syu.output (s : Syu) : RefOut := ⟨s.run, s.phase, if s.run then s.vCmd else 0, s.vNom⟩

/-- An admitted set at the synthesis unit: the step while the run flag is set, and one output in any case (R21, R29). -/
def Dev.synthesisSet (gap : Nat) (d : Dev) : Dev :=
  let s := if d.syu.run then d.synthesise gap else d.syu
  d.setSyu { s with port := some s.output }

/-! ### The ramp offset and its writers (R30 to R34) -/

/-- The writers of f_ramp (Table 2-2). -/
inductive Writer where
  | hocSet
  | hocStep
  | shipSteering
  | restoration
deriving DecidableEq, Repr

/-- Table 2-2: whether a writer is listed for the handover state in force. -/
def Writer.listed (w : Writer) (st : HState) : Bool :=
  match w with
  | .hocSet => true
  | .hocStep => st.mode == .parallel
  | .shipSteering => st == .matching
  | .restoration => st.mode == .island

/-- Raising writes are suppressed (R31). -/
def Syu.suppressed (s : Syu) : Bool := s.puAtLimit || s.clamp == .upper

/-- A relative write to f_ramp: listed writer, member, not a suppressed raise; clamped (R30, R31, R32). -/
def Dev.rampBy (w : Writer) (delta : Int) (d : Dev) : Dev :=
  if w.listed d.hoc.state && d.ownMember && !(decide (0 < delta) && d.syu.suppressed) then
    d.setSyu { d.syu with fRamp := clampInt (-3000) 3000 (d.syu.fRamp + delta) }
  else d

/-- A set write of the handover controller (R30, R33). -/
def Dev.rampTo (v : Int) (d : Dev) : Dev := d.setSyu { d.syu with fRamp := clampInt (-3000) 3000 v }

/-- The mean that an adopt write sets (R33). -/
def Dev.adoptMean (d : Dev) (x : Outlet) : Int :=
  let others := d.ptb.sharers x
  if others.isEmpty then 0 else tdiv ((others.map (fun c => c.2.2.fRamp)).sum) others.length

/-- The conditions under which the joining offsets are written (R34). -/
def Dev.joinOpen (d : Dev) : Bool := d.hoc.state == .joining && !d.ownMember

/-- A relative write to f_join (R31, R34). -/
def Dev.joinBy (delta : Int) (d : Dev) : Dev :=
  if d.joinOpen && !(decide (0 < delta) && d.syu.suppressed) then
    d.setSyu { d.syu with fJoin := clampInt (-3000) 3000 (d.syu.fJoin + delta) }
  else d

/-- A relative write to v_steer (R34). -/
def Dev.steerVoltageBy (delta : Int) (d : Dev) : Dev :=
  if d.joinOpen then d.setSyu { d.syu with vSteer := clampInt (-100) 100 (d.syu.vSteer + delta) } else d

/-- The restoration target of an outlet (R38). -/
def Dev.restorationTarget (d : Dev) (x : Outlet) : Int := tdiv (d.cfg.dF * d.puAvg x) 10000

/-- The superframe boundary at the synthesis unit: one restoration write in ISLAND with the run flag set (R38, R39). -/
def Dev.restore (d : Dev) : Dev :=
  match d.hoc.assignment with
  | none => d
  | some x =>
    if d.syu.mode = .island ∧ d.syu.run ∧ d.inShare x then
      let delta := clampInt (-d.cfg.rampStep) d.cfg.rampStep (d.restorationTarget x - d.syu.fRamp)
      if delta = 0 then d else d.rampBy .restoration delta
    else d

end Sys2Proof.Machine
end

