-- ==== Sys2Proof/Machine/Synchroniser.lean ====
section
/-! DEFINITION. The synchroniser's two channels: starting and stopping, the evaluation, watches, attempts and steering (chapter 6). -/

namespace Sys2Proof.Machine

/-- A running channel (Table 6-2). -/
def Channel.running (c : Channel) : Bool := c.state == .seeking || c.state == .met

/-- The cell channel starts an attempt (R89). -/
def Channel.attempt (c : Channel) : Channel :=
  { c with state := .seeking, good := 0, timeout := some 20000, held := false, watch := some 0, attempts := min 3 (c.attempts + 1) }

/-- The cell channel when JOINING is left otherwise than by its own timeout: IDLE, or SPENT with the attempt count at 3 (R89). -/
def Channel.leaveJoining (c : Channel) : Channel :=
  if c.running then
    { c with state := if c.attempts = 3 then .spent else .idle, good := 0, timeout := none, held := false, watch := none }
  else c

/-- The ship channel starts (R90). -/
def Channel.startShip (c : Channel) : Channel :=
  { c with state := .seeking, good := 0, timeout := some 60000, held := false, watch := some 0 }

/-- A channel made IDLE with its count cleared and its timeout and watch stopped (R90, R103, R105). -/
def Channel.stop (c : Channel) : Channel :=
  { c with state := .idle, good := 0, timeout := none, held := false, watch := none }

/-- The cell channel reset in full (R101). -/
def Channel.reset (c : Channel) : Channel := { c.stop with attempts := 0, backoff := none }

/-- ASSIGN to the outlet already assigned: the attempt count clears, and a SPENT channel becomes IDLE (R101). -/
def Channel.reissue (c : Channel) : Channel :=
  { c with attempts := 0, state := if c.state = .spent then .idle else c.state }

/-- The cell channel's attempt has timed out: BACKOFF, or SPENT with the attempt count at 3 (R100). -/
def Channel.timedOut (c : Channel) : Channel :=
  if c.attempts = 3 then { c with state := .spent, good := 0, timeout := none, held := false, watch := none }
  else { c with state := .backoff, good := 0, timeout := none, held := false, watch := none, backoff := some 10000 }

/-! ### The evaluation (R91 to R95) -/

/-- What an evaluation reads (R91): the frequencies of X and Y where valid, the phase difference, the RMS ratios, the closing time. -/
structure EvalIn where
  fX      : Option Nat
  fY      : Option Nat
  phase   : PhaseDiff
  ratioX  : Option Nat
  ratioY  : Option Nat
  closing : Nat
deriving DecidableEq, Repr

/-- The limits of Table 6-3. -/
structure EvalLimits where
  slipLo  : Int
  slipHi  : Int
  phase   : Int
  dv      : Int
deriving DecidableEq, Repr

def cellLimits : EvalLimits := ⟨-100, 100, 100, 50⟩
def shipLimits : EvalLimits := ⟨1, 150, 80, 40⟩

/-- The frequency of a tracker while it is marked valid. -/
def Tracker.validFreq (t : Tracker) : Option Nat := if t.freqValid then t.freq else none

/-- Folding into −1800..+1799 by whole turns (R93). -/
def foldTenths (x : Int) : Int := (x + 1800) % 3600 - 1800

/-- The slip f_X − f_Y, none unless both frequencies are valid (R92). -/
def EvalIn.slip (i : EvalIn) : Option Int :=
  match i.fX, i.fY with
  | some fx, some fy => some ((fx : Int) - fy)
  | _, _ => none

/-- The predicted phase (R93). -/
def EvalIn.predicted (i : EvalIn) : Option Int :=
  match i.slip with
  | some s => if i.phase.valid then some (foldTenths (i.phase.value + tdiv (s * i.closing * 36) 10000)) else none
  | none => none

/-- The voltage difference (R94). -/
def EvalIn.dv (i : EvalIn) : Option Int :=
  match i.ratioX, i.ratioY with
  | some rx, some ry => some (((rx : Int) - ry).natAbs : Int)
  | _, _ => none

/-- The approach test: a predicted phase of 0, a slip without sign, or opposite signs (R93). -/
def approaching (predicted slip : Int) : Bool :=
  predicted == 0 || slip == 0 || (decide (predicted < 0) && decide (0 < slip)) || (decide (0 < predicted) && decide (slip < 0))

/-- The tests that need the slip and the predicted phase (Table 6-3). -/
def EvalIn.phaseGood (l : EvalLimits) (i : EvalIn) : Bool :=
  match i.slip, i.predicted with
  | some s, some p =>
    decide (l.slipLo ≤ s ∧ s ≤ l.slipHi) && decide (-l.phase ≤ p ∧ p ≤ l.phase) && approaching p s
  | _, _ => false

/-- The voltage test. -/
def EvalIn.voltageGood (l : EvalLimits) (i : EvalIn) : Bool :=
  match i.dv with
  | some v => decide (v ≤ l.dv)
  | none => false

/-- An evaluation (R91). -/
def EvalIn.eval (l : EvalLimits) (i : EvalIn) : Eval :=
  ⟨i.phaseGood l && i.voltageGood l, i.slip, i.predicted, i.dv⟩

/-- The bad evaluation of a crossing watch: its values are none (R96). -/
def Eval.watchBad : Eval := ⟨false, none, none, none⟩

/-- The channel after an evaluation: count, state, latest result, watch restarted (R91, R95, R96). -/
def Channel.evaluated (c : Channel) (e : Eval) : Channel :=
  let n := if e.good then min 5 (c.good + 1) else 0
  { c with
    good := n
    state := if e.good && n == 5 then .met else if e.good then c.state else .seeking
    latest := some e
    watch := some 0 }

/-- The length of the crossing watch: two nominal periods of the session (R96). -/
def Dev.watchLength (d : Dev) : Nat :=
  match d.hoc.ownSession with
  | some ses => if ses.fNom = 60000 then 320 else 384
  | none => 384

/-- A watch counts the positions of an admitted set (R96). -/
def Channel.watchBy (c : Channel) (n : Nat) : Channel := { c with watch := c.watch.map (fun w => w + n) }

/-- The cell channel takes evaluations: it is running and the assigned contactor is OPEN (R91, R102). -/
def Dev.cellEvaluates (d : Dev) : Bool := d.syn.cell.running && d.ownCon == some .opened

/-- What a cell-channel evaluation reads (Table 6-1). -/
def Dev.cellIn (d : Dev) : EvalIn :=
  ⟨d.msu.cell.validFreq, d.msu.bus.validFreq, d.msu.cellBus, d.msu.cell.ratio, d.msu.bus.ratio, d.cfg.cellClosing⟩

/-- What a ship-channel evaluation reads (Table 6-1). -/
def Dev.shipIn (d : Dev) : EvalIn :=
  ⟨d.msu.bus.validFreq, d.msu.ship.validFreq, d.msu.busShip, d.msu.bus.ratio, d.msu.ship.ratio,
    (d.hoc.ownSession.map Session.closing).getD 0⟩

/-! ### Steering (R97 to R99) -/

/-- The steering limit of ±4 × ramp_step. -/
def Dev.steerLimit (d : Dev) (x : Int) : Int := clampInt (-(4 * d.cfg.rampStep)) (4 * d.cfg.rampStep) x

/-- Frequency steering of the cell channel (R97). -/
def Dev.steerCell (d : Dev) : Dev :=
  match d.msu.cell.validFreq, d.msu.bus.validFreq with
  | some fc, some fb =>
    let delta := d.steerLimit ((fb : Int) + 30 - fc)
    if delta = 0 then d else d.joinBy delta
  | _, _ => d

/-- Voltage steering of the cell channel (R98). -/
def Dev.steerVoltage (d : Dev) : Dev :=
  match d.msu.cell.ratio, d.msu.bus.ratio with
  | some rc, some rb =>
    let delta := clampInt (-5) 5 ((rb : Int) - rc)
    if delta = 0 then d else d.steerVoltageBy delta
  | _, _ => d

/-- Steering of the ship channel (R99). -/
def Dev.steerShip (d : Dev) : Dev :=
  match d.msu.bus.validFreq, d.msu.ship.validFreq with
  | some fb, some fs =>
    let delta := d.steerLimit ((fs : Int) + 60 - fb)
    if delta = 0 then d else d.rampBy .shipSteering delta
  | _, _ => d

/-- A channel record of the synchroniser replaced. -/
def Dev.setCellCh (d : Dev) (c : Channel) : Dev := d.setSyn { d.syn with cell := c }
def Dev.setShipCh (d : Dev) (c : Channel) : Dev := d.setSyn { d.syn with ship := c }

/-- A running channel whose crossing watch has reached its length (R96). -/
def Dev.watchDue (d : Dev) (c : Channel) : Bool :=
  match c.watch with
  | none => false
  | some n => c.running && decide (d.watchLength ≤ n)

/-- A crossing watch that is due, taken: a bad evaluation without steering (R96). -/
def Dev.watchExpiry (c : ChannelId) (d : Dev) : Dev :=
  match c with
  | .cell => if d.watchDue d.syn.cell then d.setCellCh (d.syn.cell.evaluated Eval.watchBad) else d
  | .ship => if d.watchDue d.syn.ship then d.setShipCh (d.syn.ship.evaluated Eval.watchBad) else d

/-- A crossing and a watch expiry that fall together on one set: which is taken first is a free choice (R96; log entry 3). Where it is
the expiry, its bad evaluation stands before the crossing's; where it is the crossing, the expiry does not occur. -/
def Dev.watchTie (c : ChannelId) (due : Bool) (d : Dev) : Dev :=
  if due then (if d.choice then d.spend.watchExpiry c else d.spend) else d

/-- A ship crossing at the ship channel: the evaluation, then the steering in the same event (R91, R96, R99). -/
def Dev.shipCrossing (d : Dev) : Dev :=
  if d.syn.ship.running then
    let d1 := d.watchTie .ship (d.watchDue d.syn.ship)
    (d1.setShipCh (d1.syn.ship.evaluated (d1.shipIn.eval shipLimits))).steerShip
  else d

/-- The evaluation and the steering of a bus crossing at the cell channel (R91, R96 to R98). -/
def Dev.cellCrossing (d : Dev) : Dev :=
  if d.cellEvaluates then
    let d1 := d.watchTie .cell (d.watchDue d.syn.cell)
    (d1.setCellCh (d1.syn.cell.evaluated (d1.cellIn.eval cellLimits))).steerCell.steerVoltage
  else d

end Sys2Proof.Machine
end

