-- ==== Sys2Proof/Machine/Handover.lean ====
section
/-! DEFINITION. The handover controller without its contactor requests: moves between the handover states, energising, assignment, the ship's events, and what it does on a change of a contactor (chapter 7). -/

namespace Sys2Proof.Machine

/-! ### Moves (R19, R89, R90, R106, R117, R122, R124) -/

/-- Entry to PARALLEL_UP, by any path (R122). -/
def Hoc.startRamp (h : Hoc) : Hoc :=
  { h with
    progress := some 20000
    rampAbsolute := some 300000
    lowGen := none
    rampDone := false
    lowestGen := h.acted.map ShipFacts.load }

/-- A timer of one state stops outside it. -/
def keepIn (c : Bool) (t : Timer) : Timer := if c then t else none

/-- The handover controller's own part of a move: claims kept only where they may stand, timers of states left stopped, those of the state entered started. -/
def Hoc.enter (h : Hoc) (st : HState) : Hoc :=
  let h1 :=
    { h with
      state := st
      forming := decide (st = .forming)
      claimCarried := h.claimCarried && decide (st = .forming ∧ h.state = .forming)
      formingCount := if st = .forming ∧ h.state = .forming then h.formingCount else 0
      lead := h.lead && st.isMember
      leadCount := if st.isMember then h.leadCount else 0
      leave := if st = .leaving then h.leave else none
      progress := keepIn (st == .parallelUp) h.progress
      rampAbsolute := keepIn (st == .parallelUp) h.rampAbsolute
      lowGen := keepIn (st == .parallelUp) h.lowGen
      release := keepIn (st == .parallelDown) h.release
      releaseWait := if st = .releaseWait then (if h.state = .releaseWait then h.releaseWait else some 30000) else none
      lowLoad := keepIn (st == .leaving) h.lowLoad
      leaveStall := keepIn (st == .leaving) h.leaveStall }
  if st = .parallelUp ∧ h.state ≠ .parallelUp then h1.startRamp else h1

/-- The synthesis unit's part: the mode of the state entered, and the joining offsets cleared when JOINING is left (R19). -/
def Syu.enter (s : Syu) (old st : HState) (running : Bool) (ses : Option Session) : Syu :=
  let s1 := s.setMode st.mode running ses
  if old = .joining ∧ st ≠ .joining then s1.clearJoin else s1

/-- The synchroniser's part: channels start and stop on JOINING and MATCHING (R89, R90). -/
def Syn.enter (y : Syn) (old st : HState) : Syn :=
  { cell :=
      if old = .joining ∧ st ≠ .joining then y.cell.leaveJoining
      else if st = .joining ∧ old ≠ .joining ∧ y.cell.state = .idle then y.cell.attempt
      else y.cell
    ship :=
      if old = .matching ∧ st ≠ .matching then y.ship.stop
      else if st = .matching ∧ old ≠ .matching then y.ship.startShip
      else y.ship }

/-- A change of handover state, handed at once to the synthesis unit and the synchroniser (R106). -/
def Dev.move (st : HState) (d : Dev) : Dev :=
  ((d.setSyu (d.syu.enter d.hoc.state st (d.run == .running) d.hoc.ownSession)).setSyn
    (d.syn.enter d.hoc.state st)).setHoc (d.hoc.enter st)

/-- The ship view of the outlet shows generators (Table 7-5, DEPART_WAIT at entry). -/
def Dev.generatorsOn (d : Dev) : Bool :=
  match d.ownView with
  | none => false
  | some f => decide (1 ≤ f.generators)

/-- A move into a state, with what Table 7-5 does at entry: DEPART_WAIT with generators passes on to PARALLEL_DOWN. -/
def Dev.enter (st : HState) (d : Dev) : Dev :=
  if st = .departWait ∧ d.generatorsOn then (d.move .departWait).move .parallelDown else d.move st

/-! ### Energising (R112) -/

/-- The conditions of R112 other than the bus condition. -/
def Dev.mayEnergise (d : Dev) : Bool :=
  d.hoc.ownSession.isSome && d.cableReady && d.syn.cell.state == .idle && d.lnk.state == .aligned && d.run == .running
    && d.ctc.bothOpen

/-- The test of a cell in ASSIGNED (R112). -/
def Dev.energise (d : Dev) : Dev :=
  match d.hoc.assignment with
  | none => d
  | some x =>
    if d.hoc.state = .assigned ∧ d.mayEnergise then
      match d.msu.busCond with
      | .dead => if d.opposed x then d else d.move .forming
      | .live => d.move .joining
      | .uncertain => d
    else d

/-- Entry to ASSIGNED by any path, and the test that it makes (R112). -/
def Dev.toAssigned (d : Dev) : Dev := (d.move .assigned).energise

/-- What a change of bus condition, a ship view or a link state does to a cell that is not a member: FORMING and JOINING are
withdrawn while the contactor is OPEN, and ASSIGNED tests again (R112, R113, R115). The condition is tested as it stands: one that went
away during a close in flight withdraws JOINING at the next notice or change after the close has failed (log entry 50). -/
def Dev.reconsider (d : Dev) : Dev :=
  match d.hoc.state with
  | .forming =>
    if d.ownCon = some .opened ∧ (d.msu.busCond ≠ .dead ∨ !d.cableReady ∨ d.lnk.state ≠ .aligned) then d.toAssigned else d
  | .joining =>
    if d.ownCon = some .opened ∧ (d.msu.busCond ≠ .live ∨ !d.cableReady) then d.toAssigned else d
  | .assigned => d.energise
  | _ => d

/-! ### Bus condition and assignment (R6, R12, R109) -/

/-- The bus condition set; a change is handed to the handover controller at once (R12). -/
def Dev.setBusCond (c : BusCond) (d : Dev) : Dev :=
  if d.msu.busCond = c then d else (d.setMsu { d.msu with busCond := c }).reconsider

/-- The measurement unit on a change of assignment: bus and ship trackers restart, and what uses them is invalid (R6). -/
def Msu.reassigned (m : Msu) : Msu :=
  { m with
    bus := Tracker.start
    ship := Tracker.start
    cellBus := { m.cellBus with valid := false }
    busShip := { m.busShip with valid := false }
    busCond := .uncertain }

/-- A change of assignment, handed to the measurement unit and the synchroniser; the acted ship facts are taken as they stand (R109). -/
def Dev.reassign (x : Option Outlet) (d : Dev) : Dev :=
  if d.hoc.assignment = x then d
  else
    ((d.setHoc { d.hoc with assignment := x, acted := x.bind d.ptb.shipView }).setMsu d.msu.reassigned).setCellCh
      d.syn.cell.reset

/-- The destination of a leave applied: assignment none and OFF, or the outlet and ASSIGNED (R110, R111). -/
def Dev.applyDestination (dest : Option Outlet) (d : Dev) : Dev :=
  match dest with
  | none => (d.move .off).reassign none
  | some x => ((d.move .assigned).reassign (some x)).energise

/-- A leave that ends with the assigned contactor OPEN (R111). -/
def Dev.completeLeave (d : Dev) : Dev := d.applyDestination (d.hoc.leave.bind Leave.dest)

/-! ### What a change of a contactor does (R73, R89, R102, R114 to R116, R126, R132) -/

/-- The lead's states that place a joining cell (R115 line 1). -/
def HState.places : HState → Bool
  | .onBus => true
  | .matching => true
  | .parallelUp => true
  | .parallelHold => true
  | .island => true
  | .departWait => true
  | .parallelDown => true
  | .releaseWait => false
  | .off => false
  | .assigned => false
  | .forming => false
  | .joining => false
  | .leaving => false
  | .tripped => false

/-- The state in which R115 places a cell whose close at the end of JOINING ends CLOSED. -/
def Dev.placement (d : Dev) (x : Outlet) : HState :=
  match (d.ptb.leadState x).filter HState.places with
  | some st => st
  | none =>
    match d.ptb.shipView x with
    | none => .onBus
    | some f => if !f.breaker then .onBus else if f.generators = 0 then .island else .parallelHold

/-- The cell channel's attempt times out: the notice, the back-off, and the return to ASSIGNED (R100, R115). -/
def Dev.cellTimeout (d : Dev) : Dev :=
  let d1 := (d.setCellCh d.syn.cell.timedOut).raise .syncTimeout
  if d1.hoc.state = .joining then d1.toAssigned else d1

/-- The assigned contactor returned to OPEN while JOINING: the channel seeks afresh, then a held expiry is taken (R102). -/
def Dev.seekAfresh (d : Dev) : Dev :=
  if d.syn.cell.running then
    let d1 := d.setCellCh { d.syn.cell with state := .seeking, good := 0, watch := some 0 }
    if d1.syn.cell.held then d1.cellTimeout else d1
  else d

/-- The assigned contactor became CLOSED: join age 0, then FORMING or JOINING ends (R114, R115, R116). -/
def Dev.assignedClosed (x : Outlet) (d : Dev) : Dev :=
  let d1 := d.setHoc { d.hoc with joinAge := 0, joinTicks := 0 }
  match d1.hoc.state with
  | .forming =>
    let d2 := d1.move .onBus
    d2.setHoc { d2.hoc with lead := true }
  | .joining =>
    let d2 := d1.setCellCh { d1.syn.cell with attempts := 0 }
    (d2.rampTo (d2.adoptMean x)).enter (d2.placement x)
  | _ => d1

/-- The assigned contactor left CLOSED: join age 0 and claims dropped; a member state ends in ASSIGNED (R116, R117, R126). -/
def Dev.assignedLeftClosed (d : Dev) : Dev :=
  let d1 := d.setHoc { d.hoc with joinAge := 0, joinTicks := 0, lead := false, leadCount := 0 }
  if d1.hoc.state.isMember then d1.toAssigned else d1

/-- The assigned contactor became OPEN: a leave completes, a failed close ends FORMING, and any return to OPEN lets JOINING seek
afresh, that of an operation which no MET started included (R102, R111, R114, R115; log entry 34). -/
def Dev.assignedOpened (old : CState) (d : Dev) : Dev :=
  match d.hoc.state with
  | .leaving => d.completeLeave
  | .forming => if old = .closing then d.toAssigned else d
  | .joining => d.seekAfresh
  | .assigned => d.energise
  | _ => d

/-- The handover controller and the synchroniser on a change of the assigned contactor. -/
def Dev.assignedChanged (x : Outlet) (old new : CState) (d : Dev) : Dev :=
  if new = .closed then d.assignedClosed x
  else
    let d1 := if old = .closed then d.assignedLeftClosed else d
    let d2 := if old = .opened ∧ d1.syn.cell.running then d1.setCellCh { d1.syn.cell with watch := none } else d1
    if new = .opened then d2.assignedOpened old else d2

/-- The synthesis unit and the meter on the assigned contactor leaving CLOSED: f_ramp to 0, and the membership's end (R32, R132). -/
def Dev.leftClosed (origin : Origin) (d : Dev) : Dev := (d.rampTo 0).endMembership origin.leaveCause

/-- A change of a contactor's state handed to the synthesis unit, the meter, the synchroniser and the handover controller (R73). -/
def Dev.conChanged (x : Outlet) (old : CState) (origin : Origin) (d : Dev) : Dev :=
  if d.con x = old then d
  else if d.hoc.assignment = some x then
    (if old = .closed then d.leftClosed origin else d).assignedChanged x old (d.con x)
  else if d.hoc.state = .assigned then d.energise
  else d

/-! ### The ship (R119, R120, R125) -/

/-- A zero write with a move back to ON_BUS (Table 7-5). -/
def Dev.backToOnBus (d : Dev) : Dev := (d.move .onBus).rampTo 0

/-- The ship breaker closes, with the generator count it comes with (Table 7-5). -/
def Dev.breakerCloses (generators : Nat) (d : Dev) : Dev :=
  match d.hoc.state with
  | .onBus => if generators = 0 then d.move .island else (d.move .parallelHold).raise .shipCloseUnpermitted
  | .matching => if generators = 0 then d.move .island else d.move .parallelUp
  | _ => d

/-- The ship breaker opens (Table 7-5, R125). -/
def Dev.breakerOpens (d : Dev) : Dev :=
  match d.hoc.state with
  | .releaseWait => d.backToOnBus
  | .parallelDown =>
    if !d.hoc.lead ∧ (d.hoc.assignment.bind d.ptb.leadState) = some .releaseWait then d.backToOnBus
    else d.backToOnBus.raise .shipOpenUnexpected
  | .parallelUp => d.backToOnBus.raise .shipOpenUnexpected
  | .parallelHold => d.backToOnBus.raise .shipOpenUnexpected
  | .island => d.backToOnBus.raise .shipOpenUnexpected
  | .departWait => d.backToOnBus.raise .shipOpenUnexpected
  | _ => d

/-- The generator count becomes 0, or becomes 1 or more (Table 7-5). -/
def Dev.generatorEvent (generators : Nat) (d : Dev) : Dev :=
  match d.hoc.state with
  | .parallelUp => if generators = 0 then d.move .island else d
  | .parallelHold => if generators = 0 then d.move .island else d
  | .parallelDown => if generators = 0 then d.move .island else d
  | .releaseWait => if generators = 0 then d.move .island else d
  | .departWait => if generators = 0 then d else d.move .parallelDown
  | _ => d

/-- The events of a ship view against the facts acted on before: the breaker first, then the generators (R119). -/
def Dev.shipEvents (old new : ShipFacts) (d : Dev) : Dev :=
  let d1 :=
    if old.breaker = new.breaker then d else if new.breaker then d.breakerCloses new.generators else d.breakerOpens
  if decide (old.generators = 0) = decide (new.generators = 0) then d1 else d1.generatorEvent new.generators

/-- The ship view of the assigned outlet taken: the acted facts replaced, and the events that follow (R119). -/
def Dev.takeView (d : Dev) : Dev :=
  match d.ownView with
  | none => d
  | some v =>
    let d1 := d.setHoc { d.hoc with acted := some v }
    match d.hoc.acted with
    | none => d1
    | some old => d1.shipEvents old v

/-- A ship-view notice (R70, R119): nothing in LEAVING; otherwise the view is taken and the energising states look again. -/
def Dev.shipNotice (d : Dev) : Dev :=
  if d.hoc.state = .leaving then d else d.takeView.reconsider

end Sys2Proof.Machine
end

