-- ==== Sys2Proof/Machine/Contactors.lean ====
section
/-! DEFINITION. The contactor controller: the records' operations, the interlock, auxiliary changes and the trip (chapter 5). -/

namespace Sys2Proof.Machine

/-! ### The records (R75 to R78) -/

/-- A close operation started (R75). -/
def Contactor.startClose (c : Contactor) (width : Nat) : Contactor :=
  { c with
    state := .closing
    phase := .pulse
    pulseTimer := some width
    confirmTimer := none
    retry := false
    closeCoil := true
    openCoil := false }

/-- An open operation started; a close pulse in flight is cut in the same event (R73, R77). -/
def Contactor.startOpen (c : Contactor) (width : Nat) : Contactor :=
  { c with
    state := .opening
    phase := .pulse
    pulseTimer := some width
    confirmTimer := none
    retry := false
    closeCoil := false
    openCoil := true }

/-- The operation is over and the record rests in a state. -/
def Contactor.rest (c : Contactor) (st : CState) : Contactor :=
  { c with
    state := st
    phase := .idle
    pulseTimer := none
    confirmTimer := none
    retry := false
    closeCoil := false
    openCoil := false }

/-- The pulse ended with the auxiliary contact not yet as wanted: phase CONFIRM (R75, R78). -/
def Contactor.toConfirm (c : Contactor) (time : Nat) : Contactor :=
  { c with phase := .confirm, pulseTimer := none, confirmTimer := some time, closeCoil := false, openCoil := false }

/-- The first failed confirmation: the 500 ms gap, on the retry (R76, R78). -/
def Contactor.toGap (c : Contactor) : Contactor :=
  { c with phase := .gap, pulseTimer := some 500, confirmTimer := none, retry := true }

/-- The gap ended: the second pulse on the coil of the operation in flight (R76, R78). -/
def Contactor.secondPulse (c : Contactor) (cfg : Cfg) : Contactor :=
  if c.state = .closing then
    { c with phase := .pulse, pulseTimer := some cfg.closePulse, closeCoil := true, openCoil := false }
  else { c with phase := .pulse, pulseTimer := some cfg.openPulse, closeCoil := false, openCoil := true }

/-- A record replaced, nothing handed out. -/
def Dev.setCon (x : Outlet) (c : Contactor) (d : Dev) : Dev := d.setCtc (d.ctc.set x c)

/-- A record replaced and its change of state handed out (R73). -/
def Dev.changeCon (x : Outlet) (c : Contactor) (origin : Origin) (d : Dev) : Dev :=
  (d.setCon x c).conChanged x (d.con x) origin

/-! ### Requests (R74, R77, R80) -/

/-- The tests of a close request; none is a request that is taken (R74). -/
def Dev.closeRefusal (d : Dev) (x : Outlet) : Option Reason :=
  if d.con (otherOutlet x) ≠ .opened ∨ d.ctc.anyWelded then some .interlock
  else if d.con x ≠ .opened ∨ (d.ctc.get x).auxClosed ∨ d.hoc.state = .tripped ∨ d.lnk.state = .muted ∨ d.run ≠ .running then
    some .state
  else none

/-- A close request that the tests let through (R75). -/
def Dev.startClose (x : Outlet) (d : Dev) : Dev :=
  d.changeCon x ((d.ctc.get x).startClose d.cfg.closePulse) .handover

/-- The record of a contactor after an open request (R77). -/
def Contactor.openRequested (c : Contactor) (width : Nat) : Contactor :=
  match c.state with
  | .closing => c.startOpen width
  | .closed => c.startOpen width
  | .opened => c
  | .opening => c
  | .welded => c

/-- An open request of a stated origin (R77). -/
def Dev.openRequest (x : Outlet) (origin : Origin) (d : Dev) : Dev :=
  d.changeCon x ((d.ctc.get x).openRequested d.cfg.openPulse) origin

/-- A held closure of an outlet is taken once the other record is OPEN (R80). -/
def Dev.takeHeld (x : Outlet) (d : Dev) : Dev :=
  if d.con x = .opened ∧ (d.ctc.get x).auxClosed ∧ d.con (otherOutlet x) = .opened then
    d.changeCon x ((d.ctc.get x).startOpen d.cfg.openPulse) .interlock
  else d

/-- A record becomes OPEN, and a held closure of the other is taken at that moment (R80). The change to OPEN is handed out first, so the
handover controller looks at both records OPEN (log entry 48). -/
def Dev.becomeOpen (x : Outlet) (origin : Origin) (d : Dev) : Dev :=
  (d.changeCon x ((d.ctc.get x).rest .opened) origin).takeHeld (otherOutlet x)

/-- A record becomes CLOSED at the end of a close operation (R75). -/
def Dev.becomeClosed (x : Outlet) (d : Dev) : Dev := d.changeCon x ((d.ctc.get x).rest .closed) .handover

/-! ### The trip (R81 to R84) -/

/-- The fatal notice a trip raises itself (Table 5-4). -/
def TripCause.notice : TripCause → Option NoticeKind
  | .overcurrent => some .overcurrent
  | .overload => some .overload
  | .sampleLoss => some .sampleLoss
  | .muted => none
  | .openFail => none
  | .auxUnexpected => none

/-- The handover controller's part of a trip: TRIPPED, claims dropped, the leave discarded, every timer stopped (R126). -/
def Dev.hocTrip (d : Dev) : Dev := d.move .tripped

/-- The content of an EVENT request (Table 5-5); the meter completes session and time (R143). -/
def Dev.eventOf (d : Dev) (cause : Option TripCause) (on : Option Outlet) (before : HState) : EventRec :=
  ⟨cause, on, d.con .a, d.con .b, before, d.msu.p, none, none⟩

/-- Both records after the trip's open requests. -/
def Ctc.tripped (c : Ctc) (width : Nat) : Ctc := ⟨c.a.openRequested width, c.b.openRequested width⟩

/-- The changes of both records handed out. -/
def Dev.bothChanged (oldA oldB : CState) (origin : Origin) (d : Dev) : Dev :=
  (d.conChanged .a oldA origin).conChanged .b oldB origin

/-- The fatal notice of the cause, where Table 5-4 gives one. -/
def Dev.raiseTrip (cause : TripCause) (d : Dev) : Dev :=
  match cause.notice with
  | none => d
  | some k => d.raise k

/-- A trip in one event (R82). Whether the meter takes the EVENT request or the contactor change first is a free choice (R143). -/
def Dev.trip (cause : TripCause) (on : Option Outlet) (d : Dev) : Dev :=
  let d1 := ((d.setSyu d.syu.clearRun).hocTrip).raiseTrip cause
  let d2 := d1.setCtc (d1.ctc.tripped d.cfg.openPulse)
  let e := d2.eventOf (some cause) on d.hoc.state
  let d3 := d2.spend
  if d2.choice then (d3.requestEvent e).bothChanged (d.con .a) (d.con .b) .trip
  else (d3.bothChanged (d.con .a) (d.con .b) .trip).requestEvent e

/-! ### Timers and auxiliary levels (R75 to R80) -/

/-- A failed close: the record OPEN, CLOSE_FAIL, and an EVENT request (R76, R84). The change to OPEN is handed out first, so a timeout held
during the close raises SYNC_TIMEOUT before CLOSE_FAIL (R102; log entry 49). -/
def Dev.closeFailed (x : Outlet) (d : Dev) : Dev :=
  let d1 := (d.becomeOpen x .handover).raise .closeFail
  d1.requestEvent (d1.eventOf none (some x) d.hoc.state)

/-- A failed open: the record WELDED, OPEN_FAIL, and the trip (R78). -/
def Dev.openFailed (x : Outlet) (d : Dev) : Dev :=
  ((d.changeCon x ((d.ctc.get x).rest .welded) .handover).raise .openFail).trip .openFail (some x)

/-- The coil pulse of an outlet's contactor ends (R75, R78). -/
def Dev.pulseEnd (x : Outlet) (d : Dev) : Dev :=
  let c := d.ctc.get x
  if c.phase = .pulse ∧ c.pulseTimer.isSome then
    if c.state = .closing then
      if c.auxClosed then d.becomeClosed x else d.setCon x (c.toConfirm d.cfg.confirmTime)
    else if c.state = .opening then
      if c.auxClosed then d.setCon x (c.toConfirm d.cfg.confirmTime) else d.becomeOpen x .handover
    else d
  else d

/-- The confirm timer of an outlet's contactor expires (R76, R78). -/
def Dev.confirmEnd (x : Outlet) (d : Dev) : Dev :=
  let c := d.ctc.get x
  if c.phase = .confirm ∧ c.confirmTimer.isSome then
    if c.state = .closing then (if c.retry then d.closeFailed x else d.setCon x c.toGap)
    else if c.state = .opening then (if c.retry then d.openFailed x else d.setCon x c.toGap)
    else d
  else d

/-- The retry gap of an outlet's contactor ends (R76, R78). -/
def Dev.gapEnd (x : Outlet) (d : Dev) : Dev :=
  let c := d.ctc.get x
  if c.phase = .gap ∧ c.pulseTimer.isSome ∧ (c.state = .closing ∨ c.state = .opening) then
    d.setCon x (c.secondPulse d.cfg)
  else d

/-- A closure without an operation: AUX_UNEXPECTED, the open operation or the held closure, and the trip (R80). -/
def Dev.unexpectedClosure (x : Outlet) (d : Dev) : Dev :=
  ((d.raise .auxUnexpected).takeHeld x).trip .auxUnexpected (some x)

/-- An auxiliary input takes a new level: the pins and the record's level (R73). -/
def Dev.setAux (x : Outlet) (closed : Bool) (d : Dev) : Dev :=
  let d1 :=
    match x with
    | .a => d.setPins { d.pins with auxA := closed }
    | .b => d.setPins { d.pins with auxB := closed }
  d1.setCon x { d.ctc.get x with auxClosed := closed }

/-- The effect of a new level by the state of the record (Table 5-3). -/
def Dev.auxEffect (x : Outlet) (closed : Bool) (d : Dev) : Dev :=
  let c := d.ctc.get x
  match c.state with
  | .opened => if closed then d.unexpectedClosure x else d
  | .closing => if closed ∧ c.phase ≠ .pulse then d.becomeClosed x else d
  | .closed => if closed then d else (d.raise .auxDrop).becomeOpen x .auxiliary
  | .opening => if !closed ∧ c.phase ≠ .pulse then d.becomeOpen x .handover else d
  | .welded => d

/-- A qualified change of an auxiliary level; a level already taken is no change (R73). -/
def Dev.auxLevel (x : Outlet) (closed : Bool) (d : Dev) : Dev :=
  if (d.ctc.get x).auxClosed = closed then d else (d.setAux x closed).auxEffect x closed

end Sys2Proof.Machine
end

