-- ==== Sys2Proof/Machine/Actions.lean ====
section
/-! DEFINITION. What the handover controller does at cycle beginnings, superframe boundaries and timer expiries, and how the blocks take the supply warning and the entry to MUTED (R49, R111 to R126, R177). -/

namespace Sys2Proof.Machine

/-! ### MET (R95, R115) -/

/-- A cell-channel MET at the handover controller: in JOINING with the assigned contactor OPEN it requests the close; a refused one changes nothing. -/
def Dev.takeMet (d : Dev) : Dev :=
  match d.hoc.assignment with
  | none => d
  | some x =>
    if d.hoc.state = .joining ∧ d.con x = .opened ∧ d.closeRefusal x = none then d.startClose x else d

/-- A bus crossing at the synchroniser: the evaluation with its steering, and MET handed on when the evaluation was good in MET (R91, R95).
The handover controller acts on it at once, before any expiry of the channel's timeout (R100; log entry 56). -/
def Dev.busCrossing (d : Dev) : Dev :=
  if d.cellEvaluates then
    let d1 := d.cellCrossing
    if d1.syn.cell.state = .met then d1.takeMet else d1
  else d

/-! ### Cycle beginnings (R112, R113, R117, R118) -/

/-- The close at the third unopposed cycle: refused, the claim is withdrawn (R113, R114). -/
def Dev.formingClose (x : Outlet) (d : Dev) : Dev :=
  if d.closeRefusal x = none then d.startClose x else d.toAssigned

/-- The FORMING judgement of the cycle just ended (R113). -/
def Dev.judgeForming (d : Dev) : Dev :=
  match d.hoc.assignment with
  | none => d
  | some x =>
    if d.hoc.state = .forming ∧ d.con x = .opened then
      if d.opposed x then d.toAssigned
      else if d.hoc.claimCarried then
        let d1 := d.setHoc { d.hoc with formingCount := min 3 (d.hoc.formingCount + 1) }
        if d1.hoc.formingCount = 3 then d1.formingClose x else d1
      else d
    else d

/-- Withdrawing and taking of the lead claim (R117). -/
def Dev.judgeLead (d : Dev) : Dev :=
  match d.hoc.assignment with
  | none => d
  | some x =>
    if d.hoc.lead then
      if (d.ptb.leadClaimants x).any (fun c => decide (c.1 < d.cfg.station)) then
        d.setHoc { d.hoc with lead := false, leadCount := 0 }
      else d
    else if d.hoc.state.isMember ∧ (d.ptb.leadClaimants x).isEmpty ∧ d.ranksFirst x then
      if 3 ≤ d.hoc.leadCount + 1 then d.setHoc { d.hoc with lead := true, leadCount := 0 }
      else d.setHoc { d.hoc with leadCount := d.hoc.leadCount + 1 }
    else d.setHoc { d.hoc with leadCount := 0 }

/-- Table 7-4: the move for an own state and the state the lead announces. -/
def followMove (own lead : HState) : Option HState :=
  match own, lead with
  | .onBus, .matching => some .matching
  | .parallelHold, .parallelUp => some .parallelUp
  | .parallelUp, .parallelHold => some .parallelHold
  | .parallelUp, .parallelDown => some .parallelDown
  | .parallelHold, .parallelDown => some .parallelDown
  | .parallelDown, .parallelHold => some .parallelHold
  | .island, .departWait => some .departWait
  | .departWait, .parallelDown => some .parallelDown
  | _, _ => none

/-- State following by a member without the lead claim (R118). -/
def Dev.follow (d : Dev) : Dev :=
  if d.hoc.lead then d
  else
    match (d.hoc.assignment.bind d.ptb.leadState).bind (followMove d.hoc.state) with
    | none => d
    | some st => d.enter st

/-- The energising test of each cycle beginning while the bus is DEAD (R112). -/
def Dev.energiseDead (d : Dev) : Dev := if d.msu.busCond = .dead then d.energise else d

/-- The actions of the handover controller at a cycle beginning, in the order of R118. -/
def Dev.hocCycle (d : Dev) : Dev := d.judgeForming.judgeLead.follow.energiseDead

/-! ### Superframe boundaries (R111, R122 to R124) -/

/-- |P| × 20 ≤ rating (R111). -/
def Dev.lowLoadNow (d : Dev) : Bool := decide (d.msu.p.natAbs * 20 ≤ d.cfg.rating)

/-- A timer that runs while a condition holds: started at its length if stopped, else stopped and clear. -/
def runWhile (c : Bool) (len : Nat) (t : Timer) : Timer := if c then some (t.getD len) else none

/-- The boundary in LEAVING while the contactor is CLOSED (R111). -/
def Dev.leavingStep (d : Dev) : Dev :=
  if d.ownMember then
    let d1 := d.rampBy .hocStep (-d.cfg.rampStep)
    d1.setHoc { d1.hoc with lowLoad := runWhile d1.lowLoadNow 500 d1.hoc.lowLoad }
  else d

/-- The release level of the assigned outlet's session. -/
def Dev.releaseLevel (d : Dev) : Option Nat := d.hoc.ownSession.map Session.release

/-- The generator load of the ship view exceeds the release level. -/
def Dev.loadAboveRelease (d : Dev) (v : ShipFacts) : Bool :=
  match d.releaseLevel with
  | none => false
  | some r => decide ((r : Int) < v.load)

/-- The up-step of R122. -/
def Dev.upStep (v : ShipFacts) (d : Dev) : Dev :=
  if !d.hoc.rampDone && !d.syu.limit && d.loadAboveRelease v then d.rampBy .hocStep d.cfg.rampStep else d

/-- The progress test of R122; a progress timer that ramp done has stopped stays stopped (log entry 11). -/
def Hoc.progressTest (h : Hoc) (load : Int) : Hoc :=
  match h.lowestGen with
  | none => { h with lowestGen := some load }
  | some l =>
    if load ≤ l - 50 then { h with progress := h.progress.map (fun _ => 20000), lowestGen := some load } else h

/-- The boundary in PARALLEL_UP (R122); at a view of none nothing is tested. -/
def Dev.upBoundary (d : Dev) : Dev :=
  match d.ownView with
  | none => d
  | some v =>
    let d1 := d.upStep v
    let h := d1.hoc.progressTest v.load
    d1.setHoc { h with lowGen := runWhile (!d1.loadAboveRelease v) 2000 h.lowGen }

/-- The excess of the assigned outlet (R123). -/
def Dev.excess (d : Dev) (x : Outlet) : Int := d.outletTotal x - d.capacitySum x

/-- The lead's boundary in ISLAND and DEPART_WAIT: SHED due at the next assembly when the excess is above 0 (R123). -/
def Dev.shedBoundary (d : Dev) : Dev :=
  match d.hoc.assignment with
  | none => d
  | some x =>
    if d.hoc.lead then
      d.setHoc { d.hoc with shedDue := if 0 < d.excess x then some (min 32767 (d.excess x)) else none }
    else d

/-- The lead of the assigned outlet announces RELEASE_WAIT. -/
def Dev.leadReleases (d : Dev) : Bool := d.hoc.assignment.bind d.ptb.leadState == some .releaseWait

/-- The outlet total of the assigned outlet stands at or below the release level. -/
def Dev.totalReleased (d : Dev) (x : Outlet) : Bool :=
  match d.releaseLevel with
  | none => false
  | some r => decide (d.outletTotal x ≤ (r : Int))

/-- The boundary in PARALLEL_DOWN: the down-step, and the lead's release timer (R124). -/
def Dev.downBoundary (d : Dev) : Dev :=
  match d.hoc.assignment with
  | none => d
  | some x =>
    let d1 := if !d.hoc.lead && d.leadReleases then d else d.rampBy .hocStep (-d.cfg.rampStep)
    if d1.hoc.lead then d1.setHoc { d1.hoc with release := runWhile (d1.totalReleased x) 1000 d1.hoc.release } else d1

/-- The boundary steps of the handover controller (R118, R120). -/
def Dev.hocBoundary (d : Dev) : Dev :=
  match d.hoc.state with
  | .leaving => d.leavingStep
  | .parallelUp => d.upBoundary
  | .island => d.shedBoundary
  | .departWait => d.shedBoundary
  | .parallelDown => d.downBoundary
  | _ => d

/-- A superframe boundary at both blocks; which takes it first is a free choice (R39, log entry 3). -/
def Dev.superframe (d : Dev) : Dev :=
  if d.choice then d.spend.restore.hocBoundary else d.spend.hocBoundary.restore

/-! ### Timers of the handover controller -/

/-- RAMP_STALL (R122). -/
def Dev.rampStall (d : Dev) : Dev := (d.move .parallelHold).raise .rampStall

/-- The progress timer expires. -/
def Dev.progressExpiry (d : Dev) : Dev :=
  if d.hoc.state = .parallelUp ∧ d.hoc.progress.isSome then d.rampStall else d

/-- The absolute timer of the ramp expires. -/
def Dev.absoluteExpiry (d : Dev) : Dev :=
  if d.hoc.state = .parallelUp ∧ d.hoc.rampAbsolute.isSome then d.rampStall else d

/-- The low-generator timer expires: ramp done (R122). -/
def Dev.lowGenExpiry (d : Dev) : Dev :=
  if d.hoc.state = .parallelUp ∧ d.hoc.lowGen.isSome then
    d.setHoc { d.hoc with rampDone := true, progress := none, rampAbsolute := none, lowGen := none }
  else d

/-- The release timer expires: the lead enters RELEASE_WAIT (R124). -/
def Dev.releaseExpiry (d : Dev) : Dev :=
  if d.hoc.state = .parallelDown ∧ d.hoc.release.isSome then
    if d.hoc.lead then d.move .releaseWait else d.setHoc { d.hoc with release := none }
  else d

/-- The release-wait timer expires: PARALLEL_HOLD with RELEASE_STALL (R124). -/
def Dev.releaseWaitExpiry (d : Dev) : Dev :=
  if d.hoc.state = .releaseWait ∧ d.hoc.releaseWait.isSome then (d.move .parallelHold).raise .releaseStall else d

/-- The open of the assigned contactor requested by the handover controller. -/
def Dev.openOwn (d : Dev) : Dev :=
  match d.hoc.assignment with
  | none => d
  | some x => d.openRequest x .handover

/-- The low-load timer expires: the open is requested (R111). -/
def Dev.lowLoadExpiry (d : Dev) : Dev :=
  if d.hoc.state = .leaving ∧ d.hoc.lowLoad.isSome then (d.setHoc { d.hoc with lowLoad := none }).openOwn else d

/-- A stalled leave: LEAVE_STALL, the recorded state again, and the ship view taken (R111). -/
def Dev.leaveStalled (back : HState) (d : Dev) : Dev := ((d.raise .leaveStall).enter back).takeView

/-- The leave-stall timer expires; with the contactor no longer CLOSED it is disregarded (R111). -/
def Dev.leaveStallExpiry (d : Dev) : Dev :=
  if d.hoc.state = .leaving ∧ d.hoc.leaveStall.isSome then
    let d1 := d.setHoc { d.hoc with leaveStall := none }
    match d.hoc.leave with
    | none => d1
    | some l => if d.ownMember then d1.leaveStalled l.back else d1
  else d

/-- One second of the join age, due at the 500th cycle expiry of the running count (R116). -/
def Dev.joinSecond (d : Dev) : Dev :=
  if d.ownMember ∧ 500 ≤ d.hoc.joinTicks then
    d.setHoc { d.hoc with joinTicks := d.hoc.joinTicks - 500, joinAge := min 65535 (d.hoc.joinAge + 1) }
  else d

/-- A cycle-timer expiry counted towards the join age (R116). -/
def Dev.joinTick (d : Dev) : Dev :=
  if d.ownMember then d.setHoc { d.hoc with joinTicks := d.hoc.joinTicks + 1 } else d

/-! ### Timers of the synchroniser (R96, R100, R101, R103) -/

/-- The cell channel's timeout: by the assigned contactor at that moment (R100). -/
def Dev.cellTimeoutExpiry (d : Dev) : Dev :=
  if d.syn.cell.running ∧ d.syn.cell.timeout.isSome then
    if d.ownCon = some .opened then d.cellTimeout
    else if d.ownCon = some .closing then d.setCellCh { d.syn.cell with timeout := none, held := true }
    else d.setCellCh { d.syn.cell with timeout := none }
  else d

/-- The ship channel's timeout: SYNC_TIMEOUT, IDLE, and ON_BUS with a zero write (R103). -/
def Dev.shipTimeoutExpiry (d : Dev) : Dev :=
  if d.syn.ship.running ∧ d.syn.ship.timeout.isSome then
    let d1 := (d.setShipCh d.syn.ship.stop).raise .syncTimeout
    if d1.hoc.state = .matching then d1.backToOnBus else d1
  else d

/-- The back-off timer's expiry: IDLE, and the energising test that the change makes (R101, R112). The timer runs on in SHUTDOWN, and its
expiry there clears it (R105; log entry 63). -/
def Dev.backOffExpiry (d : Dev) : Dev :=
  if d.syn.cell.backoff.isSome then
    (d.setCellCh
      { d.syn.cell with backoff := none, state := if d.syn.cell.state = .backoff then .idle else d.syn.cell.state }).energise
  else d

/-! ### Entry to MUTED (R49, R81, R126) -/

/-- A contactor is CLOSING or CLOSED. -/
def CState.connected : CState → Bool
  | .closing => true
  | .closed => true
  | .opened => false
  | .opening => false
  | .welded => false

/-- The handover controller on the entry to MUTED: claims dropped, FORMING withdrawn. -/
def Dev.hocMuted (d : Dev) : Dev :=
  let d1 := d.setHoc { d.hoc with lead := false, leadCount := 0 }
  if d1.hoc.state = .forming then d1.toAssigned else d1

/-- The contactor controller on the entry to MUTED: the protective trip. -/
def Dev.ctcMuted (connected : Bool) (d : Dev) : Dev := if connected then d.trip .muted none else d

/-- Entry to MUTED with DUPLICATE_STATION; which block is handed the change first is a free choice (R49, log entry 3). -/
def Dev.enterMuted (d : Dev) : Dev :=
  let connected := (d.con .a).connected || (d.con .b).connected
  let d1 := (d.setLnk { d.lnk with state := .muted, markSender := false, contending := false }).raise .duplicateStation
  if d1.choice then (d1.spend.ctcMuted connected).hocMuted else (d1.spend.hocMuted).ctcMuted connected

/-- Entry to ALIGNED: the fault record and the lone count empty, and the handover controller told (R46 to R48, R56, R57). -/
def Dev.becomeAligned (d : Dev) : Dev :=
  (d.setLnk
    { d.lnk with state := .aligned, faults := [], loneCount := 0, loneReported := false, contending := false }).energise

/-! ### The supply warning (R86, R105, R126, R145, R164, R177) -/

/-- The synthesis unit: the run flag clears and stays clear (R20). -/
def Dev.syuWarning (d : Dev) : Dev := d.setSyu { d.syu.clearRun with heldClear := true }

/-- The synchroniser: both channels IDLE (R105). -/
def Dev.synWarning (d : Dev) : Dev := d.setSyn ⟨d.syn.cell.stop, d.syn.ship.stop⟩

/-- The handover controller: ASSIGNED or OFF unless TRIPPED, claims, leave and timers gone (R126). -/
def Dev.hocWarning (d : Dev) : Dev :=
  if d.hoc.state = .tripped then d else if d.hoc.assignment.isSome then d.move .assigned else d.move .off

/-- The contactor controller: an open request to each record CLOSING or CLOSED (R86). -/
def Dev.ctcWarning (d : Dev) : Dev := (d.openRequest .a .supplyWarning).openRequest .b .supplyWarning

/-- The meter: a membership ends with cause power (R145). -/
def Dev.mtrWarning (d : Dev) : Dev := d.endMembership .power

/-- The record store: a drain demand, and one for each entry it takes from now on (R164). -/
def Dev.rstWarning (d : Dev) : Dev := (d.setRst { d.rst with warned := true }).drainDemand

/-- The blocks but for the record store. -/
def Dev.blocksWarned (d : Dev) : Dev := d.syuWarning.mtrWarning.synWarning.ctcWarning.hocWarning

/-- The warning handed to the blocks (R177). Whether the record store or the meter takes it first is a free choice (log entry 3); where the
meter does, its records make no demand of their own, and the store's demand covers them (R164; log entry 58). -/
def Dev.warn (d : Dev) : Dev :=
  let d1 := d.setRun .shutdown
  if d1.choice then d1.spend.rstWarning.blocksWarned else d1.spend.blocksWarned.rstWarning

end Sys2Proof.Machine
end

