-- ==== Sys2Proof/Machine/Measure.lean ====
section
/-! DEFINITION. The measurement unit: the admission of sample sets, crossing trackers, period quantities, protection inputs, and how an admitted set runs through the blocks (chapter 1). -/

namespace Sys2Proof.Machine

/-! ### The sample set (R2, R3, R178) -/

/-- The eleven raw channels in the order of Table 1-1. -/
def rawChannels (r : RawSet) : List (BitVec 16) :=
  [r.va, r.vb, r.vc, r.ia, r.ib, r.ic, r.vba, r.vbb, r.vsa, r.vsb, r.vdc]

/-- The check word that a sample set should carry: the sequence as one byte and the channels, most significant byte first (R178). -/
def setCheck (r : RawSet) : BitVec 16 := crc16 (r.seq :: (rawChannels r).flatMap (fun v => natBe 2 v.toNat))

/-- One channel calibrated: times its gain, divided by 16 384, saturated (R3). -/
def calibrate (raw : BitVec 16) (gain : Int) : Int := sat16 (tdiv (raw.toInt * gain) 16384)

/-- The calibrated set (R3). -/
def calibrated (g : Channels) (r : RawSet) : Channels where
  va := calibrate r.va g.va
  vb := calibrate r.vb g.vb
  vc := calibrate r.vc g.vc
  ia := calibrate r.ia g.ia
  ib := calibrate r.ib g.ib
  ic := calibrate r.ic g.ic
  vba := calibrate r.vba g.vba
  vbb := calibrate r.vbb g.vbb
  vsa := calibrate r.vsa g.vsa
  vsb := calibrate r.vsb g.vsb
  vdc := calibrate r.vdc g.vdc

/-! ### Crossing trackers (R6 to R9, R11) -/

/-- The bus channel of an outlet (Table 1-2). -/
def Channels.busOf (c : Channels) : Outlet → Int
  | .a => c.vba
  | .b => c.vbb

/-- The ship channel of an outlet (Table 1-2). -/
def Channels.shipOf (c : Channels) : Outlet → Int
  | .a => c.vsa
  | .b => c.vsb

/-- The arming level of a reference line voltage (R6). -/
def armingLevel (vRef : Nat) : Nat := vRef * 14142 / 10000 * 5 / 100

/-- The floor of a square root, its bits tried from the top down. -/
def isqrtFrom : Nat → Nat → Nat → Nat
  | 0, _, r => r
  | k + 1, n, r => if (r + 2 ^ k) * (r + 2 ^ k) ≤ n then isqrtFrom k n (r + 2 ^ k) else isqrtFrom k n r

def isqrt (n : Nat) : Nat := isqrtFrom (n.log2 / 2 + 1) n 0

/-- A rising crossing at an admitted set (R7). -/
def Tracker.crosses (t : Tracker) (v : Int) (prev : Option Int) : Bool :=
  match prev with
  | none => false
  | some w => t.armed && decide (0 ≤ v) && decide (w < 0)

/-- The captured time of a crossing, without interpolation across a gap (R7). -/
def captureTime (setCount : Nat) (gap : Nat) (v : Int) (prev : Option Int) : Nat :=
  match gap, prev with
  | 0, some w => ((256 * (setCount : Int) - tdiv (256 * v) (v - w)) % 4294967296).toNat
  | _, _ => 256 * setCount % 4294967296

/-- RMS and its ratio over a closed window; an empty window forms nothing (R11, R9). -/
def Tracker.formRms (t : Tracker) (vRef : Nat) : Tracker :=
  if t.count = 0 then t
  else { t with rms := some (isqrt (t.sumSq / t.count)), ratio := some (isqrt (t.sumSq / t.count) * 1000 / vRef) }

/-- A period in the range of Table 1-3. -/
def periodValid (p : Nat) : Bool := decide (35109 ≤ p ∧ p ≤ 61440)

/-- The frequency of a period in mHz (Table 1-3). -/
def periodFreq (p : Nat) : Nat := (2457600000 + p / 2) / p

/-- A crossing at the tracker: the first after a restart opens the period, a later one closes it (R8). -/
def Tracker.cross (t : Tracker) (vRef time : Nat) : Tracker :=
  match t.capture with
  | none => { t with capture := some time, armed := false, fallback := 0, count := 0, sumSq := 0 }
  | some old =>
    let p := (time + 4294967296 - old) % 4294967296
    { t.formRms vRef with
      capture := some time
      armed := false
      fallback := 0
      count := 0
      sumSq := 0
      period := some p
      freq := if periodValid p then some (periodFreq p) else t.freq
      freqValid := periodValid p }

/-- The set joins the open window (R8, R11). -/
def Tracker.accumulate (t : Tracker) (v : Int) : Tracker :=
  { t with count := t.count + 1, sumSq := t.sumSq + v.natAbs * v.natAbs }

/-- What a set did to a tracker. -/
structure Tracked where
  tracker : Tracker
  crossed : Bool
  closed  : Bool
deriving DecidableEq, Repr

/-- An admitted set at a tracker, `gap` missing positions before it (R7 to R9). A set that holds a crossing makes no fallback close,
whatever count it brings (log entry 41). The first admitted set after START, with no set before it, counts as one position (R9; log entry 61). -/
def Tracker.takeSet (t : Tracker) (vRef setCount gap : Nat) (v : Int) (prev : Option Int) : Tracked :=
  let t1 := { t with fallback := t.fallback + gap + 1 }
  if t.crosses v prev then
    ⟨(t1.cross vRef (captureTime setCount gap v prev)).accumulate v, true, t.capture.isSome⟩
  else
    ⟨{ t1 with armed := t.armed || decide (v < -(armingLevel vRef : Int)) }.accumulate v, false, false⟩

/-- The fallback close of a tracker (R9). -/
def Tracker.fallbackClose (t : Tracker) (vRef : Nat) : Tracker :=
  { t.formRms vRef with freqValid := false, fallback := 0, count := 0, sumSq := 0 }

/-! ### Phase differences (R10) -/

/-- Δφ from the latest captures and the latest period of Y, in tenths of a degree. -/
def phaseTenths (tx ty py : Nat) : Int :=
  let d : Int := (BitVec.ofInt 32 ((ty : Int) - tx)).toInt
  let q := d % (py : Int) * 3600 / py
  if 1800 ≤ q then q - 3600 else q

/-- The phase difference formed anew at a crossing of either tracker. -/
def PhaseDiff.renew (o : PhaseDiff) (x y : Tracker) : PhaseDiff :=
  match x.capture, y.capture, y.period with
  | some tx, some ty, some py => if x.freqValid && y.freqValid then ⟨true, phaseTenths tx ty py⟩ else ⟨false, o.value⟩
  | _, _, _ => ⟨false, o.value⟩

/-- Both phase differences after the crossings of one set: each formed once, also where both of its trackers cross (R10; log entry 62). -/
def Msu.phases (m : Msu) (cell bus ship : Bool) : Msu :=
  { m with
    cellBus := if cell || bus then m.cellBus.renew m.cell m.bus else m.cellBus
    busShip := if bus || ship then m.busShip.renew m.bus m.ship else m.busShip }

/-! ### Power and load (R13, R16) -/

/-- P, Q and pu over the closed cell window; Q is 0 at a fallback close (R13). -/
def Msu.formPower (m : Msu) (rating : Nat) (withQ : Bool) : Msu :=
  let p := sat16 (tdiv (tdiv m.sumP m.cell.count) 10000)
  { m with
    p := p
    q := if withQ then sat16 (tdiv (tdiv m.sumQ m.cell.count) 10000) else 0
    pu := sat16 (tdiv (p * 10000) rating) }

/-- The overload comparison of a cell close (R16). -/
def Msu.overloadTest (m : Msu) (limitPu : Nat) : Msu :=
  { m with overload := if (limitPu : Int) ≤ m.pu then some (m.overload.getD 0) else none }

/-- A cell close at the power quantities; an empty window forms nothing (R9, R13, R16). -/
def Msu.cellClose (m : Msu) (cfg : Cfg) (withQ : Bool) : Msu :=
  if m.cell.count = 0 then m else (m.formPower cfg.rating withQ).overloadTest cfg.limitPu

/-- The instantaneous power of a set in 0.1 W (R13). -/
def Channels.power (c : Channels) : Int := c.va * c.ia + c.vb * c.ib + c.vc * c.ic

/-- The reactive product of a set with the phase voltages k sets earlier; 0 without a k or with too few sets held (R13). -/
def Msu.reactive (m : Msu) (c : Channels) : Int :=
  match m.delayK.bind (fun k => ((c.va, c.vb, c.vc) :: m.delayLine)[k]?) with
  | none => 0
  | some v => v.1 * c.ia + v.2.1 * c.ib + v.2.2 * c.ic

/-- The delay of the reactive product after a crossing of the cell tracker (R13). -/
def newDelay (old : Option Nat) (k : Tracked) : Option Nat :=
  if k.closed && k.tracker.freqValid then k.tracker.period.map (fun p => p / 1024) else old

/-- The set at the cell tracker and the power accumulators (R8, R13). -/
def Msu.cellSet (m : Msu) (cfg : Cfg) (c : Channels) (k : Tracked) : Msu :=
  let m1 := if k.closed then m.cellClose cfg true else m
  let m2 := { m1 with delayK := newDelay m.delayK k }
  let baseP := if k.crossed then 0 else m.sumP
  let baseQ := if k.crossed then 0 else m.sumQ
  { m2 with
    cell := k.tracker
    sumP := baseP + c.power
    sumQ := baseQ + m2.reactive c
    delayLine := ((c.va, c.vb, c.vc) :: m.delayLine).take 64
    secSum := m.secSum + c.power }

/-! ### Protection inputs (R15) -/

/-- Any of the three currents is at or above i_trip. -/
def overLevel (iTrip : Nat) (c : Channels) : Bool :=
  decide (iTrip ≤ c.ia.natAbs) || decide (iTrip ≤ c.ib.natAbs) || decide (iTrip ≤ c.ic.natAbs)

/-- The overcurrent run count after a set. -/
def ocNext (run : Nat) (high : Bool) : Nat := if high then min 2 (run + 1) else 0

/-! ### The admitted set -/

/-- V_ref as it stands now; the next admitted set takes it (R6). -/
def Dev.vRefNow (d : Dev) : Nat := (d.hoc.ownSession.map Session.vNom).getD d.cfg.vRated

/-- The bus condition of an RMS (R12). -/
def busCondOf (rms vRef : Nat) : BusCond :=
  if rms * 10 < vRef then .dead else if vRef * 8 ≤ rms * 10 then .live else .uncertain

/-- What one set brought beside the measured quantities. -/
structure SetEvents where
  gap      : Nat
  power    : Int
  overTrip : Bool
  cond     : Option BusCond
  busCross : Bool
  shipCross : Bool
deriving DecidableEq, Repr

/-- A tracker that follows nothing keeps as it is. -/
def Tracked.idle (t : Tracker) : Tracked := ⟨t, false, false⟩

/-- The outlet trackers at a set: both idle without an assignment (R6). -/
def outletTracked (x : Option Outlet) (t : Tracker) (vRef setCount gap : Nat) (pick : Outlet → Channels → Int) (c : Channels)
    (last : Option Channels) : Tracked :=
  match x with
  | none => Tracked.idle t
  | some o => t.takeSet vRef setCount gap (pick o c) (last.map (pick o))

/-- The condition that a bus close sets (R12). -/
def closedCond (old : Tracker) (k : Tracked) (vRef : Nat) : Option BusCond :=
  if k.closed && old.count != 0 then k.tracker.rms.map (fun r => busCondOf r vRef) else none

/-- The measurement unit at an admitted set: the new quantities and what they bring (R2 to R16). A cell close of the set below the limit
stops the overload timer before an expiry at the set is taken (R16; log entry 43). -/
def Msu.takeSet (m : Msu) (cfg : Cfg) (x : Option Outlet) (vRef : Nat) (seq : Byte) (gap : Nat) (c : Channels) : Msu × SetEvents :=
  let n := if m.lastSeq.isNone then 0 else gap + 1
  let setCount := (m.setCount + n) % 16777216
  let m0 :=
    { m with
      setCount := setCount
      lastSeq := some seq
      lastSet := some c
      watch := true
      setGap := 0
      vRef := vRef
      overload := m.overload.map (fun t => t + (gap + 1)) }
  let kc := m.cell.takeSet vRef setCount gap (c.va - c.vb) (m.lastSet.map (fun l => l.va - l.vb))
  let kb := outletTracked x m.bus vRef setCount gap (fun o l => l.busOf o) c m.lastSet
  let ks := outletTracked x m.ship vRef setCount gap (fun o l => l.shipOf o) c m.lastSet
  let high := overLevel cfg.iTrip c
  let m1 := { m0.cellSet cfg c kc with bus := kb.tracker, ship := ks.tracker, ocRun := ocNext m.ocRun high }
  (m1.phases kc.crossed kb.crossed ks.crossed,
    ⟨gap, c.power, decide (m.ocRun < 2) && decide (ocNext m.ocRun high = 2), closedCond m.bus kb vRef, kb.crossed,
      ks.crossed⟩)

/-- The crossing watches of both channels count the positions of the set (R96). -/
def Dev.watchesBy (n : Nat) (d : Dev) : Dev := d.setSyn ⟨d.syn.cell.watchBy n, d.syn.ship.watchBy n⟩

/-- The overcurrent trip of a set, where the run count reached 2 (R15). -/
def Dev.overTrip (c : Bool) (d : Dev) : Dev := if c then d.trip .overcurrent none else d

/-- A bus condition that a close formed, handed on when it changed (R12). -/
def Dev.takeCond (c : Option BusCond) (d : Dev) : Dev :=
  match c with
  | none => d
  | some v => d.setBusCond v

/-- The crossings of a set at the synchroniser (R91). -/
def Dev.takeCrossings (bus ship : Bool) (d : Dev) : Dev :=
  let d1 := if bus then d.busCrossing else d
  if ship then d1.shipCrossing else d1

/-- An admitted set through the blocks: measurement with the crossing watches, synthesis, metering, overcurrent, bus condition, synchroniser
(log entry 8). A watch that the set brings to its length falls together with the crossing it holds: Dev.watchTie (R96; log entry 3). -/
def Dev.admitSet (seq : Byte) (gap : Nat) (c : Channels) (d : Dev) : Dev :=
  let r := d.msu.takeSet d.cfg d.hoc.assignment d.vRefNow seq gap c
  let d1 := (d.setMsu r.1).watchesBy (gap + 1)
  (((((d1.synthesisSet gap).meterSet r.2.power).overTrip r.2.overTrip).takeCond r.2.cond).takeCrossings r.2.busCross
    r.2.shipCross)

/-- The gap before a sequence number, modulo 256; 255 is a repeat (R4). -/
def seqGap (last seq : Byte) : Nat := (seq - last - 1).toNat

/-- A sample set at the port (R2, R4). -/
def Dev.sampleSet (r : RawSet) (d : Dev) : Dev :=
  if setCheck r ≠ r.check then d
  else
    match d.msu.lastSeq with
    | none => d.admitSet r.seq 0 (calibrated d.cfg.gains r)
    | some last =>
      if r.seq = last then d.raise .sampleGap
      else (d.raiseIf (decide (0 < seqGap last r.seq)) .sampleGap).admitSet r.seq (seqGap last r.seq) (calibrated d.cfg.gains r)

/-! ### Expiries -/

/-- The watch timer expires: the set-gap counter, and SAMPLE_LOSS when it reaches 3 (R5). -/
def Dev.watchTimerExpiry (d : Dev) : Dev :=
  if d.msu.watch then
    let d1 := d.setMsu { d.msu with setGap := min 3 (d.msu.setGap + 1) }
    if d.msu.setGap = 2 then d1.trip .sampleLoss none else d1
  else d

/-- A fallback close of the cell tracker: P and pu with Q 0 (R9, R13). -/
def Msu.cellFallback (m : Msu) (cfg : Cfg) : Msu :=
  { m.cellClose cfg false with cell := m.cell.fallbackClose m.vRef, sumP := 0, sumQ := 0 }

/-- A tracker's fallback close, due at 480 positions (R9). The phase differences keep their valid mark until the next crossing that forms
them (R10; log entry 42). -/
def Dev.fallbackClose (t : TrackerId) (d : Dev) : Dev :=
  match t with
  | .cell => if 480 ≤ d.msu.cell.fallback then d.setMsu (d.msu.cellFallback d.cfg) else d
  | .bus =>
    if 480 ≤ d.msu.bus.fallback then
      let k : Tracked := ⟨d.msu.bus.fallbackClose d.msu.vRef, false, true⟩
      (d.setMsu { d.msu with bus := k.tracker }).takeCond (closedCond d.msu.bus k d.msu.vRef)
    else d
  | .ship =>
    if 480 ≤ d.msu.ship.fallback then d.setMsu { d.msu with ship := d.msu.ship.fallbackClose d.msu.vRef } else d

/-- The overload timer has run 96 000 positions: OVERLOAD (R16). -/
def Dev.overloadExpiry (d : Dev) : Dev :=
  match d.msu.overload with
  | none => d
  | some n => if 96000 ≤ n then (d.setMsu { d.msu with overload := none }).trip .overload none else d

end Sys2Proof.Machine
end

