-- ==== Sys2Proof/Machine/Cycle.lean ====
section
/-! DEFINITION. The beginning of a link cycle: what the link controller keeps anew and what it hands to the meter, the notice unit and the handover controller (R40, R42, R45, R48, R56). -/

namespace Sys2Proof.Machine

/-- The lone count at a cycle beginning in ALIGNED (R56). -/
def Lnk.loneNext (l : Lnk) : Nat :=
  if l.state = .aligned then (if l.heard then 0 else min 50 (l.loneCount + 1)) else l.loneCount

/-- The link controller's records of a cycle begun with a number: the reference sender becomes the previous cycle's, the
fault record moves on in ALIGNED, and an ALIGNED cell contends (R42, R45, R48). -/
def Lnk.begun (l : Lnk) (n : Nat) : Lnk :=
  { l with
    cycle := n
    refInstant := 0
    nextExpiry := 4000
    markSender := false
    prevRef := l.refSender
    refSender := none
    contending := decide (l.state = .aligned)
    adopted := false
    faults := if l.state = .aligned then (false :: l.faults).take 8 else l.faults
    loneCount := l.loneNext
    heard := false
    txAge := l.txAge + 1
    markAge := l.markAge + 1
    markOut := none
    bulletinOut := none }

/-- Whether the own bulletin carried the forming claim is a record of one cycle (R113). -/
def Dev.claimForgotten (d : Dev) : Dev := d.setHoc { d.hoc with claimCarried := false }

/-- The beginning of a cycle with a number, and what it hands out (R40). -/
def Dev.beginCycle (n : Nat) (d : Dev) : Dev :=
  let d1 := (((d.setLnk (d.lnk.begun n)).setMtr d.mtr.tick).setNtu d.ntu.tick).joinTick.hocCycle.claimForgotten
  if n % 8 = 0 then d1.superframe else d1

/-- The number after a cycle number (R40). -/
def nextCycle (n : Nat) : Nat := (n + 1) % 65536

/-- An expiry of the own cycle timer (R40). -/
def Dev.cycleExpiry (d : Dev) : Dev := d.beginCycle (nextCycle d.lnk.cycle)

/-- The lone count has reached 50: LINK_SILENT, once for the run (R56). -/
def Dev.loneExpiry (d : Dev) : Dev :=
  if d.lnk.state = .aligned ∧ d.lnk.loneCount = 50 ∧ !d.lnk.loneReported then
    (d.setLnk { d.lnk with loneReported := true }).raise .linkSilent
  else d

/-- The mark start instant with no carrier recognised: the mark is sent (R42, R45). -/
def Dev.sendMark (d : Dev) : Dev :=
  if d.lnk.state = .aligned ∧ d.lnk.contending ∧ d.cfg.station ≠ 0 then
    let took := match d.lnk.prevRef with
      | none => false
      | some p => decide (p ≠ d.cfg.station)
    (d.setLnk
      { d.lnk with
        contending := false
        markSender := true
        refSender := some d.cfg.station
        markTx := some (encodeMark d.lnk.cycle d.cfg.station)
        markAge := 0
        markOut := some (encodeMark d.lnk.cycle d.cfg.station) }).raiseIf took .markChange
  else d

end Sys2Proof.Machine
end

