-- ==== Sys2Proof/Machine/Start.lean ====
section
/-! DEFINITION. START and its six stages: straps, the configuration chain walk, the scan, INTERRUPTION and the entry; the supply warning and the loss of supply (chapter 11). -/

namespace Sys2Proof.Machine

/-! ### The configuration chain (R174, R175, Table 12-8) -/

/-- The walk so far: the values taken, the IDs that have appeared, and how many values were clamped. -/
structure Walk where
  cfg    : Cfg
  seen   : List Nat
  clamps : Nat
deriving DecidableEq, Repr

/-- A value clamped to its range, with 1 when the clamp acted (R175). -/
def clamped (lo hi v : Nat) : Nat × Nat := (clampNat lo hi v, if lo ≤ v ∧ v ≤ hi then 0 else 1)

/-- A value of which 0 selects the default (R175). -/
def defaulted (dflt lo hi v : Nat) : Nat × Nat := if v = 0 then (dflt, 0) else clamped lo hi v

/-- The payload length of a known ID; none is an unknown one (Table 12-8). -/
def blockLength (id : Nat) : Option Nat :=
  if id = 1 then some 4 else if id = 2 then some 5 else if id = 3 then some 4 else if id = 4 then some 8
  else if id = 5 then some 22 else if id = 6 then some 5 else if id = 7 then some 4 else none

/-- The CELL block. -/
def Walk.cellBlock (w : Walk) (b : List Byte) : Walk :=
  let rating := clamped 500 4000 (beNat (field b 0 2))
  let v := clamped 400 15000 (beNat (field b 2 2))
  { w with cfg := { w.cfg with rating := rating.1, vRated := v.1 }, clamps := w.clamps + rating.2 + v.2 }

/-- The CONTROL block. -/
def Walk.controlBlock (w : Walk) (b : List Byte) : Walk :=
  let dF := clamped 0 3000 (beNat (field b 0 2))
  let k := clamped 0 255 (byteAt b 2).toNat
  let dQ := clamped 0 100 (byteAt b 3).toNat
  let r := clamped 1 50 (byteAt b 4).toNat
  { w with
    cfg := { w.cfg with dF := dF.1, kShare := k.1, dQ := dQ.1, rampStep := r.1 }
    clamps := w.clamps + dF.2 + k.2 + dQ.2 + r.2 }

/-- The PROTECT block. -/
def Walk.protectBlock (w : Walk) (b : List Byte) : Walk :=
  let i := clamped 100 32767 (beNat (field b 0 2))
  let l := defaulted 11000 10000 12500 (beNat (field b 2 2))
  { w with cfg := { w.cfg with iTrip := i.1, limitPu := l.1 }, clamps := w.clamps + i.2 + l.2 }

/-- The CONTACTOR block. -/
def Walk.contactorBlock (w : Walk) (b : List Byte) : Walk :=
  let c := defaulted 200 50 500 (beNat (field b 0 2))
  let o := defaulted 100 30 300 (beNat (field b 2 2))
  let f := defaulted 150 50 500 (beNat (field b 4 2))
  let t := defaulted 60 20 150 (beNat (field b 6 2))
  { w with
    cfg := { w.cfg with closePulse := c.1, openPulse := o.1, confirmTime := f.1, cellClosing := t.1 }
    clamps := w.clamps + c.2 + o.2 + f.2 + t.2 }

/-- The n-th gain of the CAL block. -/
def gainAt (b : List Byte) (n : Nat) : Nat × Nat := clamped 12288 20480 (beNat (field b (2 * n) 2))

/-- The CAL block. -/
def Walk.calBlock (w : Walk) (b : List Byte) : Walk :=
  { w with
    cfg :=
      { w.cfg with
        gains :=
          { va := (gainAt b 0).1
            vb := (gainAt b 1).1
            vc := (gainAt b 2).1
            ia := (gainAt b 3).1
            ib := (gainAt b 4).1
            ic := (gainAt b 5).1
            vba := (gainAt b 6).1
            vbb := (gainAt b 7).1
            vsa := (gainAt b 8).1
            vsb := (gainAt b 9).1
            vdc := (gainAt b 10).1 } }
    clamps := w.clamps + ((List.range 11).map (fun n => (gainAt b n).2)).sum }

/-- The LINK block. -/
def Walk.linkBlock (w : Walk) (b : List Byte) : Walk :=
  let e := byteAt b 4
  { w with
    cfg :=
      { w.cfg with
        accept := u32At b 0
        enCorr := e.getLsbD 7
        enNonFatal := e.getLsbD 6
        enFatal := e.getLsbD 5 } }

/-- The STORE block. -/
def Walk.storeBlock (w : Walk) (b : List Byte) : Walk :=
  let p := clamped 0 100 (byteAt b 0).toNat
  let a := clamped 0 60 (byteAt b 1).toNat
  let n := clamped 0 1024 (beNat (field b 2 2))
  { w with cfg := { w.cfg with packing := p.1, absolute := a.1, nearFull := n.1 }, clamps := w.clamps + p.2 + a.2 + n.2 }

/-- The values of a block's payload by its ID; an unknown one is skipped. -/
def Walk.values (w : Walk) (id : Nat) (b : List Byte) : Walk :=
  if id = 1 then w.cellBlock b else if id = 2 then w.controlBlock b else if id = 3 then w.protectBlock b
  else if id = 4 then w.contactorBlock b else if id = 5 then w.calBlock b else if id = 6 then w.linkBlock b
  else if id = 7 then w.storeBlock b else w

/-- The identity test: an unknown ID passes; a known one needs its own length and must not have appeared (R174 step 4). -/
def Walk.identity (w : Walk) (id len : Nat) : Bool :=
  match blockLength id with
  | none => true
  | some n => n == len && !w.seen.contains id

/-- A walk that is still going takes one block: what it is then, and the next offset, or none when the walk ends in CONFIG_BAD. -/
def Walk.block (m : List Host.Cell) (limit off : Nat) (w : Walk) : Walk × Option Nat :=
  let id := (memRead m off).toNat
  let len := (memRead m (off + 1)).toNat
  if limit < off + 8 + len then (w, none)
  else if memReadBytes m (off + 4 + len) 4 ≠ natBe 4 (crc32 (memReadBytes m off (4 + len))).toNat then (w, none)
  else if !w.identity id len then (w, none)
  else
    (({ w with seen := id :: w.seen } : Walk).values id (memReadBytes m (off + 4) len),
      some (beNat (memReadBytes m (off + 2) 2)))

/-- Blocks taken from an offset, sixteen at most; true when the walk ended at a next offset of 0 (R174). -/
def walkFrom (m : List Host.Cell) (limit : Nat) : Nat → Nat → Walk → Walk × Bool
  | 0, _, w => (w, false)
  | fuel + 1, off, w =>
    match w.block m limit off with
    | (w1, none) => (w1, false)
    | (w1, some next) =>
      if next = 0 then (w1, true) else if limit ≤ next then (w1, false) else walkFrom m limit fuel next w1

/-- The whole walk: its last state, and whether it ended without error and with every mandatory block (R174). -/
def chainWalk (m : List Host.Cell) (protect : Fin 64) : Walk × Bool :=
  let r := walkFrom m (protect.val * 1024) 16 4 ⟨Cfg.fallback, [], 0⟩
  (r.1, r.2 && [1, 2, 3, 4, 5].all (fun id => r.1.seen.contains id))

/-! ### START (R172, R173) -/

/-- A raise made a number of times. -/
def Dev.raiseMany (k : NoticeKind) : Nat → Dev → Dev
  | 0, d => d
  | n + 1, d => Dev.raiseMany k n (d.raise k)

/-- The part at START values over a store and its pins, the station number read, before the walk (stages 1 and 2).
The free-choice index goes on. -/
def Dev.stage1 (mem : List Host.Cell) (pins : Pins) (d : Dev) : Dev :=
  { Dev.reset with
    run := .starting
    pins := pins
    cfg := { Cfg.fallback with station := pins.strap.toNat }
    ctc := ⟨Contactor.start pins.auxA, Contactor.start pins.auxB⟩
    rst := Rst.start mem (readProtect mem).1
    freeIdx := d.freeIdx }

/-- Stage 3: the walk's values or the fallback set, and the notices of stages 1 to 3 against the delivered enables (R165, R175). -/
def Dev.configure (d : Dev) : Dev :=
  let w := chainWalk d.rst.mem d.rst.protect
  let cfg : Cfg := if w.2 then w.1.cfg else Cfg.fallback
  let d1 := d.setCfg { cfg with station := d.cfg.station, configBad := !w.2 }
  let d2 := d1.setMsu { d1.msu with vRef := d1.cfg.vRated }
  ((d2.raiseMany .configClamped ((if (readProtect d.rst.mem).2 then 1 else 0) + w.1.clamps))).raiseIf (!w.2) .configBad

/-- The open operation of a contactor whose input reads closed at stage 6 (R87). -/
def Dev.startOpening (x : Outlet) (d : Dev) : Dev :=
  d.changeCon x ((d.ctc.get x).startOpen d.cfg.openPulse) .start

/-- Stage 6 at the contactor controller: A first; with both closed B is held (R87). -/
def Dev.contactorCheck (d : Dev) : Dev :=
  if d.ctc.a.auxClosed then d.startOpening .a else if d.ctc.b.auxClosed then d.startOpening .b else d

/-- Stage 6 at the link controller: the first expiry with cycle number 0, and LISTEN, or MUTED with CONFIG_BAD for station 0 (R40, R173). -/
def Dev.linkEntry (d : Dev) : Dev :=
  let d1 := d.beginCycle 0
  if d1.cfg.station = 0 then (d1.setLnk { d1.lnk with state := .muted }).raise .configBad
  else d1.setLnk { d1.lnk with state := .listen }

/-- Stage 6 at the run state: RUNNING, or SHUTDOWN with the warning handed when it stands (R172, R177). -/
def Dev.runEntry (d : Dev) : Dev :=
  let d1 := d.setRun .running
  if d1.pins.warning then d1.warn else d1

/-- START over a store: the six stages in order (R172). -/
def Dev.startOver (mem : List Host.Cell) (pins : Pins) (restart : Bool) (d : Dev) : Dev :=
  (((((d.stage1 mem pins).configure.scan).interruption restart).contactorCheck).linkEntry).runEntry

/-- START with the supply held: the engine's operation in flight completes first (R164, R172). -/
def Dev.warmStart (pins : Pins) (restart : Bool) (d : Dev) : Dev := d.startOver d.rst.settledMem pins restart

/-- Loss of supply: the operation in flight stops where it stands, and everything but the store's bytes is lost (R164).
The model holds the lost state at its START values (log entry 1). -/
def Dev.powerFail (d : Dev) : Dev :=
  let n := d.freeIdx
  let mem := d.rst.tornMem n
  { Dev.reset with run := .unpowered, pins := d.pins, rst := Rst.start mem (readProtect mem).1, freeIdx := n + 1 }

/-- Power-up: START over what the loss of supply left; a part still powered loses its supply first (log entry 4). -/
def Dev.powerUp (pins : Pins) (d : Dev) : Dev :=
  let d1 := if d.run = .unpowered then d else d.powerFail
  d1.startOver d1.rst.mem pins false

/-- The reset pin: START in every powered run state (R172). -/
def Dev.resetPin (pins : Pins) (d : Dev) : Dev := if d.run = .unpowered then d else d.warmStart pins false

/-- The supply warning: SHUTDOWN from RUNNING; in STARTING and SHUTDOWN it only stands (R177). -/
def Dev.supplyWarning (d : Dev) : Dev :=
  let d1 := d.setPins { d.pins with warning := true }
  if d.run = .running then d1.warn else if d.run = .unpowered then d else d1

/-- The warning clears: in SHUTDOWN, START; in STARTING it leaves no trace (R177). -/
def Dev.warningClear (pins : Pins) (d : Dev) : Dev :=
  if d.run = .shutdown then d.warmStart { pins with warning := false } false
  else if d.run = .unpowered then d
  else d.setPins { d.pins with warning := false }

end Sys2Proof.Machine
end

