-- ==== Sys2Proof/Machine/Orders.lean ====
section
/-! DEFINITION. The orders: each owner's decision and its effect, and the order path that takes, routes and answers them (R55, R85, R107 to R110, R121, R139, R150, R158, R159, R167 to R169, R176, R177). -/

namespace Sys2Proof.Machine

/-- What an owner made of an order: the part after it, and the reply's result. -/
abbrev Decision := Dev × Result

def Dev.accept (d : Dev) : Decision := (d, .accepted)
def Dev.refuse (r : Reason) (d : Dev) : Decision := (d, .refused r)

/-! ### Leaves and assignment (R109 to R111) -/

/-- A close in flight on the assigned contactor receives an open request (R109, R110). -/
def Dev.abandonClose (d : Dev) : Dev := if d.ownCon = some .closing then d.openOwn else d

/-- Entry to LEAVING with a destination: the state left recorded, the leave-stall timer started (R111). -/
def Dev.enterLeaving (dest : Option Outlet) (d : Dev) : Dev :=
  let d1 := d.move .leaving
  d1.setHoc { d1.hoc with leave := some ⟨dest, d.hoc.state⟩, leaveStall := some 30000 }

/-- The own cell is the only member of its outlet (R110). -/
def Dev.onlyMember (d : Dev) : Bool :=
  match d.hoc.assignment with
  | none => true
  | some x => (d.ptb.members x).isEmpty

/-- The own ship view reports the breaker CLOSED. -/
def Dev.breakerClosed (d : Dev) : Bool := (d.ownView.map ShipFacts.breaker).getD false

/-- The remaining share set could not carry the outlet total with a margin of 10% (R110). -/
def Dev.leaveShort (d : Dev) : Bool :=
  match d.hoc.assignment with
  | none => false
  | some x => decide ((d.capacitySum x - d.cfg.rating) * 10 < d.outletTotal x * 11)

/-- A leave from a loaded state needs permission (R110). -/
def Dev.leaveLoaded (dest : Option Outlet) (d : Dev) : Decision :=
  if d.onlyMember && d.breakerClosed then d.refuse .state
  else if d.leaveShort then d.refuse .capacity
  else (d.enterLeaving dest).accept

/-- The destination of a leave in progress replaced (R109, R110). -/
def Dev.redirect (dest : Option Outlet) (d : Dev) : Dev :=
  d.setHoc { d.hoc with leave := d.hoc.leave.map (fun l => ⟨dest, l.back⟩) }

/-- A leave, from UNASSIGN or from ASSIGN to the other outlet (R110). -/
def Dev.takeLeave (dest : Option Outlet) (d : Dev) : Decision :=
  match d.hoc.state with
  | .off => (d.applyDestination dest).accept
  | .assigned => (d.abandonClose.applyDestination dest).accept
  | .forming => (d.abandonClose.applyDestination dest).accept
  | .joining => (d.abandonClose.applyDestination dest).accept
  | .tripped => (d.reassign dest).accept
  | .leaving => (d.redirect dest).accept
  | .onBus => (d.enterLeaving dest).openOwn.accept
  | .matching => (d.enterLeaving dest).openOwn.accept
  | .parallelUp => d.leaveLoaded dest
  | .parallelHold => d.leaveLoaded dest
  | .island => d.leaveLoaded dest
  | .departWait => d.leaveLoaded dest
  | .parallelDown => d.leaveLoaded dest
  | .releaseWait => d.leaveLoaded dest

/-- ASSIGN once its tests have passed (the table of R109). -/
def Dev.assignTo (x : Outlet) (d : Dev) : Decision :=
  if d.hoc.state = .leaving then (d.redirect (some x)).accept
  else if d.hoc.assignment = some x then ((d.setCellCh d.syn.cell.reissue).energise).accept
  else d.takeLeave (some x)

/-- ASSIGN (R109). -/
def Dev.assign (outlet : Byte) (d : Dev) : Decision :=
  match outletOfCode outlet with
  | none => d.refuse .range
  | some x =>
    if d.cfg.configBad then d.refuse .state
    else if d.ctc.anyWelded then d.refuse .interlock
    else if d.hoc.state = .tripped then d.refuse .state
    else d.assignTo x

/-! ### Sessions (R6, R107, R108) -/

/-- The fields of SESSION OPEN in range (Table 7-3). -/
def sessionInRange (f : SessionFields) : Bool :=
  (f.fNom.toNat == 50000 || f.fNom.toNat == 60000) && decide (400 ≤ f.vNom.toNat ∧ f.vNom.toNat ≤ 15000)
    && (f.demand.toNat == 0 || decide (100 ≤ f.demand.toNat ∧ f.demand.toNat ≤ 40000))
    && decide (20 ≤ f.closing.toNat ∧ f.closing.toNat ≤ 250) && decide (50 ≤ f.release.toNat ∧ f.release.toNat ≤ 2000)

/-- The session record that SESSION OPEN makes; a demand of 0 is absent. -/
def sessionOf (f : SessionFields) : Session :=
  ⟨f.id.toNat, f.fNom.toNat, f.vNom.toNat, if f.demand.toNat = 0 then none else some f.demand.toNat, f.closing.toNat,
    f.release.toNat⟩

/-- A session record of the assigned outlet opened or closed: the bus condition is UNCERTAIN until its next close (R6, R12). -/
def Dev.sessionChanged (x : Outlet) (d : Dev) : Dev := if d.hoc.assignment = some x then d.setBusCond .uncertain else d

/-- The record opened (R107). -/
def Dev.openSession (x : Outlet) (f : SessionFields) (d : Dev) : Dev :=
  ((d.setHoc (d.hoc.setSession x (some (sessionOf f)))).sessionChanged x).energise

/-- SESSION OPEN (R107). A record that it opens is followed by the energising test of R112; an accepted repeat changes nothing and makes none
(log entry 57). -/
def Dev.sessionOpen (f : SessionFields) (d : Dev) : Decision :=
  match outletOfCode f.outlet with
  | none => d.refuse .range
  | some x =>
    if !sessionInRange f then d.refuse .range
    else
      match d.hoc.session x with
      | some s => if s.id = f.id.toNat then d.accept else d.refuse .state
      | none => (d.openSession x f).accept

/-- The handover controller on the close of its own outlet's session: out of FORMING, JOINING and the member states with an
open request; in LEAVING the open request at once (R108). -/
def Dev.sessionGone (d : Dev) : Dev :=
  match d.hoc.state with
  | .off => d
  | .assigned => d
  | .tripped => d
  | .leaving => d.openOwn
  | _ => d.openOwn.toAssigned

/-- The record closed: the meter's membership ends with cause session close before the open request (R108, R132). -/
def Dev.closeSession (x : Outlet) (d : Dev) : Dev :=
  let d1 := d.setHoc (d.hoc.setSession x none)
  if d.hoc.assignment = some x then ((d1.endMembership .sessionClose).sessionGone).sessionChanged x else d1

/-- SESSION CLOSE (R108). -/
def Dev.sessionClose (outlet : Byte) (id : Nat) (d : Dev) : Decision :=
  match outletOfCode outlet with
  | none => d.refuse .range
  | some x =>
    match d.hoc.session x with
    | none => d.refuse .state
    | some s =>
      if s.id ≠ id then d.refuse .range
      else if ((d.ptb.shipView x).map ShipFacts.breaker).getD false then d.refuse .state
      else (d.closeSession x).accept

/-! ### Transfer and departure (R121) -/

/-- The contracted demand exceeds the capacity sum of the assigned outlet. -/
def Dev.demandShort (d : Dev) : Bool :=
  match d.hoc.assignment, d.hoc.ownSession.bind Session.demand with
  | some x, some n => decide (d.capacitySum x < n)
  | _, _ => false

/-- The ship view lets the lead begin to match: a view, breaker OPEN, a generator on, the ship ready (R121). -/
def Dev.shipMatchable (d : Dev) : Bool :=
  match d.ownView with
  | none => false
  | some v => !v.breaker && decide (1 ≤ v.generators) && v.shipReady

/-- START TRANSFER at the lead (R121). -/
def Dev.leadTransfer (d : Dev) : Decision :=
  match d.hoc.state with
  | .parallelHold => (d.enter .parallelUp).accept
  | .onBus =>
    if !d.shipMatchable then d.refuse .state
    else if d.demandShort then d.refuse .capacity
    else (d.enter .matching).accept
  | _ => d.refuse .state

/-- START DEPARTURE at the lead (R121). -/
def Dev.leadDeparture (d : Dev) : Decision :=
  match d.hoc.state with
  | .island => (d.enter .departWait).accept
  | .parallelUp => (d.enter .parallelDown).accept
  | .parallelHold => (d.enter .parallelDown).accept
  | _ => d.refuse .state

/-- The tests that both orders share, then the lead's own (R121). -/
def Dev.stepOrder (outlet : Byte) (lead : Dev → Decision) (d : Dev) : Decision :=
  match outletOfCode outlet with
  | none => d.refuse .range
  | some x =>
    if d.hoc.assignment ≠ some x ∨ !d.hoc.state.isMember then d.refuse .state
    else if !d.hoc.lead then d.accept
    else lead d

/-! ### The other owners -/

/-- CLEAR TRIP (R85). -/
def Dev.clearTrip (d : Dev) : Decision :=
  if d.ctc.anyWelded then d.refuse .interlock
  else if d.hoc.state ≠ .tripped then d.refuse .state
  else if !d.ctc.bothOpen then d.refuse .state
  else if d.lnk.state = .muted ∨ d.msu.setGap = 3 ∨ d.msu.ocRun = 2 then d.refuse .state
  else if d.run ≠ .running then d.refuse .state
  else (if d.hoc.assignment.isSome then d.toAssigned else d.move .off).accept

/-- TARIFF (R139). -/
def Dev.tariff (count : Byte) (groups : List (BitVec 16 × Byte)) (d : Dev) : Decision :=
  if tariffValid count (tariffBands count groups) then
    (d.setMtr (d.mtr.writeStandby (tariffBands count groups))).accept
  else d.refuse .range

/-- COLLECT (R159). -/
def Dev.collect (requester start count : Nat) (d : Dev) : Decision :=
  if 1 ≤ count ∧ count ≤ 64 then (d.openJob requester start count).accept else d.refuse .range

/-- The condition that a standing kind reports still holds (R168). -/
def Dev.stands (k : NoticeKind) (d : Dev) : Bool :=
  match k with
  | .openFail => d.ctc.anyWelded
  | .storeFull => d.rst.full
  | .storeLow => d.rst.low
  | .configBad => d.cfg.configBad || d.cfg.station == 0
  | _ => false

/-- One listed kind cleared, and raised again at once while its condition stands (R167, R168). -/
def Dev.acknowledge (d : Dev) (k : NoticeKind) : Dev := (d.setNtu (d.ntu.clear k)).raiseIf (d.stands k) k

/-- A list without its repeats, in the order of first appearance. -/
def distinct : List NoticeKind → List NoticeKind
  | [] => []
  | k :: l => k :: (distinct l).filter (fun j => j != k)

/-- ACKNOWLEDGE NOTICES: a list of 1..28 codes that all name kinds (R167). The standing ones are raised again in the order of their first
place in the list (R168; log entry 53). -/
def Dev.acknowledgeNotices (count : Byte) (codes : List Byte) (d : Dev) : Decision :=
  let listed := (codes.take count.toNat).map kindOfCode
  if count = 0 ∨ 28 < count.toNat ∨ listed.length ≠ count.toNat ∨ listed.any Option.isNone then d.refuse .range
  else ((distinct (listed.filterMap id)).foldl Dev.acknowledge d).accept

/-- RESTART is accepted with both contactors OPEN outside the member states (R176). -/
def Dev.restartAccepted (d : Dev) : Bool := d.ctc.bothOpen && !d.hoc.state.isMember

/-! ### The order path (R55, R177, Table 3-4) -/

/-- The owner's decision of every order but RESTART; in SHUTDOWN every order is refused STATE. -/
def Dev.decideOrder (h : OrderHead) (o : Order) (d : Dev) : Decision :=
  if d.run = .shutdown then d.refuse .state
  else
    match o with
    | .assign x => d.assign x
    | .unassign => d.takeLeave none
    | .sessionOpen f => d.sessionOpen f
    | .sessionClose x id => d.sessionClose x id.toNat
    | .startTransfer x => d.stepOrder x Dev.leadTransfer
    | .startDeparture x => d.stepOrder x Dev.leadDeparture
    | .clearTrip => d.clearTrip
    | .tariff n g => d.tariff n g
    | .collect s n => d.collect h.sender s.toNat n.toNat
    | .confirm n => (d.confirmTo n.toNat).accept
    | .flush => d.drainDemand.accept
    | .acknowledge n c => d.acknowledgeNotices n c
    | .restart _ => d.refuse .state
    | .unknown _ => d.refuse .unknown

/-- The owner fills the reply place (R169). -/
def Dev.reply (x : Decision) : Dev := x.1.setNtu (x.1.ntu.fill x.2)

/-- A routed order: RESTART at start-up, which causes START in the same event when accepted (R176); every other at its owner. -/
def Dev.route (h : OrderHead) (o : Order) (d : Dev) : Dev :=
  match o with
  | .restart pins =>
    if d.run = .running ∧ d.restartAccepted then (Dev.reply d.accept).warmStart pins true
    else Dev.reply (d.refuse .state)
  | _ => Dev.reply (d.decideOrder h o)

/-- The place of a station in the order memory (R55). -/
def Lnk.remembered (l : Lnk) (k : Nat) : Option Byte := if h : 1 ≤ k ∧ k ≤ 31 then l.orderMem[k - 1]'(by omega) else none

/-- A tag written into a station's place, or the place emptied. -/
def Lnk.remember (l : Lnk) (k : Nat) (v : Option Byte) : Lnk :=
  if h : 1 ≤ k ∧ k ≤ 31 then { l with orderMem := l.orderMem.set (k - 1) v (by omega) } else l

/-- An order is addressed to the cell: target 0, or the own station number (R55). -/
def Dev.addressed (d : Dev) (h : OrderHead) : Bool := h.target.toNat == 0 || h.target.toNat == d.cfg.station

/-- A terminal's order at the order path: target, memory, reply place, routing (R55). -/
def Dev.order (h : OrderHead) (o : Order) (d : Dev) : Dev :=
  if !d.addressed h then d
  else if d.lnk.remembered h.sender = some h.tag then d
  else
    let d1 := d.setLnk (d.lnk.remember h.sender (some h.tag))
    if d1.ntu.hasPlace then (d1.setNtu (d1.ntu.takePlace o.kind h)).route h o else d1.raise .orderOverrun

end Sys2Proof.Machine
end

