-- ==== Sys2Proof/Machine/Link.lean ====
section
/-! DEFINITION. The link controller's line events: marks heard, window closes, the own bulletin and its annex, read-back, receiving, and slot ends with the peer table (chapters 3, 4 and 10). -/

namespace Sys2Proof.Machine

/-! ### Marks heard (R43, R44, R48) -/

/-- The fault record with the cycle at a place marked faulty; places it does not hold yet stand for clean cycles (R48). -/
def markFault (l : List Bool) (i : Nat) : List Bool := ((l ++ List.replicate (i + 1 - l.length) false).set i true).take 8

/-- A cycle judged faulty: marked in the record, and MUTED when the record then holds two (R48). -/
def Dev.faulty (i : Nat) (d : Dev) : Dev :=
  let f := markFault d.lnk.faults i
  let d1 := d.setLnk { d.lnk with faults := f }
  if 2 ≤ f.count true then d1.enterMuted else d1

/-- A mark's carrier started inside the mark window of the cycle that has begun. -/
def inWindow (start : Int) : Bool := decide (-16 ≤ start ∧ start ≤ 96)

/-- A mark's carrier started inside the window of the cycle still to begin: the mark is early (R43 step 2). -/
def Lnk.early (l : Lnk) (start : Int) : Bool := decide (l.nextExpiry - 16 ≤ start)

/-- The reference instant, timing and reference sender of an adopted mark (R43). The cell does not contend for what is left of the cycle, one
that the adoption itself began included (R42; log entry 55). -/
def Lnk.retimed (l : Lnk) (ref : Int) (sender : Nat) : Lnk :=
  { l with
    refInstant := ref
    nextExpiry := ref + 4000
    refSender := some sender
    adopted := true
    contending := false
    silenceCount := 0 }

/-- Adoption inside the window of the current cycle: timing, and the number with its boundary (R43 steps 3 to 5). -/
def Dev.adoptMark (number sender : Nat) (ref : Int) (d : Dev) : Dev :=
  let own := d.lnk.cycle
  let d1 := d.setLnk { d.lnk.retimed ref sender with cycle := number }
  if number ≠ own ∧ number % 8 = 0 ∧ own % 8 ≠ 0 then d1.superframe else d1

/-- What a cycle cut short leaves behind: no outcome waits, and the own slot's watch begins anew unless the own bulletin is on the line (R44, R59). -/
def Lnk.cut (l : Lnk) : Lnk :=
  { l with rx := none, ownCarrier := l.ownCarrier && l.tx.isSome, ownDuplicate := false }

/-- The instant a mark of six bytes proves valid lies 12 half-microseconds after its start; from there its cycle began earlier. -/
def markRef (sender : Nat) : Int := -12 - 3 * (sender : Int)

/-- Adoption outside the window: the current cycle ends, a new one of the mark's number begins (R44). -/
def Dev.adoptOutside (number sender : Nat) (d : Dev) : Dev :=
  let d1 := (d.setLnk d.lnk.cut).beginCycle number
  d1.setLnk (d1.lnk.retimed (markRef sender) sender)

/-- An early mark: the own expiry is taken at once, then the mark is adopted (R43). -/
def Dev.adoptEarly (number sender : Nat) (d : Dev) : Dev := d.cycleExpiry.adoptMark number sender (markRef sender)

/-- Whether a valid mark outside the window is adopted (R44). -/
def Lnk.adoptsOutside (l : Lnk) (sender : Nat) : Bool :=
  match l.state with
  | .listen => true
  | .muted => true
  | .aligned =>
    match l.refSender with
    | none => true
    | some r => decide (sender < r)

/-- A mark of the current cycle was adopted or sent: the cycle has a reference sender, and a later mark in its window is the second
(R43). A cycle that an adoption outside the window began counts as having had its mark (log entry 44). -/
def Lnk.marked (l : Lnk) : Bool := l.adopted || l.refSender.isSome

/-- A valid mark heard in the current cycle, by where its carrier started; a second one is not adopted (R43, R44; log entry 44). -/
def Dev.validMark (number sender : Nat) (start : Int) (d : Dev) : Dev :=
  if inWindow start then
    if d.lnk.marked then d else d.adoptMark number sender (start - 3 * (sender : Int))
  else if d.lnk.adoptsOutside sender then d.adoptOutside number sender
  else d

/-- The collision of an own mark with a valid mark of another station (R48). -/
def Dev.markCollision (d : Dev) : Dev := if d.lnk.state = .aligned ∧ d.lnk.markSender then d.faulty 0 else d

/-- The read-back of the own mark: bytes heard that are not the ones sent, or overdrive, make the cycle in which the mark began faulty
(R44, R48). A mark whose bytes are heard as sent has its check word good. In MUTED nothing is judged. -/
def Dev.markReadBack (bytes : List Byte) (overdrive : Bool) (d : Dev) : Dev :=
  match d.lnk.markTx with
  | none => d
  | some sent =>
    let d1 := d.setLnk { d.lnk with markTx := none }
    if d.lnk.state = .aligned ∧ (bytes ≠ sent ∨ overdrive) then d1.faulty d.lnk.markAge else d1

/-- The stand-down before the own start instant: any carrier in slot 0 (R42). -/
def Dev.standDown (start : Int) (d : Dev) : Dev :=
  if inWindow start then d.setLnk { d.lnk with contending := false } else d

/-- Another station's carrier: one that fails its check is no mark; an early mark belongs to the cycle that its expiry begins (R42, R43). -/
def Dev.markHeard (bytes : List Byte) (start : Int) (d : Dev) : Dev :=
  match decodeMark bytes with
  | none => d.standDown start
  | some m =>
    if d.lnk.early start then d.adoptEarly m.1 m.2 else ((d.standDown start).markCollision).validMark m.1 m.2 start

/-- A mark on the line: another station's, or the own one read back with the line's overdrive (R42, R43, R48; log entry 5). -/
def Dev.markReceived (bytes : List Byte) (start : MarkHeard) (d : Dev) : Dev :=
  match start with
  | .other carrier => d.markHeard bytes carrier
  | .own overdrive => d.markReadBack bytes overdrive

/-- The mark window closes: the silence count in LISTEN (R47). -/
def Dev.windowClose (d : Dev) : Dev :=
  d.setLnk
    { d.lnk with
      contending := false
      silenceCount :=
        if d.lnk.state = .listen ∧ !d.lnk.adopted then min 25 (d.lnk.silenceCount + 1) else d.lnk.silenceCount }

/-- The silence count has reached 25 in LISTEN: a lone station becomes ALIGNED (R47). -/
def Dev.silenceExpiry (d : Dev) : Dev :=
  if d.lnk.state = .listen ∧ d.lnk.silenceCount = 25 then d.becomeAligned else d

/-! ### The own bulletin (R50, R51, R104, R123, R124, R146, R170) -/

/-- The outlet annex due at this assembly. -/
def Dev.outletAnnex (d : Dev) : Option Annex :=
  match d.hoc.assignment with
  | none => none
  | some x =>
    if d.hoc.lead then
      match d.hoc.state with
      | .matching => if d.syn.ship.state = .met then some (.permit x d.syn.ship.latest) else none
      | .releaseWait => some (.openRequest x ((d.hoc.ownSession.map Session.id).getD 0))
      | .island => d.hoc.shedDue.map (Annex.shed x)
      | .departWait => d.hoc.shedDue.map (Annex.shed x)
      | _ => none
    else none

/-- The oldest place of the reply queue, when it is filled. -/
def Ntu.filledHead (n : Ntu) : Option ReplyPlace := n.replies.head?.filter (fun p => p.result.isSome)

/-- The METER annex's values as they stand (R146). -/
def Mtr.annex (m : Mtr) : Annex :=
  .meter (m.membership.map Membership.id) m.interval.first (if m.membership.isSome then m.totImport else 0) m.active m.armed
    m.dropped

/-- The annex of a ready item for its requester. -/
def ReadyItem.annex (requester : Nat) : ReadyItem → Annex
  | .gone o => .gone requester o
  | .record i => .record i
  | .finish n => .finish requester n

/-- The collection job's ready item as an annex. -/
def Rst.readyAnnex (r : Rst) : Option Annex := r.job.bind (fun j => j.ready.map (ReadyItem.annex j.requester))

/-- The notice at the head of the queue as an annex (R166). -/
def Ntu.noticeAnnex (n : Ntu) : Option Annex := n.queue.head?.map (fun k => .notice k (n.entry k))

/-- The annex arbiter's grant: the item, and the part after it has left its queue or job (R170). -/
def Dev.grant (d : Dev) : Annex × Dev :=
  match d.outletAnnex with
  | some a => (a, d)
  | none =>
    match d.ntu.filledHead with
    | some p => (.reply p, d.setNtu { d.ntu with replies := d.ntu.replies.tail })
    | none =>
      match d.ntu.noticeAnnex with
      | some a => (a, d.setNtu { d.ntu with queue := d.ntu.queue.tail })
      | none =>
        match d.rst.readyAnnex with
        | some a => (a, d.itemGranted)
        | none =>
          if d.ntu.spacing = 8 then (d.mtr.annex, d.setNtu { d.ntu with spacing := 0 }) else (.none, d)

/-- The flags of the CELL body, from the highest position down (Table 12-3). -/
def Dev.flagsByte (d : Dev) : Byte :=
  BitVec.ofNat 8
    (bitIf d.hoc.forming 128 + bitIf d.hoc.lead 64 + bitIf d.hoc.leave.isSome 32 + bitIf d.syu.limit 16
      + bitIf (d.hoc.state == .tripped) 8)

/-- The class summary and the link state of the CELL body (Table 12-3). -/
def Dev.statusByte (d : Dev) : Byte :=
  BitVec.ofNat 8
    (bitIf (d.ntu.summary .correctable) 128 + bitIf (d.ntu.summary .nonFatal) 64 + bitIf (d.ntu.summary .fatal) 32
      + (if d.lnk.markSender then 2 else 1))

/-- The CELL body (Tables 3-3 and 12-3). -/
def Dev.cellBody (d : Dev) : List Byte :=
  [outletCode d.hoc.assignment, BitVec.ofNat 8 d.hoc.state.code,
      BitVec.ofNat 8 (d.ctc.a.state.code * 16 + d.ctc.b.state.code), d.flagsByte, d.statusByte]
    ++ intBe 2 d.msu.p ++ intBe 2 d.msu.q ++ intBe 2 d.msu.pu ++ intBe 2 d.syu.fRamp ++ natBe 2 d.cfg.rating
    ++ natBe 2 d.hoc.joinAge ++ natBe 3 (d.msu.bus.validFreq.getD 0)

/-- The own bulletin with an annex (Table 12-2). -/
def Dev.bulletin (a : Annex) (d : Dev) : List Byte :=
  withCrc16
    ([BitVec.ofNat 8 d.cfg.station, 1, a.code, outletCode d.hoc.assignment] ++ padTo 20 d.cellBody ++ padTo 32 a.bytes)

/-- The assembly of the own bulletin in ALIGNED: one grant, every field as it stands, SHED for one cycle only, and whether the
bulletin carries the forming claim (R50, R51, R113, R123). -/
def Dev.assemble (d : Dev) : Dev :=
  if d.lnk.state = .aligned ∧ d.cfg.station ≠ 0 then
    let g := d.grant
    let b := d.bulletin g.1
    let d1 := g.2.setHoc { g.2.hoc with shedDue := none, claimCarried := d.hoc.forming }
    d1.setLnk { d1.lnk with tx := some b, txAge := 0, bulletinOut := some b }
  else d

/-! ### The end of the own slot (R46 to R48) -/

/-- The alignment count at the end of the own slot (R46). -/
def Lnk.alignNext (l : Lnk) : Nat := if l.adopted && !l.ownCarrier then min 8 (l.alignCount + 1) else 0

/-- The own slot in LISTEN: a duplicate mutes, a full count aligns (R46, R47). -/
def Dev.listenSlot (d : Dev) : Dev :=
  let n := d.lnk.alignNext
  if d.lnk.ownDuplicate then d.enterMuted
  else
    let d1 := d.setLnk { d.lnk with alignCount := n }
    if n = 8 then d1.becomeAligned else d1

/-- The read-back of the own bulletin (R48). -/
def Dev.readBack (heard : List Byte) (overdrive : Bool) (d : Dev) : Dev :=
  match d.lnk.tx with
  | none => d
  | some sent => if heard ≠ sent ∨ overdrive ∨ d.lnk.ownCarrier then d.faulty d.lnk.txAge else d

/-- The watch of the own slot begins anew. -/
def Dev.slotWatched (d : Dev) : Dev :=
  d.setLnk { d.lnk with tx := none, ownCarrier := false, ownDuplicate := false }

/-- The end of the own slot by link state. -/
def Dev.ownSlotEnd (heard : List Byte) (overdrive : Bool) (d : Dev) : Dev :=
  if d.cfg.station = 0 then d
  else
    match d.lnk.state with
    | .listen => d.listenSlot.slotWatched
    | .aligned => (d.readBack heard overdrive).slotWatched
    | .muted => d.slotWatched

/-! ### Receiving (R41, R52, R53) -/

/-- The slot to which a carrier start is attributed: within 10 µs of the beginning of a slot 1..31 (R41). -/
def Lnk.slotOf (l : Lnk) (start : Int) : Option Nat :=
  let t := start - l.refInstant
  let k := t / 125
  if 1 ≤ k ∧ k ≤ 31 ∧ t % 125 ≤ 20 then some k.toNat else none

/-- The carrier came before the own transmission began, 2 µs into the slot (R48). -/
def Lnk.beforeOwn (l : Lnk) (start : Int) : Bool := decide ((start - l.refInstant) % 125 < 4)

/-- The check word of a bulletin whose carrier started at an instant: the 58 bytes take 116 half-microseconds of the slot's 125, so one that
starts later than 9 into its slot falls across the slot's edge and fails (R41, R52; log entry 60). -/
def Lnk.checkGood (l : Lnk) (bytes : List Byte) (start : Int) : Bool :=
  crc16Good bytes 58 && decide ((start - l.refInstant) % 125 ≤ 9)

/-- Carrier attributed to the own slot (R46 to R48). -/
def Dev.ownSlotCarrier (bytes : List Byte) (start : Int) (d : Dev) : Dev :=
  match d.lnk.state with
  | .aligned => if d.lnk.beforeOwn start then d.setLnk { d.lnk with ownCarrier := true } else d
  | .muted => d
  | .listen =>
    d.setLnk
      { d.lnk with
        ownCarrier := true
        ownDuplicate :=
          d.lnk.ownDuplicate || (d.lnk.checkGood bytes start && (byteAt bytes 0).toNat == d.cfg.station) }

/-- The accept vector admits a station; the own number's position has no effect (R53). -/
def Dev.accepts (d : Dev) (k : Nat) : Bool := d.cfg.accept.getLsbD k

/-- The check of a bulletin attributed to a slot, in the order of R52. -/
def Dev.checkBulletin (slot : Nat) (bytes : List Byte) (start : Int) (d : Dev) : Dev :=
  if !d.lnk.checkGood bytes start || (byteAt bytes 0).toNat != slot || (roleOfCode (byteAt bytes 1)).isNone then d.raise .badBulletin
  else if !d.accepts slot then d.raise .foreign
  else d.setLnk { d.lnk with rx := some (slot, bytes) }

/-- The reception of a bulletin ends (R41, R52); carrier attributed to no slot is disregarded. -/
def Dev.bulletinReceived (bytes : List Byte) (start : Int) (d : Dev) : Dev :=
  match d.lnk.slotOf start with
  | none => d
  | some k => if k = d.cfg.station then d.ownSlotCarrier bytes start else d.checkBulletin k bytes start

/-! ### Slot ends (R54, R59 to R63, R69 to R71) -/

/-- An entry that became ABSENT: its place in the order memory empties, and PEER_LOST for a member of the assigned outlet (R62, R63). -/
def Dev.entryGone (k : Nat) (e : PeerEntry) (d : Dev) : Dev :=
  let lost := match d.hoc.assignment with
    | none => false
    | some x => e.lastMember x
  (d.setLnk (d.lnk.remember k none)).raiseIf lost .peerLost

/-- A missed outcome at an entry (R62). -/
def Dev.missedSlot (k : Nat) (d : Dev) : Dev :=
  let old := d.ptb.get k
  let e := old.aged
  let d1 := d.setPtb (d.ptb.put k e)
  if old.state ≠ .absent ∧ e.state = .absent then d1.entryGone k e else d1

/-- A store: the entry, and VESSEL_CONFLICT for a second adapter of an outlet (R59, R71). -/
def Dev.storeBody (k : Nat) (b : PeerBody) (d : Dev) : Dev :=
  let t := d.ptb.put k (PeerEntry.stored b)
  ((d.setPtb t).raiseIf (vesselConflict d.ptb t k .a) .vesselConflict).raiseIf (vesselConflict d.ptb t k .b) .vesselConflict

/-- The peer table takes an accepted bulletin: stored, or rejected with BAD_BULLETIN and then aged (R59, R60; the order of BAD_BULLETIN
and PEER_LOST is log entry 45). -/
def Dev.takeBody (k : Nat) (role : Role) (bytes : List Byte) (d : Dev) : Dev :=
  match decodeBody role (bulletinBody bytes) with
  | some b => d.storeBody k b
  | none => (d.raise .badBulletin).missedSlot k

/-- A ship-view notice where a vessel bulletin was accepted or a view changed its source (R54, R61, R62, R70). -/
def Dev.viewNotice (before : Ptb) (vessel : Bool) (d : Dev) : Dev :=
  if vessel || before.shipSource .a != d.ptb.shipSource .a || before.shipSource .b != d.ptb.shipSource .b then d.shipNotice
  else d

/-- The time source's stored body handed to the meter (R69). -/
def Dev.timeHandOff (k : Nat) (bytes : List Byte) (d : Dev) : Dev :=
  match decodeTime (bulletinBody bytes) with
  | none => d
  | some t => if d.ptb.timeSource = some k then d.adoptTime t else d

/-- The order of a TERMINAL bulletin at the order path (R55, R179), with the levels that a RESTART finds on the pins (R173). -/
def Dev.terminalOrder (k : Nat) (bytes : List Byte) (pins : Pins) (d : Dev) : Dev :=
  match decodeOrder (byteAt bytes 11) (orderFields bytes) pins with
  | none => d
  | some o => d.order ⟨k, byteAt bytes 12, byteAt bytes 13⟩ o

/-- What the role of an accepted bulletin decides beside the peer table (R54). A TERMINAL bulletin that ends a ship view gives its
ship-view notice before the time and the order (R61; log entry 47). -/
def Dev.byRole (k : Nat) (role : Role) (bytes : List Byte) (pins : Pins) (before : Ptb) (d : Dev) : Dev :=
  match role with
  | .cell => d.viewNotice before false
  | .terminal => ((d.viewNotice before false).timeHandOff k bytes).terminalOrder k bytes pins
  | .vessel => d.viewNotice before true

/-- An accepted bulletin at its slot's end; the lone count clears (R54, R56). The peer table takes the body first, so an entry that a
rejected body ages away has emptied its order-memory place before the order is looked at (R62; log entry 46). -/
def Dev.acceptedSlot (k : Nat) (bytes : List Byte) (pins : Pins) (d : Dev) : Dev :=
  let d1 := d.setLnk { d.lnk with heard := true, loneCount := 0, loneReported := false }
  match roleOfCode (byteAt bytes 1) with
  | none => d1.missedSlot k
  | some role => (d1.takeBody k role bytes).byRole k role bytes pins d.ptb

/-- The bulletin accepted in a slot, if one was. -/
def Lnk.outcome (l : Lnk) (k : Nat) : Option (List Byte) := l.rx.bind (fun r => if r.1 = k then some r.2 else none)

/-- The end of a station slot other than the own (R54), with the levels on the pins. -/
def Dev.slotEnd (k : Nat) (pins : Pins) (d : Dev) : Dev :=
  if k = d.cfg.station ∨ k = 0 ∨ 31 < k then d
  else
    let d1 := d.setLnk { d.lnk with rx := none }
    match d.lnk.outcome k with
    | some bytes => d1.acceptedSlot k bytes pins
    | none => (d1.missedSlot k).viewNotice d.ptb false

end Sys2Proof.Machine
end

