-- ==== Sys2Proof/Machine/Supply.lean ====
section
/-! DEFINITION. The meanings of the commands of the supply and of START (chapter 11). Each command changes the part and leaves the queue alone. -/

namespace Sys2Proof.Machine

/-- A command's outcome: the next state, the part changed by an effect. -/
def State.run (s : State) (f : Dev → Dev) : Host.Outcome State Fault Refusal := .next (s.onDev f)

/-- POWER_UP (R172). -/
def execPowerUp (pins : Pins) (s : State) : Host.Outcome State Fault Refusal := s.run (Dev.powerUp pins)

/-- RESET_PIN (R172, R164). -/
def execResetPin (pins : Pins) (s : State) : Host.Outcome State Fault Refusal := s.run (Dev.resetPin pins)

/-- SUPPLY_WARNING (R177). -/
def execSupplyWarning (s : State) : Host.Outcome State Fault Refusal := s.run Dev.supplyWarning

/-- SUPPLY_WARNING_CLEAR (R177). -/
def execSupplyWarningClear (pins : Pins) (s : State) : Host.Outcome State Fault Refusal := s.run (Dev.warningClear pins)

/-- POWER_FAIL (R164). -/
def execPowerFail (s : State) : Host.Outcome State Fault Refusal := s.run Dev.powerFail

end Sys2Proof.Machine
end

