-- ==== Sys2Proof/Machine/Samples.lean ====
section
/-! DEFINITION. The meanings of the commands of the sample port and its timers (chapter 1). Each command changes the part and leaves the queue alone. -/

namespace Sys2Proof.Machine

/-- SAMPLE_SET (R2 to R16). -/
def execSampleSet (raw : RawSet) (s : State) : Host.Outcome State Fault Refusal := s.run (Dev.whenUp (Dev.sampleSet raw))

/-- WATCH_TIMER_EXPIRY (R5). -/
def execWatchTimerExpiry (s : State) : Host.Outcome State Fault Refusal := s.run (Dev.whenUp Dev.watchTimerExpiry)

/-- FALLBACK_CLOSE (R9). -/
def execFallbackClose (t : TrackerId) (s : State) : Host.Outcome State Fault Refusal := s.run (Dev.whenUp (Dev.fallbackClose t))

/-- OVERLOAD_TIMER_EXPIRY (R16). -/
def execOverloadTimerExpiry (s : State) : Host.Outcome State Fault Refusal := s.run (Dev.whenUp Dev.overloadExpiry)

end Sys2Proof.Machine
end

