-- ==== Sys2Proof/Machine/Line.lean ====
section
/-! DEFINITION. The meanings of the commands of the quay link (chapters 3, 4 and 10). Each command changes the part and leaves the queue alone. -/

namespace Sys2Proof.Machine

/-- CYCLE_TIMER_EXPIRY (R40). -/
def execCycleTimerExpiry (s : State) : Host.Outcome State Fault Refusal := s.run (Dev.whenUp Dev.cycleExpiry)

/-- SEND_MARK (R42). -/
def execSendMark (s : State) : Host.Outcome State Fault Refusal := s.run (Dev.whenUp Dev.sendMark)

/-- MARK_RECEIVED (R43, R44, R48). -/
def execMarkReceived (bytes : List Byte) (start : MarkHeard) (s : State) : Host.Outcome State Fault Refusal := s.run (Dev.whenUp (Dev.markReceived bytes start))

/-- MARK_WINDOW_CLOSE (R47). -/
def execMarkWindowClose (s : State) : Host.Outcome State Fault Refusal := s.run (Dev.whenUp Dev.windowClose)

/-- SILENCE_COUNT_EXPIRY (R47). -/
def execSilenceCountExpiry (s : State) : Host.Outcome State Fault Refusal := s.run (Dev.whenUp Dev.silenceExpiry)

/-- LONE_COUNT_EXPIRY (R56). -/
def execLoneCountExpiry (s : State) : Host.Outcome State Fault Refusal := s.run (Dev.whenUp Dev.loneExpiry)

/-- OWN_BULLETIN_ASSEMBLY (R50, R51). -/
def execOwnBulletinAssembly (s : State) : Host.Outcome State Fault Refusal := s.run (Dev.whenUp Dev.assemble)

/-- OWN_SLOT_END (R46 to R48). -/
def execOwnSlotEnd (heard : List Byte) (overdrive : Bool) (s : State) : Host.Outcome State Fault Refusal := s.run (Dev.whenUp (Dev.ownSlotEnd heard overdrive))

/-- BULLETIN_RECEIVED (R52, R53). -/
def execBulletinReceived (bytes : List Byte) (start : Int) (s : State) : Host.Outcome State Fault Refusal := s.run (Dev.whenUp (Dev.bulletinReceived bytes start))

/-- SLOT_END (R54). -/
def execSlotEnd (slot : SlotMoment) (s : State) : Host.Outcome State Fault Refusal := s.run (Dev.whenUp (Dev.slotEnd slot.number slot.pins))

end Sys2Proof.Machine
end

