-- ==== Sys2Proof/Machine/OrderRows.lean ====
section
/-! DEFINITION. The meanings of the orders as the order path takes them (R55, Table 3-4). Each command changes the part and leaves the queue alone. -/

namespace Sys2Proof.Machine

/-- ASSIGN (R109). -/
def execAssign (h : OrderHead) (outlet : Byte) (s : State) : Host.Outcome State Fault Refusal := s.run (Dev.whenUp (Dev.order h (.assign outlet)))

/-- UNASSIGN (R110). -/
def execUnassign (h : OrderHead) (s : State) : Host.Outcome State Fault Refusal := s.run (Dev.whenUp (Dev.order h .unassign))

/-- SESSION_OPEN (R107). -/
def execSessionOpen (h : OrderHead) (f : SessionFields) (s : State) : Host.Outcome State Fault Refusal := s.run (Dev.whenUp (Dev.order h (.sessionOpen f)))

/-- SESSION_CLOSE (R108). -/
def execSessionClose (h : OrderHead) (outlet : Byte) (id : BitVec 32) (s : State) : Host.Outcome State Fault Refusal := s.run (Dev.whenUp (Dev.order h (.sessionClose outlet id)))

/-- START_TRANSFER (R121). -/
def execStartTransfer (h : OrderHead) (outlet : Byte) (s : State) : Host.Outcome State Fault Refusal := s.run (Dev.whenUp (Dev.order h (.startTransfer outlet)))

/-- START_DEPARTURE (R121). -/
def execStartDeparture (h : OrderHead) (outlet : Byte) (s : State) : Host.Outcome State Fault Refusal := s.run (Dev.whenUp (Dev.order h (.startDeparture outlet)))

/-- CLEAR_TRIP (R85). -/
def execClearTrip (h : OrderHead) (s : State) : Host.Outcome State Fault Refusal := s.run (Dev.whenUp (Dev.order h .clearTrip))

/-- TARIFF (R139). -/
def execTariff (h : OrderHead) (count : Byte) (groups : List (BitVec 16 × Byte)) (s : State) : Host.Outcome State Fault Refusal := s.run (Dev.whenUp (Dev.order h (.tariff count groups)))

/-- COLLECT (R159). -/
def execCollect (h : OrderHead) (start : BitVec 32) (count : Byte) (s : State) : Host.Outcome State Fault Refusal := s.run (Dev.whenUp (Dev.order h (.collect start count)))

/-- CONFIRM (R158). -/
def execConfirm (h : OrderHead) (upTo : BitVec 32) (s : State) : Host.Outcome State Fault Refusal := s.run (Dev.whenUp (Dev.order h (.confirm upTo)))

/-- FLUSH (R150). -/
def execFlush (h : OrderHead) (s : State) : Host.Outcome State Fault Refusal := s.run (Dev.whenUp (Dev.order h .flush))

/-- ACKNOWLEDGE_NOTICES (R167, R168). -/
def execAcknowledgeNotices (h : OrderHead) (count : Byte) (codes : List Byte) (s : State) : Host.Outcome State Fault Refusal := s.run (Dev.whenUp (Dev.order h (.acknowledge count codes)))

/-- RESTART (R176). -/
def execRestart (h : OrderHead) (pins : Pins) (s : State) : Host.Outcome State Fault Refusal := s.run (Dev.whenUp (Dev.order h (.restart pins)))

/-- UNKNOWN_ORDER (R55). -/
def execUnknownOrder (h : OrderHead) (kind : Byte) (s : State) : Host.Outcome State Fault Refusal := s.run (Dev.whenUp (Dev.order h (.unknown kind)))

end Sys2Proof.Machine
end

