-- ==== Sys2Proof/Machine/ContactorRows.lean ====
section
/-! DEFINITION. The meanings of the commands of the auxiliary inputs and the contactor timers (chapter 5). Each command changes the part and leaves the queue alone. -/

namespace Sys2Proof.Machine

/-- AUX_LEVEL_QUALIFIED (R73, R75 to R80). -/
def execAuxLevelQualified (x : Outlet) (closed : Bool) (s : State) : Host.Outcome State Fault Refusal := s.run (Dev.whenUp (Dev.auxLevel x closed))

/-- COIL_PULSE_TIMER_EXPIRY (R75, R78). -/
def execCoilPulseTimerExpiry (x : Outlet) (s : State) : Host.Outcome State Fault Refusal := s.run (Dev.whenUp (Dev.pulseEnd x))

/-- CONFIRM_TIMER_EXPIRY (R76, R78). -/
def execConfirmTimerExpiry (x : Outlet) (s : State) : Host.Outcome State Fault Refusal := s.run (Dev.whenUp (Dev.confirmEnd x))

/-- RETRY_GAP_EXPIRY (R76, R78). -/
def execRetryGapExpiry (x : Outlet) (s : State) : Host.Outcome State Fault Refusal := s.run (Dev.whenUp (Dev.gapEnd x))

end Sys2Proof.Machine
end

