-- ==== Sys2Proof/Machine/TimerRows.lean ====
section
/-! DEFINITION. The meanings of the timer commands of the synchroniser, the handover controller and the meter (chapters 6, 7 and 8). Each command changes the part and leaves the queue alone. -/

namespace Sys2Proof.Machine

/-- The second advance, due at the 500th cycle expiry of the second (R133). -/
def Dev.secondAdvance (d : Dev) : Dev := if 500 ≤ d.mtr.cycleCount then d.advanceSecond else d

/-- CROSSING_WATCH_EXPIRY (R96). -/
def execCrossingWatchExpiry (c : ChannelId) (s : State) : Host.Outcome State Fault Refusal := s.run (Dev.whenUp (Dev.watchExpiry c))

/-- CELL_CHANNEL_TIMEOUT (R100). -/
def execCellChannelTimeout (s : State) : Host.Outcome State Fault Refusal := s.run (Dev.whenUp Dev.cellTimeoutExpiry)

/-- SHIP_CHANNEL_TIMEOUT (R103). -/
def execShipChannelTimeout (s : State) : Host.Outcome State Fault Refusal := s.run (Dev.whenUp Dev.shipTimeoutExpiry)

/-- BACK_OFF_EXPIRY (R101). -/
def execBackOffExpiry (s : State) : Host.Outcome State Fault Refusal := s.run (Dev.whenUp Dev.backOffExpiry)

/-- JOIN_AGE_TICK (R116). -/
def execJoinAgeTick (s : State) : Host.Outcome State Fault Refusal := s.run (Dev.whenUp Dev.joinSecond)

/-- PROGRESS_TIMER_EXPIRY (R122). -/
def execProgressTimerExpiry (s : State) : Host.Outcome State Fault Refusal := s.run (Dev.whenUp Dev.progressExpiry)

/-- ABSOLUTE_RAMP_TIMER_EXPIRY (R122). -/
def execAbsoluteRampTimerExpiry (s : State) : Host.Outcome State Fault Refusal := s.run (Dev.whenUp Dev.absoluteExpiry)

/-- LOW_GENERATOR_TIMER_EXPIRY (R122). -/
def execLowGeneratorTimerExpiry (s : State) : Host.Outcome State Fault Refusal := s.run (Dev.whenUp Dev.lowGenExpiry)

/-- RELEASE_TIMER_EXPIRY (R124). -/
def execReleaseTimerExpiry (s : State) : Host.Outcome State Fault Refusal := s.run (Dev.whenUp Dev.releaseExpiry)

/-- RELEASE_WAIT_EXPIRY (R124). -/
def execReleaseWaitExpiry (s : State) : Host.Outcome State Fault Refusal := s.run (Dev.whenUp Dev.releaseWaitExpiry)

/-- LOW_LOAD_TIMER_EXPIRY (R111). -/
def execLowLoadTimerExpiry (s : State) : Host.Outcome State Fault Refusal := s.run (Dev.whenUp Dev.lowLoadExpiry)

/-- LEAVE_STALL_EXPIRY (R111). -/
def execLeaveStallExpiry (s : State) : Host.Outcome State Fault Refusal := s.run (Dev.whenUp Dev.leaveStallExpiry)

/-- SECOND_ADVANCE (R133). -/
def execSecondAdvance (s : State) : Host.Outcome State Fault Refusal := s.run (Dev.whenUp Dev.secondAdvance)

end Sys2Proof.Machine
end

