-- ==== Sys2Proof/Machine/StoreRows.lean ====
section
/-! DEFINITION. The meanings of the timer and completion commands of the record store (chapter 9). Each command changes the part and leaves the queue alone. -/

namespace Sys2Proof.Machine

/-- The packing timer expires: a drain demand (R151). -/
def Dev.packingExpiry (d : Dev) : Dev :=
  if d.rst.packTimer.isSome then (d.setRst { d.rst with packTimer := none }).drainDemand else d

/-- The absolute timer of the store expires: a drain demand (R151). -/
def Dev.storeAbsoluteExpiry (d : Dev) : Dev :=
  if d.rst.absTimer.isSome then (d.setRst { d.rst with absTimer := none }).drainDemand else d

/-- A page program completes: its effects, the held records staged, the available-count test, then the engine's choice (R152; log entry 52). -/
def Dev.programComplete (d : Dev) : Dev :=
  match d.rst.engine with
  | .idle => d
  | .erasing _ => d
  | .programming x p => ((d.setRst (d.rst.programmed x p)).stageHeld.availableTest false).engineChoice

/-- A sector erase completes: its effects, the available-count test, then the engine's choice (R154; log entry 52). -/
def Dev.eraseComplete (d : Dev) : Dev :=
  match d.rst.engine with
  | .idle => d
  | .programming _ _ => d
  | .erasing x => ((d.setRst (d.rst.erased x)).availableTest false).engineChoice

/-- PACKING_TIMER_EXPIRY (R151). -/
def execPackingTimerExpiry (s : State) : Host.Outcome State Fault Refusal := s.run (Dev.whenUp Dev.packingExpiry)

/-- STORE_ABSOLUTE_TIMER_EXPIRY (R151). -/
def execStoreAbsoluteTimerExpiry (s : State) : Host.Outcome State Fault Refusal := s.run (Dev.whenUp Dev.storeAbsoluteExpiry)

/-- PAGE_PROGRAM_COMPLETE (R152, R142, R157). -/
def execPageProgramComplete (s : State) : Host.Outcome State Fault Refusal := s.run (Dev.whenUp Dev.programComplete)

/-- SECTOR_ERASE_COMPLETE (R154, R157). -/
def execSectorEraseComplete (s : State) : Host.Outcome State Fault Refusal := s.run (Dev.whenUp Dev.eraseComplete)

end Sys2Proof.Machine
end

