-- ==== Sys2Proof/Machine/Dispatch.lean ====
section
/-! DEFINITION. The one match over the commands: each arm calls its meaning. -/

namespace Sys2Proof.Machine

def exec (i : Instr) (s : State) : Host.Outcome State Fault Refusal :=
  match i with
  | .powerUp pins => Sys2Proof.Machine.execPowerUp pins s
  | .resetPin pins => Sys2Proof.Machine.execResetPin pins s
  | .supplyWarning => Sys2Proof.Machine.execSupplyWarning s
  | .supplyWarningClear pins => Sys2Proof.Machine.execSupplyWarningClear pins s
  | .powerFail => Sys2Proof.Machine.execPowerFail s
  | .sampleSet raw => Sys2Proof.Machine.execSampleSet raw s
  | .watchTimerExpiry => Sys2Proof.Machine.execWatchTimerExpiry s
  | .fallbackClose t => Sys2Proof.Machine.execFallbackClose t s
  | .overloadTimerExpiry => Sys2Proof.Machine.execOverloadTimerExpiry s
  | .cycleTimerExpiry => Sys2Proof.Machine.execCycleTimerExpiry s
  | .sendMark => Sys2Proof.Machine.execSendMark s
  | .markReceived bytes start => Sys2Proof.Machine.execMarkReceived bytes start s
  | .markWindowClose => Sys2Proof.Machine.execMarkWindowClose s
  | .silenceCountExpiry => Sys2Proof.Machine.execSilenceCountExpiry s
  | .loneCountExpiry => Sys2Proof.Machine.execLoneCountExpiry s
  | .ownBulletinAssembly => Sys2Proof.Machine.execOwnBulletinAssembly s
  | .ownSlotEnd heard overdrive => Sys2Proof.Machine.execOwnSlotEnd heard overdrive s
  | .bulletinReceived bytes start => Sys2Proof.Machine.execBulletinReceived bytes start s
  | .slotEnd slot => Sys2Proof.Machine.execSlotEnd slot s
  | .assign h outlet => Sys2Proof.Machine.execAssign h outlet s
  | .unassign h => Sys2Proof.Machine.execUnassign h s
  | .sessionOpen h f => Sys2Proof.Machine.execSessionOpen h f s
  | .sessionClose h outlet id => Sys2Proof.Machine.execSessionClose h outlet id s
  | .startTransfer h outlet => Sys2Proof.Machine.execStartTransfer h outlet s
  | .startDeparture h outlet => Sys2Proof.Machine.execStartDeparture h outlet s
  | .clearTrip h => Sys2Proof.Machine.execClearTrip h s
  | .tariff h count groups => Sys2Proof.Machine.execTariff h count groups s
  | .collect h start count => Sys2Proof.Machine.execCollect h start count s
  | .confirm h upTo => Sys2Proof.Machine.execConfirm h upTo s
  | .flush h => Sys2Proof.Machine.execFlush h s
  | .acknowledgeNotices h count codes => Sys2Proof.Machine.execAcknowledgeNotices h count codes s
  | .restart h pins => Sys2Proof.Machine.execRestart h pins s
  | .unknownOrder h kind => Sys2Proof.Machine.execUnknownOrder h kind s
  | .auxLevelQualified x closed => Sys2Proof.Machine.execAuxLevelQualified x closed s
  | .coilPulseTimerExpiry x => Sys2Proof.Machine.execCoilPulseTimerExpiry x s
  | .confirmTimerExpiry x => Sys2Proof.Machine.execConfirmTimerExpiry x s
  | .retryGapExpiry x => Sys2Proof.Machine.execRetryGapExpiry x s
  | .crossingWatchExpiry c => Sys2Proof.Machine.execCrossingWatchExpiry c s
  | .cellChannelTimeout => Sys2Proof.Machine.execCellChannelTimeout s
  | .shipChannelTimeout => Sys2Proof.Machine.execShipChannelTimeout s
  | .backOffExpiry => Sys2Proof.Machine.execBackOffExpiry s
  | .joinAgeTick => Sys2Proof.Machine.execJoinAgeTick s
  | .progressTimerExpiry => Sys2Proof.Machine.execProgressTimerExpiry s
  | .absoluteRampTimerExpiry => Sys2Proof.Machine.execAbsoluteRampTimerExpiry s
  | .lowGeneratorTimerExpiry => Sys2Proof.Machine.execLowGeneratorTimerExpiry s
  | .releaseTimerExpiry => Sys2Proof.Machine.execReleaseTimerExpiry s
  | .releaseWaitExpiry => Sys2Proof.Machine.execReleaseWaitExpiry s
  | .lowLoadTimerExpiry => Sys2Proof.Machine.execLowLoadTimerExpiry s
  | .leaveStallExpiry => Sys2Proof.Machine.execLeaveStallExpiry s
  | .secondAdvance => Sys2Proof.Machine.execSecondAdvance s
  | .packingTimerExpiry => Sys2Proof.Machine.execPackingTimerExpiry s
  | .storeAbsoluteTimerExpiry => Sys2Proof.Machine.execStoreAbsoluteTimerExpiry s
  | .pageProgramComplete => Sys2Proof.Machine.execPageProgramComplete s
  | .sectorEraseComplete => Sys2Proof.Machine.execSectorEraseComplete s

end Sys2Proof.Machine
end

