-- ==== Sys2Proof/WellFormed.lean ====
section
/-! DEFINITION. What a command's operands must be for the command to be one the interface can carry (chapters 3 and 12). -/

namespace Sys2Proof

/-- An order comes from a terminal's own slot, 1..31 (Table 3-1), and names a target 0..31 (Table 12-4). -/
def OrderHead.wf (h : OrderHead) : Bool := decide (1 ≤ h.sender ∧ h.sender ≤ 31) && decide (h.target.toNat ≤ 31)

/-- The well-formedness of a command: byte counts of marks, bulletins and orders, slot numbers, order heads. -/
def Instr.wf : Instr → Bool
  | .markReceived bytes _ => bytes.length == 6
  | .ownSlotEnd heard _ => decide (heard.length ≤ 58)
  | .bulletinReceived bytes _ => decide (bytes.length ≤ 58)
  | .slotEnd slot => decide (1 ≤ slot.number ∧ slot.number ≤ 31)
  | .assign h _ => h.wf
  | .unassign h => h.wf
  | .sessionOpen h _ => h.wf
  | .sessionClose h _ _ => h.wf
  | .startTransfer h _ => h.wf
  | .startDeparture h _ => h.wf
  | .clearTrip h => h.wf
  | .tariff h _ groups => h.wf && groups.length == 6
  | .collect h _ _ => h.wf
  | .confirm h _ => h.wf
  | .flush h => h.wf
  | .acknowledgeNotices h _ codes => h.wf && codes.length == 28
  | .restart h _ => h.wf
  | .unknownOrder h kind => h.wf && decide (13 < kind.toNat)
  | .powerUp _ => true
  | .resetPin _ => true
  | .supplyWarning => true
  | .supplyWarningClear _ => true
  | .powerFail => true
  | .sampleSet _ => true
  | .watchTimerExpiry => true
  | .fallbackClose _ => true
  | .overloadTimerExpiry => true
  | .cycleTimerExpiry => true
  | .sendMark => true
  | .markWindowClose => true
  | .silenceCountExpiry => true
  | .loneCountExpiry => true
  | .ownBulletinAssembly => true
  | .auxLevelQualified _ _ => true
  | .coilPulseTimerExpiry _ => true
  | .confirmTimerExpiry _ => true
  | .retryGapExpiry _ => true
  | .crossingWatchExpiry _ => true
  | .cellChannelTimeout => true
  | .shipChannelTimeout => true
  | .backOffExpiry => true
  | .joinAgeTick => true
  | .progressTimerExpiry => true
  | .absoluteRampTimerExpiry => true
  | .lowGeneratorTimerExpiry => true
  | .releaseTimerExpiry => true
  | .releaseWaitExpiry => true
  | .lowLoadTimerExpiry => true
  | .leaveStallExpiry => true
  | .secondAdvance => true
  | .packingTimerExpiry => true
  | .storeAbsoluteTimerExpiry => true
  | .pageProgramComplete => true
  | .sectorEraseComplete => true

/-- The order head that a command carries: every order row has one (R55). -/
def Instr.head : Instr → Option OrderHead
  | .assign h _ => some h
  | .unassign h => some h
  | .sessionOpen h _ => some h
  | .sessionClose h _ _ => some h
  | .startTransfer h _ => some h
  | .startDeparture h _ => some h
  | .clearTrip h => some h
  | .tariff h _ _ => some h
  | .collect h _ _ => some h
  | .confirm h _ => some h
  | .flush h => some h
  | .acknowledgeNotices h _ _ => some h
  | .restart h _ => some h
  | .unknownOrder h _ => some h
  | .powerUp _ => none
  | .resetPin _ => none
  | .supplyWarning => none
  | .supplyWarningClear _ => none
  | .powerFail => none
  | .sampleSet _ => none
  | .watchTimerExpiry => none
  | .fallbackClose _ => none
  | .overloadTimerExpiry => none
  | .cycleTimerExpiry => none
  | .sendMark => none
  | .markReceived _ _ => none
  | .markWindowClose => none
  | .silenceCountExpiry => none
  | .loneCountExpiry => none
  | .ownBulletinAssembly => none
  | .ownSlotEnd _ _ => none
  | .bulletinReceived _ _ => none
  | .slotEnd _ => none
  | .auxLevelQualified _ _ => none
  | .coilPulseTimerExpiry _ => none
  | .confirmTimerExpiry _ => none
  | .retryGapExpiry _ => none
  | .crossingWatchExpiry _ => none
  | .cellChannelTimeout => none
  | .shipChannelTimeout => none
  | .backOffExpiry => none
  | .joinAgeTick => none
  | .progressTimerExpiry => none
  | .absoluteRampTimerExpiry => none
  | .lowGeneratorTimerExpiry => none
  | .releaseTimerExpiry => none
  | .releaseWaitExpiry => none
  | .lowLoadTimerExpiry => none
  | .leaveStallExpiry => none
  | .secondAdvance => none
  | .packingTimerExpiry => none
  | .storeAbsoluteTimerExpiry => none
  | .pageProgramComplete => none
  | .sectorEraseComplete => none

end Sys2Proof
end

