-- ==== Sys2Proof/Safety.lean ====
section
/-! DEFINITION. What a safe state of the part is: the laws that the rules state of every moment, in the terms the statements use. -/

namespace Sys2Proof.Machine

/-- R74: a cell never has both outlet contactors out of OPEN at once. -/
def Ctc.interlocked (c : Ctc) : Prop := c.a.state = .opened ∨ c.b.state = .opened

/-- R73: the two coils of one contactor are never energised at once. -/
def Contactor.oneCoil (c : Contactor) : Prop := ¬(c.closeCoil = true ∧ c.openCoil = true)

/-- R30, R34: the offsets lie within their bounds at all times. -/
def Syu.bounded (s : Syu) : Prop :=
  (-3000 ≤ s.fRamp ∧ s.fRamp ≤ 3000) ∧ (-3000 ≤ s.fJoin ∧ s.fJoin ≤ 3000) ∧ (-100 ≤ s.vSteer ∧ s.vSteer ≤ 100)

/-- R24, R28: the commands lie within their bounds whenever the run flag is set. -/
def Syu.commandsBounded (s : Syu) : Prop :=
  s.run = true → ((s.fNom : Int) - 2500 ≤ s.fCmd ∧ s.fCmd ≤ s.fNom + 2500) ∧ (900 ≤ s.vCmd ∧ s.vCmd ≤ 1100)

/-- R156: while FULL the engine is IDLE, over a page at the write position that is not erased. -/
def Rst.fullRests (r : Rst) : Prop := r.full = true → r.engine = .idle ∧ r.posErased = false

/-- R147 to R149, R158: the store's bytes in canonical form, at most 16 entries staged, the confirmed mark not above the newest assigned. -/
def Rst.sound (r : Rst) : Prop := memWf r.mem ∧ r.queue.length ≤ 16 ∧ r.mark ≤ r.newest

/-- R131, R142: less than a watt-hour in the residue, and at most two records in the pending holder. -/
def Mtr.sound (m : Mtr) : Prop := m.residue.natAbs < 345600000 ∧ m.holder.length ≤ 2

/-- R165, R166, R171: each kind stands in the notice queue at most once, counts stop at 255, the METER spacing count at 8. -/
def Ntu.sound (n : Ntu) : Prop := n.queue.Nodup ∧ (∀ k, (n.entry k).count ≤ 255) ∧ n.spacing ≤ 8

/-- R169: at most four places in the reply queue, and between commands every one of them is filled. -/
abbrev Ntu.answered (n : Ntu) : Prop := n.replies.length ≤ 4 ∧ ∀ p ∈ n.replies, p.result ≠ none

/-- R106, R110, R111: a cell in a member state is a member of the outlet it is assigned to, and a leave returns to no other state. -/
def Dev.memberSound (d : Dev) : Prop :=
  (d.hoc.state.isMember = true → d.ownMember = true) ∧ ∀ l, d.hoc.leave = some l → l.back.isMember = true

/-- The same laws of the machine. -/
def State.interlocked (s : State) : Prop := s.dev.ctc.interlocked
def State.oneCoil (s : State) : Prop := s.dev.ctc.a.oneCoil ∧ s.dev.ctc.b.oneCoil
def State.bounded (s : State) : Prop := s.dev.syu.bounded
def State.commandsBounded (s : State) : Prop := s.dev.syu.commandsBounded
def State.fullRests (s : State) : Prop := s.dev.rst.fullRests
def State.storeSound (s : State) : Prop := s.dev.rst.sound
def State.meterSound (s : State) : Prop := s.dev.mtr.sound
def State.noticesSound (s : State) : Prop := s.dev.ntu.sound
def State.repliesAnswered (s : State) : Prop := s.dev.ntu.answered
def State.memberSound (s : State) : Prop := s.dev.memberSound

/-! ### Words of the statements -/

/-- The order kind of an order row (Table 12-4). -/
def orderKindOf : Instr → Option OrderKind
  | .assign _ _ => some .assign
  | .unassign _ => some .unassign
  | .sessionOpen _ _ => some .sessionOpen
  | .sessionClose _ _ _ => some .sessionClose
  | .startTransfer _ _ => some .startTransfer
  | .startDeparture _ _ => some .startDeparture
  | .clearTrip _ => some .clearTrip
  | .tariff _ _ _ => some .tariff
  | .collect _ _ _ => some .collect
  | .confirm _ _ => some .confirm
  | .flush _ => some .flush
  | .acknowledgeNotices _ _ _ => some .acknowledgeNotices
  | .restart _ _ => some .restart
  | .unknownOrder _ k => some (.unknown k)
  | _ => none

/-- R172, R177: the part takes the events of its line, ports and timers. -/
abbrev Dev.awake (d : Dev) : Prop := d.run = .running ∨ d.run = .shutdown

/-- R165: one raise of a kind, and nothing else of the notice unit. -/
def Ntu.raisedTo (n : Ntu) (enabled : Bool) (k : NoticeKind) (m : Ntu) : Prop :=
  m.entry k = ⟨true, min 255 ((n.entry k).count + 1)⟩ ∧ (∀ j, j ≠ k → m.entry j = n.entry j) ∧
    m.queue = (if enabled = true ∧ k ∉ n.queue then n.queue ++ [k] else n.queue) ∧ m.replies = n.replies ∧
    m.spacing = n.spacing

/-- R165: a kind raised once: pending, its count one higher. -/
def Ntu.raisedOnce (n : Ntu) (k : NoticeKind) (m : Ntu) : Prop := m.entry k = ⟨true, min 255 ((n.entry k).count + 1)⟩

/-- A command that raised one notice and did nothing else. -/
def Dev.onlyRaised (d : Dev) (k : NoticeKind) (t : Dev) : Prop :=
  t = { d with ntu := t.ntu } ∧ d.ntu.raisedTo (d.cfg.enabled k.cls) k t.ntu

/-- R2: a sample set that is admitted. -/
abbrev Dev.admits (d : Dev) (raw : RawSet) : Prop := d.awake ∧ setCheck raw = raw.check ∧ d.msu.lastSeq ≠ some raw.seq

/-- R2, R4: the set positions that an admitted set advances, none for the first. -/
def Dev.positions (d : Dev) (raw : RawSet) : Nat :=
  match d.msu.lastSeq with
  | none => 0
  | some l => (raw.seq.toNat + 256 - l.toNat) % 256

/-- R15: a set with a current at or above i_trip. -/
abbrev Channels.overLevel (c : Channels) (iTrip : Nat) : Prop := iTrip ≤ c.ia.natAbs ∨ iTrip ≤ c.ib.natAbs ∨ iTrip ≤ c.ic.natAbs

/-- R11, R12: RMS is the floor of the root of the mean square, and its ratio is in per-mille of the reference voltage. -/
def Tracker.rmsOf (t : Tracker) (sumSq count vRef : Nat) : Prop :=
  ∃ r, t.rms = some r ∧ r * r ≤ sumSq / count ∧ sumSq / count < (r + 1) * (r + 1) ∧ t.ratio = some (r * 1000 / vRef)

/-- R7: a set brings a rising crossing to a tracker; v is its signal, w that of the set admitted before. -/
def Tracker.rises (k : Tracker) (v : Int) (w : Option Int) : Prop := k.armed = true ∧ 0 ≤ v ∧ ∃ u, w = some u ∧ u < 0

/-- R7: the instant a crossing is captured at, for a set of set count n that lies `step` positions after the one before. -/
def capturedAt (step n : Nat) (v : Int) (w : Option Int) : Nat :=
  match w with
  | none => 256 * n
  | some u => if step ≤ 1 then ((256 * (n : Int) - tdiv (256 * v) (v - u)) % 4294967296).toNat else 256 * n

/-- R7 to R9, R11: what an admitted set that lies `step` positions after the one before leaves in a tracker. -/
def Tracker.tookSet (k : Tracker) (vRef step n : Nat) (v : Int) (w : Option Int) (t : Tracker) : Prop :=
  let time := capturedAt step n v w
  let arming : Int := (vRef * 14142 / 10000 * 5 / 100 : Nat)
  (¬k.rises v w →
    t = { k with
      fallback := k.fallback + max 1 step
      count := k.count + 1
      sumSq := k.sumSq + v.natAbs * v.natAbs
      armed := k.armed || decide (v < -arming) }) ∧
  (k.rises v w → k.capture = none →
    t = { k with capture := some time, armed := false, fallback := 0, count := 1, sumSq := v.natAbs * v.natAbs }) ∧
  ∀ old, k.rises v w → k.capture = some old →
    let p := (time + 4294967296 - old) % 4294967296
    t.capture = some time ∧ t.armed = false ∧ t.fallback = 0 ∧ t.count = 1 ∧ t.sumSq = v.natAbs * v.natAbs ∧ t.period = some p ∧
      t.freqValid = decide (35109 ≤ p ∧ p ≤ 61440) ∧
      t.freq = (if 35109 ≤ p ∧ p ≤ 61440 then some ((2457600000 + p / 2) / p) else k.freq) ∧
      (k.count = 0 → t.rms = k.rms ∧ t.ratio = k.ratio) ∧ (k.count ≠ 0 → t.rmsOf k.sumSq k.count vRef)

/-- R10: a phase difference formed anew from its two trackers. -/
def PhaseDiff.formedFrom (o : PhaseDiff) (x y : Tracker) (t : PhaseDiff) : Prop :=
  (∀ tx ty py, x.capture = some tx → y.capture = some ty → y.period = some py → x.freqValid = true → y.freqValid = true →
    let r := (BitVec.ofInt 32 ((ty : Int) - tx)).toInt % (py : Int) * 3600 / py
    t = ⟨true, if 1800 ≤ r then r - 3600 else r⟩) ∧
  (x.capture = none ∨ y.capture = none ∨ y.period = none ∨ x.freqValid = false ∨ y.freqValid = false → t = ⟨false, o.value⟩)

/-- R91 to R94 and Table 6-3: the evaluation of a channel from the frequencies where they are valid, the phase difference, the ratios and
the closing time, against its limits on slip, predicted phase and voltage difference. -/
def Eval.formed (e : Eval) (fx fy : Option Nat) (ph : PhaseDiff) (rx ry : Option Nat) (closing : Nat) (lo hi phase dv : Int) : Prop :=
  (∀ a b : Nat, fx = some a → fy = some b →
    e.slip = some ((a : Int) - b) ∧ (ph.valid = false → e.predicted = none) ∧
      (ph.valid = true → ∃ p, e.predicted = some p ∧ -1800 ≤ p ∧ p ≤ 1799 ∧
        (p - (ph.value + tdiv (((a : Int) - b) * closing * 36) 10000)) % 3600 = 0)) ∧
  (fx = none ∨ fy = none → e.slip = none ∧ e.predicted = none) ∧
  (∀ a b : Nat, rx = some a → ry = some b → e.dv = some (((a : Int) - b).natAbs : Int)) ∧ (rx = none ∨ ry = none → e.dv = none) ∧
  (e.good = true ↔ ∃ s p v, e.slip = some s ∧ e.predicted = some p ∧ e.dv = some v ∧ lo ≤ s ∧ s ≤ hi ∧ -phase ≤ p ∧ p ≤ phase ∧
    (p = 0 ∨ s = 0 ∨ (p < 0 ∧ 0 < s) ∨ (0 < p ∧ s < 0)) ∧ v ≤ dv)

/-- R91, R95: a channel after an evaluation: the count, the state, and the result kept. -/
def Channel.evaluatedTo (c : Channel) (e : Eval) (t : Channel) : Prop :=
  t.latest = some e ∧ t.good = (if e.good = true then min 5 (c.good + 1) else 0) ∧
    t.state = (if e.good = true then (if 4 ≤ c.good then .met else c.state) else .seeking) ∧
    t.attempts = c.attempts ∧ t.timeout = c.timeout

/-- A relative write limited to a step, of which nothing is left where it is 0, or where it raises while raising writes are suppressed (R31, R97, R99). -/
def Syu.steered (s : Syu) (step x : Int) : Int :=
  let delta := max (-step) (min step x)
  if 0 < delta ∧ (s.puAtLimit = true ∨ s.clamp = .upper) then 0 else delta

/-- R117, R118: at this cycle beginning the lead claim moves and the cell follows no announced state. -/
def Dev.steady (d : Dev) (x : Outlet) : Prop :=
  (d.hoc.lead = true ∧ ∀ c ∈ d.ptb.leadClaimants x, d.cfg.station ≤ c.1) ∨
    (d.hoc.lead = false ∧ d.ranksFirst x = false ∧ ∀ l, d.ptb.leadState x = some l → followMove d.hoc.state l = none)

/-- R104, R123, R124, R170: the assigned outlet has an annex to announce. -/
def Dev.announces (d : Dev) : Prop :=
  d.hoc.assignment ≠ none ∧ d.hoc.lead = true ∧
    ((d.hoc.state = .matching ∧ d.syn.ship.state = .met) ∨ d.hoc.state = .releaseWait ∨
      ((d.hoc.state = .island ∨ d.hoc.state = .departWait) ∧ d.hoc.shedDue ≠ none))

/-- Table 12-4, ORDER FIELDS: the order that a TERMINAL bulletin of a station carries, as its row; kind 0 is no order. -/
def orderRow (k : Nat) (b : List Byte) (pins : Pins) : Option Instr :=
  let h : OrderHead := ⟨k, byteAt b 12, byteAt b 13⟩
  let w2 (i : Nat) : BitVec 16 := BitVec.ofNat 16 (beNat (field (field b 14 42) i 2))
  let w4 (i : Nat) : BitVec 32 := BitVec.ofNat 32 (beNat (field (field b 14 42) i 4))
  let w1 (i : Nat) : Byte := byteAt (field b 14 42) i
  match (byteAt b 11).toNat with
  | 0 => none
  | 1 => some (.assign h (w1 0))
  | 2 => some (.unassign h)
  | 3 => some (.sessionOpen h ⟨w1 0, w4 1, w4 5, w2 9, w2 11, w1 13, w2 14⟩)
  | 4 => some (.sessionClose h (w1 0) (w4 1))
  | 5 => some (.startTransfer h (w1 0))
  | 6 => some (.startDeparture h (w1 0))
  | 7 => some (.clearTrip h)
  | 8 => some (.tariff h (w1 0) [(w2 1, w1 3), (w2 4, w1 6), (w2 7, w1 9), (w2 10, w1 12), (w2 13, w1 15), (w2 16, w1 18)])
  | 9 => some (.collect h (w4 0) (w1 4))
  | 10 => some (.confirm h (w4 0))
  | 11 => some (.flush h)
  | 12 => some (.acknowledgeNotices h (w1 0) (field (field b 14 42) 1 28))
  | 13 => some (.restart h pins)
  | _ => some (.unknownOrder h (byteAt b 11))

/-- R55: the order path takes and routes an order: RUNNING, addressed to the cell, no repeat, a reply place free; and
every place that is taken stands filled, as between commands. -/
abbrev Dev.takes (d : Dev) (h : OrderHead) : Prop :=
  d.run = .running ∧ (h.target.toNat = 0 ∨ h.target.toNat = d.cfg.station) ∧ d.lnk.remembered h.sender ≠ some h.tag ∧
    d.ntu.replies.length < 4 ∧ d.ntu.answered

/-- R55, R169: the part with an order's tag remembered and its reply behind the others in the queue. -/
def Dev.answered (d : Dev) (k : OrderKind) (h : OrderHead) (r : Result) : Dev :=
  { d with
    lnk := d.lnk.remember h.sender (some h.tag)
    ntu := { d.ntu with replies := d.ntu.replies ++ [⟨k, h.tag, h.sender, some r⟩] } }

/-- R126: every timer of the handover controller is stopped. -/
def Hoc.timersStopped (h : Hoc) : Prop :=
  h.progress = none ∧ h.rampAbsolute = none ∧ h.lowGen = none ∧ h.release = none ∧ h.releaseWait = none ∧
    h.lowLoad = none ∧ h.leaveStall = none

/-- R126, R177: claims dropped, leave discarded, timers stopped; assignment and session table kept. -/
def Hoc.droppedFrom (h t : Hoc) : Prop :=
  t.forming = false ∧ t.lead = false ∧ t.leave = none ∧ t.timersStopped ∧ t.assignment = h.assignment ∧
    t.sessionA = h.sessionA ∧ t.sessionB = h.sessionB

/-- R20: the run flag clears with the commands, the limit flag and the clamp record; the phase is held. -/
def Syu.haltedFrom (s t : Syu) : Prop :=
  t.run = false ∧ t.vCmd = 0 ∧ t.fCmd = 0 ∧ t.limit = false ∧ t.clamp = .noAction ∧ t.phase = s.phase

/-- R77: a record that an open request reaches in CLOSING or CLOSED is OPENING with its open coil alone energised. -/
def Contactor.openRequestedFrom (c : Contactor) (width : Nat) (t : Contactor) : Prop :=
  if c.state = .closing ∨ c.state = .closed then
    t = ⟨.opening, c.auxClosed, .pulse, some width, none, false, false, true⟩
  else t = c

/-- R75 to R79: a record at rest: no phase, no timer, no retry, no coil. -/
def restingAt (st : CState) (aux : Bool) : Contactor := ⟨st, aux, .idle, none, none, false, false, false⟩

/-- R80: a held closure is taken at the moment the other record becomes OPEN; any other record stays as it is. -/
def Contactor.heldTakenFrom (c : Contactor) (width : Nat) (t : Contactor) : Prop :=
  if c.state = .opened ∧ c.auxClosed = true then t = ⟨.opening, true, .pulse, some width, none, false, false, true⟩ else t = c

/-- R106, R112: the states in which a cell that holds an assignment is no member, joins nothing else and has not tripped. -/
abbrev HState.waits (st : HState) : Prop := st = .assigned ∨ st = .forming ∨ st = .joining

/-- R82, R126: what a trip leaves: TRIPPED, the run flag clear, an open request to each record, and what a trip never touches. -/
def Dev.trippedFrom (d t : Dev) : Prop :=
  t.hoc.state = .tripped ∧ d.hoc.droppedFrom t.hoc ∧ d.syu.haltedFrom t.syu ∧ t.syu.mode = .stopped ∧
    d.ctc.a.openRequestedFrom d.cfg.openPulse t.ctc.a ∧ d.ctc.b.openRequestedFrom d.cfg.openPulse t.ctc.b ∧
    t.run = d.run ∧ t.cfg = d.cfg ∧ t.lnk = d.lnk ∧ t.ptb = d.ptb ∧ t.msu = d.msu ∧ t.rst.mem = d.rst.mem

/-- R102, R114 to R116: the handover controller, the synthesis unit and the cell channel where the close of the assigned contactor ends
CLOSED: join age 0; FORMING ends in ON_BUS with the lead claim; JOINING ends where R115 places the cell, at the mean ramp offset of its
outlet (R33), with the attempt count and the joining offsets 0. -/
def Dev.joinedFrom (d : Dev) (x : Outlet) (t : Dev) : Prop :=
  t.hoc.joinAge = 0 ∧ t.hoc.joinTicks = 0 ∧ t.hoc.assignment = some x ∧
    (d.hoc.state = .forming → t.hoc.state = .onBus ∧ t.hoc.lead = true ∧ t.hoc.forming = false ∧ t.hoc.formingCount = 0) ∧
    (d.hoc.state = .joining →
      t.hoc.state.isMember = true ∧ t.syn.cell.attempts = 0 ∧ t.syu.fJoin = 0 ∧ t.syu.vSteer = 0 ∧
      t.syu.fRamp =
        (let others := (d.ptb.sharers x).map (fun c => c.2.2.fRamp)
         max (-3000) (min 3000 (if others = [] then 0 else tdiv others.sum others.length))) ∧
      (∀ l, d.ptb.leadState x = some l → l ≠ .releaseWait → l.isMember = true → l ≠ .departWait → t.hoc.state = l) ∧
      (d.ptb.leadState x = none ∨ d.ptb.leadState x = some .releaseWait →
        (d.ptb.shipView x = none → t.hoc.state = .onBus) ∧
        ∀ v, d.ptb.shipView x = some v →
          t.hoc.state = (if v.breaker = false then .onBus else if v.generators = 0 then .island else .parallelHold)))

/-- R100, R102, R115: a cell in JOINING whose assigned contactor has returned to OPEN while its cell channel runs. The channel seeks afresh
and its watch restarts; where an expiry is held, the attempt has timed out and the cell is back in ASSIGNED. -/
def Dev.seeksAfresh (d t : Dev) : Prop :=
  d.hoc.state = .joining → (d.syn.cell.state = .seeking ∨ d.syn.cell.state = .met) →
    t.hoc.assignment = d.hoc.assignment ∧
    (d.syn.cell.held = false →
      t.hoc.state = .joining ∧ t.syn.cell = { d.syn.cell with state := .seeking, good := 0, watch := some 0 }) ∧
    (d.syn.cell.held = true →
      t.hoc.state = .assigned ∧
      t.syn.cell = { d.syn.cell with
        state := if d.syn.cell.attempts = 3 then .spent else .backoff
        good := 0, timeout := none, held := false, watch := none
        backoff := if d.syn.cell.attempts = 3 then d.syn.cell.backoff else some 10000 })

/-- R100, R102: the return to OPEN raises SYNC_TIMEOUT for a held expiry of the running cell channel, and no other notice. -/
def Dev.heldTimeoutRaised (d : Dev) (x : Outlet) (t : Dev) : Prop :=
  let taken := d.hoc.assignment = some x ∧ d.hoc.state = .joining ∧ (d.syn.cell.state = .seeking ∨ d.syn.cell.state = .met) ∧
    d.syn.cell.held = true
  (taken → d.ntu.raisedTo d.cfg.enNonFatal .syncTimeout t.ntu) ∧ (¬taken → t.ntu = d.ntu)

/-- R119, R120, R125 and Table 7-5: the handover controller after a member takes a ship view v against the facts it acted on before. -/
def Dev.shipTakenFrom (d : Dev) (x : Outlet) (old v : ShipFacts) (t : Dev) : Prop :=
  let st := d.hoc.state
  let opens := old.breaker = true ∧ v.breaker = false
  let closes := old.breaker = false ∧ v.breaker = true
  let stops := old.generators ≠ 0 ∧ v.generators = 0
  let starts := old.generators = 0 ∧ v.generators ≠ 0
  let released := st = .releaseWait ∨ (st = .parallelDown ∧ d.hoc.lead = false ∧ t.ptb.leadState x = some .releaseWait)
  let unexpected := opens ∧ st ≠ .onBus ∧ st ≠ .matching ∧ ¬released
  let unpermitted := closes ∧ st = .onBus ∧ v.generators ≠ 0
  (t.ntu.entry .shipOpenUnexpected =
      (if unexpected then ⟨true, min 255 ((d.ntu.entry .shipOpenUnexpected).count + 1)⟩ else d.ntu.entry .shipOpenUnexpected)) ∧
    (t.ntu.entry .shipCloseUnpermitted =
      (if unpermitted then ⟨true, min 255 ((d.ntu.entry .shipCloseUnpermitted).count + 1)⟩
        else d.ntu.entry .shipCloseUnpermitted)) ∧
    (opens → st ≠ .onBus → st ≠ .matching → t.hoc.state = .onBus ∧ t.syu.fRamp = 0) ∧
    (closes → st = .onBus ∨ st = .matching →
      t.hoc.state = (if v.generators = 0 then .island else if st = .onBus then .parallelHold else .parallelUp)) ∧
    (¬opens → stops → st = .parallelUp ∨ st = .parallelHold ∨ st = .parallelDown ∨ st = .releaseWait → t.hoc.state = .island) ∧
    (¬opens → starts → st = .departWait → t.hoc.state = .parallelDown) ∧
    (¬opens → ¬closes → ¬stops → ¬starts → t.hoc = { d.hoc with acted := some v } ∧ t.syu = d.syu ∧ t.syn = d.syn)

/-- An address inside the page or the sector that the engine's operation in flight changes (R152, R154). -/
def Rst.changing (r : Rst) (a : Nat) : Prop :=
  match r.engine with
  | .idle => False
  | .programming x p => x.val * 1024 + p.val * 128 ≤ a ∧ a < x.val * 1024 + p.val * 128 + 128
  | .erasing x => x.val * 1024 ≤ a ∧ a < x.val * 1024 + 1024

/-- What START leaves over a store's bytes, with the levels it found on the pins (R172, R173 and each chapter's START rule). -/
def Dev.startedWith (t : Dev) (pins : Pins) (mem : List Host.Cell) : Prop :=
  t.run = (if pins.warning then .shutdown else .running) ∧ t.pins = pins ∧ t.cfg.station = pins.strap.toNat ∧
    t.lnk.state = (if pins.strap = 0 then .muted else .listen) ∧ t.lnk.cycle = 0 ∧
    t.lnk.orderMem = Vector.replicate 31 none ∧ t.ptb = Ptb.start ∧ t.msu = Msu.start t.cfg.vRated ∧
    t.syu = { Syu.start with heldClear := pins.warning } ∧ t.syn = ⟨Channel.start, Channel.start⟩ ∧ t.hoc = Hoc.start ∧
    t.ctc.a = (if pins.auxA then (Contactor.start true).startOpen t.cfg.openPulse else Contactor.start false) ∧
    t.ctc.b =
      (if pins.auxB && !pins.auxA then (Contactor.start true).startOpen t.cfg.openPulse else Contactor.start pins.auxB) ∧
    t.mtr.residue = 0 ∧ t.mtr.timeValid = false ∧ t.mtr.membership = none ∧ t.ntu.replies = [] ∧ t.rst.mem = mem

/-! ### Words of the records (Tables 12-6 and 12-7) -/

/-- A stored image: the sequence, kind and flags, the session, the bytes of its kind from byte 9 on, zeros, and the CRC-32 over them. -/
def imageShows (img : List Byte) (seq kind flags session : Nat) (rest : List Byte) : Prop :=
  img.length = 32 ∧ field img 0 4 = natBe 4 seq ∧ byteAt img 4 = BitVec.ofNat 8 (kind * 32 + flags) ∧ field img 5 4 = natBe 4 session ∧
    field img 9 19 = rest ++ List.replicate (19 - rest.length) 0 ∧ field img 28 4 = natBe 4 (crc32 (img.take 28)).toNat

/-- Table 12-7: the image of a record of each kind under a sequence number. A count that does not fit its field is a free value (log
entry 16), and a last index of none is coded as a first one (log entry 54). -/
def Rec.shownBy (r : Rec) (seq : Nat) (img : List Byte) : Prop :=
  let flag (c : Bool) (v : Nat) : Nat := if c then v else 0
  let outlet (x : Option Outlet) : Byte := match x with
    | none => 0
    | some .a => 1
    | some .b => 2
  let index (i : Option Nat) : Nat := i.getD 8388607
  let time (t : Option (Nat × Nat)) : List Byte := natBe 2 ((t.map Prod.fst).getD 0) ++ natBe 3 ((t.map Prod.snd).getD 0)
  let cause (c : LeaveCause) : Byte := match c with
    | .leave => 1
    | .trip => 2
    | .auxDrop => 3
    | .sessionClose => 4
    | .power => 5
  let tripCause (c : Option TripCause) : Byte := match c with
    | none => 0
    | some .overcurrent => 1
    | some .overload => 2
    | some .sampleLoss => 3
    | some .muted => 4
    | some .openFail => 5
    | some .auxUnexpected => 6
  match r with
  | .sessionJoin m t =>
    imageShows img seq 1 (flag t.isNone 8) m.id
      (outlet (some m.outlet) :: (if m.fNom = 60000 then 1 else 0) :: (natBe 2 (m.demand.getD 0) ++ time t))
  | .interval v =>
    imageShows img seq 2 (flag v.isPartial 16 + flag v.merged 8 + flag v.mixedRate 4 + flag v.stepped 2 + flag v.backward 1)
      (v.session.getD 0)
      (natBe 6 (index v.first * 33554432 + index v.last * 4 + v.cls) ++ fitBe 4 v.importWh ++ fitBe 4 v.exportWh ++
        intBe 2 v.ownPeak ++ intBe 2 v.outletPeak ++ natBe 1 (min 255 (v.seconds / 4)))
  | .sessionLeave id x importWh exportWh count c t =>
    imageShows img seq 3 (flag t.isNone 8) id
      (outlet (some x) :: (fitBe 4 importWh ++ fitBe 4 exportWh ++ natBe 2 (min 65535 count) ++ [cause c] ++ time t))
  | .interruption id restart => imageShows img seq 4 8 id [if restart then 2 else 1]
  | .event e =>
    imageShows img seq 5 (flag e.session.isNone 16 + flag e.time.isNone 8) (e.session.getD 0)
      ([if e.trip = none then 2 else 1, tripCause e.trip, outlet e.on, BitVec.ofNat 8 (e.conA.code * 16 + e.conB.code),
        BitVec.ofNat 8 e.hstate.code] ++ intBe 2 e.p ++ time e.time)

/-- The sequence numbers and images in the staging queue, oldest first. -/
def Rst.staged (r : Rst) : List (Nat × List Byte) := r.queue.map (fun e => (e.seq, e.image))

/-- R149: records taken at the tail of the staging queue, each under the next sequence number. -/
def Rst.tookRecords (r : Rst) (l : List Rec) (t : Rst) : Prop :=
  t.newest = r.newest + l.length ∧
    t.staged = r.staged ++ l.mapIdx (fun i x => (r.newest + 1 + i, recordImage (r.newest + 1 + i) x))

/-- The local day and second that a record carries, none while time is invalid. -/
def Mtr.stamp (m : Mtr) : Option (Nat × Nat) := if m.timeValid = true then some (m.day, m.second) else none

/-- R132: the records that the end of a membership requests: a PARTIAL interval where it metered a set, then SESSION_LEAVE. -/
def Mtr.leaveRecords (m : Mtr) (k : Membership) (cause : LeaveCause) : List Rec :=
  (if m.interval.metered = true then [.interval { m.interval with isPartial := true }] else []) ++
    [.sessionLeave k.id k.outlet m.totImport m.totExport (m.totCount + if m.interval.metered = true then 1 else 0) cause m.stamp]

/-- R84, R141, R143: an EVENT request: taken with 4 free entries and an empty pending holder outside SHUTDOWN, and otherwise dropped and
counted. -/
def Dev.eventTaken (d : Dev) (e : EventRec) (t : Dev) : Prop :=
  (d.mtr.holder = [] → 4 ≤ d.rst.free → d.run ≠ .shutdown →
    d.rst.tookRecords [.event e] t.rst ∧ t.mtr.dropped = d.mtr.dropped) ∧
  (d.mtr.holder ≠ [] ∨ d.rst.free < 4 ∨ d.run = .shutdown → t.rst = d.rst ∧ t.mtr.dropped = min 255 (d.mtr.dropped + 1))

/-! ### Words of START (R147, R162, R163, R174, R175 and Table 12-8) -/

/-- R174: the chain from an offset holds these blocks, each an ID with its payload, each inside the protected area under a good check word,
and ends at a next offset of 0. -/
def chainAt (m : List Host.Cell) (limit : Nat) : Nat → List (Nat × List Byte) → Prop
  | _, [] => False
  | off, (id, b) :: rest =>
    off + 8 + b.length ≤ limit ∧ (memRead m off).toNat = id ∧ (memRead m (off + 1)).toNat = b.length ∧
      memReadBytes m (off + 4) b.length = b ∧
      memReadBytes m (off + 4 + b.length) 4 = natBe 4 (crc32 (memReadBytes m off (4 + b.length))).toNat ∧
      (rest = [] ↔ beNat (memReadBytes m (off + 2) 2) = 0) ∧
      (rest ≠ [] → beNat (memReadBytes m (off + 2) 2) < limit ∧ chainAt m limit (beNat (memReadBytes m (off + 2) 2)) rest)

/-- R174: a walk of these blocks ends without error: sixteen at most, known ones once and of their own lengths, CELL, CONTROL, PROTECT,
CONTACTOR and CAL among them. -/
def cleanChain (m : List Host.Cell) (limit : Nat) (blocks : List (Nat × List Byte)) : Prop :=
  chainAt m limit 4 blocks ∧ blocks.length ≤ 16 ∧
    ((blocks.map Prod.fst).filter (fun i => decide (1 ≤ i ∧ i ≤ 7))).Nodup ∧ (∀ i, 1 ≤ i → i ≤ 5 → i ∈ blocks.map Prod.fst) ∧
    ∀ x ∈ blocks, ∀ n, (x.1, n) ∈ [(1, 4), (2, 5), (3, 4), (4, 8), (5, 22), (6, 5), (7, 4)] → x.2.length = n

/-- A value brought to its range, and one of which 0 selects the default (R175). -/
def bringTo (lo hi v : Nat) : Nat := max lo (min hi v)
def bringOr (dflt lo hi v : Nat) : Nat := if v = 0 then dflt else bringTo lo hi v

/-- R175, Table 12-8: what the blocks of a chain deliver, field by field; an absent LINK or STORE block gives its chapter's defaults. -/
def Cfg.deliveredBy (c : Cfg) (blocks : List (Nat × List Byte)) : Prop :=
  let w (b : List Byte) (i : Nat) : Nat := beNat (field b i 2)
  let g (b : List Byte) (i : Nat) : Int := (bringTo 12288 20480 (w b (2 * i)) : Nat)
  (∀ b, (1, b) ∈ blocks → c.rating = bringTo 500 4000 (w b 0) ∧ c.vRated = bringTo 400 15000 (w b 2)) ∧
    (∀ b, (2, b) ∈ blocks → c.dF = bringTo 0 3000 (w b 0) ∧ c.kShare = (byteAt b 2).toNat ∧
      c.dQ = bringTo 0 100 (byteAt b 3).toNat ∧ c.rampStep = bringTo 1 50 (byteAt b 4).toNat) ∧
    (∀ b, (3, b) ∈ blocks → c.iTrip = bringTo 100 32767 (w b 0) ∧ c.limitPu = bringOr 11000 10000 12500 (w b 2)) ∧
    (∀ b, (4, b) ∈ blocks → c.closePulse = bringOr 200 50 500 (w b 0) ∧ c.openPulse = bringOr 100 30 300 (w b 2) ∧
      c.confirmTime = bringOr 150 50 500 (w b 4) ∧ c.cellClosing = bringOr 60 20 150 (w b 6)) ∧
    (∀ b, (5, b) ∈ blocks → c.gains = ⟨g b 0, g b 1, g b 2, g b 3, g b 4, g b 5, g b 6, g b 7, g b 8, g b 9, g b 10⟩) ∧
    (∀ b, (6, b) ∈ blocks → (∀ k, 1 ≤ k → k ≤ 31 → c.accept.getLsbD k = (beNat (field b 0 4)).testBit k) ∧
      c.enCorr = (byteAt b 4).getLsbD 7 ∧ c.enNonFatal = (byteAt b 4).getLsbD 6 ∧ c.enFatal = (byteAt b 4).getLsbD 5) ∧
    (∀ b, (7, b) ∈ blocks → c.packing = bringTo 0 100 (byteAt b 0).toNat ∧ c.absolute = bringTo 0 60 (byteAt b 1).toNat ∧
      c.nearFull = bringTo 0 1024 (w b 2)) ∧
    (6 ∉ blocks.map Prod.fst → (∀ k, 1 ≤ k → k ≤ 31 → c.accept.getLsbD k = true) ∧ c.enCorr = true ∧ c.enNonFatal = true ∧
      c.enFatal = true) ∧
    (7 ∉ blocks.map Prod.fst → c.packing = 20 ∧ c.absolute = 10 ∧ c.nearFull = 96)

/-- R175: how many values of a block stand outside their ranges. -/
def blockClamps (x : Nat × List Byte) : Nat :=
  let w (i : Nat) : Nat := beNat (field x.2 i 2)
  let y (i : Nat) : Nat := (byteAt x.2 i).toNat
  let out (lo hi v : Nat) : Nat := if lo ≤ v ∧ v ≤ hi then 0 else 1
  let outOr (lo hi v : Nat) : Nat := if v = 0 then 0 else out lo hi v
  match x.1 with
  | 1 => out 500 4000 (w 0) + out 400 15000 (w 2)
  | 2 => out 0 3000 (w 0) + out 0 100 (y 3) + out 1 50 (y 4)
  | 3 => out 100 32767 (w 0) + outOr 10000 12500 (w 2)
  | 4 => outOr 50 500 (w 0) + outOr 30 300 (w 2) + outOr 50 500 (w 4) + outOr 20 150 (w 6)
  | 5 => ((List.range 11).map (fun i => out 12288 20480 (w (2 * i)))).sum
  | 7 => out 0 100 (y 0) + out 0 60 (y 1) + out 0 1024 (w 2)
  | _ => 0

/-- R147, R174, R175: what START makes of the first word and the chain of a store's bytes: the protected count, the values delivered or the
fallback set, and the notices CONFIG_CLAMPED and CONFIG_BAD, the latter once more for a cell strapped to 0 (R173). -/
def Dev.configuredFrom (t : Dev) (m : List Host.Cell) (strap : BitVec 5) : Prop :=
  let v := beNat (memReadBytes m 0 4)
  let p := if v = 2 ∨ v = 4 ∨ v = 8 then v else 8
  let badWord : Nat := if v = 2 ∨ v = 4 ∨ v = 8 then 0 else 1
  let unset : Nat := if strap = 0 then 1 else 0
  t.rst.protect.val = p ∧ t.cfg.station = strap.toNat ∧
    (∀ blocks, cleanChain m (p * 1024) blocks →
      let n := badWord + (blocks.map blockClamps).sum
      t.cfg.configBad = false ∧ t.cfg.deliveredBy blocks ∧ t.ntu.entry .configClamped = ⟨decide (0 < n), min 255 n⟩ ∧
        t.ntu.entry .configBad = ⟨decide (0 < unset), unset⟩) ∧
    ((¬∃ blocks, cleanChain m (p * 1024) blocks) →
      t.cfg = { Cfg.fallback with station := strap.toNat, configBad := true } ∧ t.ntu.entry .configBad = ⟨true, 1 + unset⟩)

/-- R144, R155 to R157, R162, R163: what the scan of START makes of the ring in a store's bytes, the engine's first choice, and the
INTERRUPTION of the run before. -/
def Dev.scannedFrom (t : Dev) (m : List Host.Cell) (restart : Bool) : Prop :=
  let r := t.rst
  let img (n : Nat) := memReadBytes m (n * 32) 32
  let programmed (n : Nat) := ∃ i, i < 32 ∧ memRead m (n * 32 + i) ≠ 255
  let good (n : Nat) := programmed n ∧ field (img n) 28 4 = natBe 4 (crc32 ((img n).take 28)).toNat
  let ring (n : Nat) := r.protect.val * 32 ≤ n ∧ n < 2048
  let blank (x p : Nat) := ∀ n, n / 4 = x * 8 + p → ¬programmed n
  let used (x : Nat) := ∃ n, n / 32 = x ∧ programmed n
  let eligible (x : Nat) := ∀ h ∈ r.slots, h.slot / 32 = x → h.seq ≤ r.mark
  let next (x : Fin 64) : Fin 64 := if x = 63 then r.protect else x + 1
  let at0 := blank r.posSector.val r.posPage.val ∧ ¬(r.posPage = 0 ∧ used r.posSector.val)
  (∀ h : HeldSlot, h ∈ r.slots ↔ ring h.slot ∧ good h.slot ∧ h.seq = beNat (field (img h.slot) 0 4)) ∧
    ((∃ n, ring n ∧ programmed n ∧ ¬good n) → t.ntu.entry .badRecord = ⟨true, 1⟩) ∧
    ((¬∃ n, ring n ∧ programmed n ∧ ¬good n) → t.ntu.entry .badRecord = ⟨false, 0⟩) ∧
    (∀ x : Fin 64, r.protect ≤ x → (r.table[x].used = true ↔ used x.val) ∧
      ∀ k, r.table[x].highest = some k ↔
        (∃ h ∈ r.slots, h.slot / 32 = x.val ∧ h.seq = k) ∧ ∀ h ∈ r.slots, h.slot / 32 = x.val → h.seq ≤ k) ∧
    (r.slots = [] → r.newest = 0 ∧ r.oldest = none ∧ r.mark = 0 ∧ r.queue = [] ∧ r.posSector = r.protect ∧ r.posPage = 0) ∧
    (∀ o ∈ r.slots, (∀ h ∈ r.slots, o.seq ≤ h.seq) → r.oldest = some o.seq ∧ r.mark = o.seq - 1) ∧
    (∀ h ∈ r.slots, (∀ g ∈ r.slots, g ≠ h → g.seq < h.seq) → h.seq < 4294967295 →
      let x := h.slot / 32
      let p := h.slot / 4 % 8
      let kind := (byteAt (img h.slot) 4).toNat / 32
      let due := kind = 1 ∨ kind = 2 ∨ (kind = 5 ∧ (byteAt (img h.slot) 4).getLsbD 4 = false)
      (due → r.newest = h.seq + 1 ∧
        r.staged = [(h.seq + 1, recordImage (h.seq + 1) (.interruption (beNat (field (img h.slot) 5 4)) restart))]) ∧
        (¬due → r.newest = h.seq ∧ r.queue = []) ∧
        ((r.posSector.val = x ∧ p < r.posPage.val ∧ at0 ∧ ∀ q, p < q → q < r.posPage.val → ¬blank x q) ∨
          ((∀ q, p < q → q < 8 → ¬blank x q) ∧ r.posSector = next (Fin.ofNat 64 x) ∧ r.posPage = 0))) ∧
    (¬at0 → eligible r.posSector.val → r.full = false ∧ r.engine = .erasing r.posSector) ∧
    (¬at0 → ¬eligible r.posSector.val → r.full = true ∧ r.engine = .idle ∧ (t.ntu.entry .storeFull).pending = true) ∧
    (at0 → r.full = false ∧
      (r.posPage = 7 → used (next r.posSector).val → eligible (next r.posSector).val → r.engine = .erasing (next r.posSector)) ∧
      (r.posPage ≠ 7 ∨ ¬used (next r.posSector).val ∨ ¬eligible (next r.posSector).val → r.queue = [] → r.engine = .idle)) ∧
    r.low = decide (r.available ≤ t.cfg.nearFull) ∧ t.ntu.entry .storeLow = ⟨r.low, if r.low then 1 else 0⟩ ∧ r.job = none

end Sys2Proof.Machine
end

