-- ==== Sys2Proof/Certificates/Slice0/Obligations.lean ====
section
/-! DEFINITION. The statements for the provers: what the rules of the book say that each command does, and the laws that every command keeps. -/

open Sys2Proof Sys2Proof.Machine

/-! ### The machine as a whole -/

/-- A step takes the command at the front of the queue and runs it on the machine with the queue's rest. -/
def Obligations.StepRunsFrontCommand : Prop :=
  ∀ (s : State) (c : Instr) (rest : List Instr), s.pending = c :: rest → step s = exec c { s with pending := rest }

/-- With no command waiting the block idles: the model's choice (log entry 15). -/
def Obligations.StepIdlesOnEmptyQueue : Prop := ∀ s : State, s.pending = [] → step s = .next s

/-- Every command answers a next state from every state, and none of them touches the queue of waiting commands. That no command faults or is
refused, and that one with no event to take leaves the part as it is, is the model's choice (log entry 4). -/
def Obligations.EveryCommandAnswersNextAndKeepsTheQueue : Prop :=
  ∀ (c : Instr) (s : State), ∃ t, exec c s = .next t ∧ t.pending = s.pending

/-- A part in STARTING, or without supply, takes nothing but the commands of its supply and its reset pin (log entry 4). -/
def Obligations.PartNotUpTakesNoOtherCommand : Prop :=
  ∀ (c : Instr) (s : State), ¬s.dev.awake → c ≠ .supplyWarning → c ≠ .powerFail →
    (∀ p, c ≠ .powerUp p ∧ c ≠ .resetPin p ∧ c ≠ .supplyWarningClear p) → exec c s = .next s

/-! ### Supply and START (chapter 11) -/

/-- R172, R173, R176, R177, R164: the causes of START and what it leaves. A power-up finds the bytes that the loss of supply left; the
other causes let the engine's operation complete first. An unpowered part takes no reset and no clearing of the warning. What a powered part does on a power-up, and an unpowered one on a reset, is the model's choice (log entry 4), and so are the START values that no rule gives (log entry 2). The levels come with the command that
causes START, and SUPPLY_WARNING_CLEAR brings the warning not standing whatever its operand says (log entry 14). -/
def Obligations.StartCausesLeaveStartValues : Prop :=
  ∀ (s : State) (pins : Pins),
    (s.dev.run = .unpowered →
      ∃ t, exec (.powerUp pins) s = .next t ∧ t.pending = s.pending ∧ t.dev.startedWith pins s.dev.rst.mem) ∧
    (s.dev.run ≠ .unpowered →
      ∃ t m, exec (.powerUp pins) s = .next t ∧ t.dev.startedWith pins m ∧
        ∀ a, ¬s.dev.rst.changing a → memRead m a = memRead s.dev.rst.mem a) ∧
    (s.dev.run ≠ .unpowered →
      ∃ t, exec (.resetPin pins) s = .next t ∧ t.pending = s.pending ∧ t.dev.startedWith pins s.dev.rst.settledMem) ∧
    (s.dev.run = .unpowered → exec (.resetPin pins) s = .next s ∧ exec (.supplyWarningClear pins) s = .next s) ∧
    (s.dev.run = .shutdown →
      ∃ t, exec (.supplyWarningClear pins) s = .next t ∧ t.pending = s.pending ∧
        t.dev.startedWith { pins with warning := false } s.dev.rst.settledMem) ∧
    (s.dev.run = .starting ∨ s.dev.run = .running →
      exec (.supplyWarningClear pins) s = .next { s with dev := { s.dev with pins := { s.dev.pins with warning := false } } }) ∧
    ∀ h : OrderHead, s.dev.takes h → s.dev.ctc.bothOpen = true → s.dev.hoc.state.isMember = false →
      ∃ t, exec (.restart h pins) s = .next t ∧ t.pending = s.pending ∧ t.dev.startedWith pins s.dev.rst.settledMem

/-- R144, R147, R155 to R157, R162, R163, R172 to R175 and Table 12-8: what START makes of the store's bytes. First an erased store. The protected count and
the chain are both bad: 8 sectors are protected, CONFIG_CLAMPED counts 1, Table 11-2 stands, CONFIG_BAD is raised (a second time for a cell strapped to 0), and the
ring is empty. Then any bytes, by each cause of START: a chain that walks without error delivers its values, each brought to its range and counted where it was
not in it, and any other chain the fallback set; the scan holds the good slots of the ring, raises BAD_RECORD once for bad ones, rebuilds the sector table, the
numbers and the write position, and makes the engine's first choice; and an INTERRUPTION is staged where the newest record shows an open membership, with the
cause restart for a RESTART order and power for every other cause. Page 0 of a USED sector is not erased (log entry 51), and the available count of a full store is 0
(log entry 39). -/
def Obligations.StartReadsTheStore : Prop :=
  (∀ (s : State) (pins : Pins), s.dev.run = .unpowered → s.dev.rst.mem = [] →
    ∃ t, exec (.powerUp pins) s = .next t ∧
      t.dev.cfg = { Cfg.fallback with station := pins.strap.toNat, configBad := true } ∧ t.dev.rst.protect = 8 ∧
      t.dev.ntu.entry .configClamped = ⟨true, 1⟩ ∧
      t.dev.ntu.entry .configBad = ⟨true, if pins.strap = 0 then 2 else 1⟩ ∧
      t.dev.rst.newest = 0 ∧ t.dev.rst.oldest = none ∧ t.dev.rst.slots = [] ∧ t.dev.rst.queue = [] ∧
      t.dev.rst.posSector = 8 ∧ t.dev.rst.posPage = 0 ∧ t.dev.rst.engine = .idle ∧ t.dev.rst.full = false) ∧
  ∀ (s : State) (pins : Pins),
    let reads (c : Instr) (m : List Host.Cell) (restart : Bool) : Prop :=
      ∃ t, exec c s = .next t ∧ t.dev.configuredFrom m pins.strap ∧ t.dev.scannedFrom m restart
    (s.dev.run = .unpowered → memWf s.dev.rst.mem → reads (.powerUp pins) s.dev.rst.mem false) ∧
    (memWf s.dev.rst.settledMem →
      (s.dev.run ≠ .unpowered → reads (.resetPin pins) s.dev.rst.settledMem false) ∧
      (s.dev.run = .shutdown → reads (.supplyWarningClear pins) s.dev.rst.settledMem false) ∧
      ∀ h : OrderHead, s.dev.takes h → s.dev.ctc.bothOpen = true → s.dev.hoc.state.isMember = false →
        reads (.restart h pins) s.dev.rst.settledMem true)

/-- R164: loss of supply stops the engine where it stands. Nothing but the page or sector it was changing reads otherwise than before. The run state
without supply, and what the part holds in it (an IDLE engine, the pins kept), is the model's choice (log entry 1). -/
def Obligations.PowerFailKeepsTheStoreOutsideTheOperationInFlight : Prop :=
  ∀ s : State, ∃ t, exec .powerFail s = .next t ∧ t.pending = s.pending ∧ t.dev.run = .unpowered ∧ t.dev.pins = s.dev.pins ∧
    t.dev.rst.engine = .idle ∧ ∀ a, ¬s.dev.rst.changing a → memRead t.dev.rst.mem a = memRead s.dev.rst.mem a

/-- R177, R20, R86, R105, R126, R132, R142, R145, R149, R153, R164: the supply warning in RUNNING, at every block. A membership ends with cause power: the
records of its end are staged while entries are free and stand in the pending holder otherwise. The store's drain demand covers every entry that waits: a busy
engine, or that of a FULL store, keeps the demand, and an idle one over an erased page (log entry 51) begins a page program and no pre-erase. In the other run states only the pin is recorded, and an unpowered part takes nothing (log entry 4). -/
def Obligations.SupplyWarningShutsDown : Prop :=
  ∀ s : State,
    (s.dev.run = .running →
      ∃ t, exec .supplyWarning s = .next t ∧ t.pending = s.pending ∧ t.dev.run = .shutdown ∧
        t.dev.pins = { s.dev.pins with warning := true } ∧ s.dev.syu.haltedFrom t.dev.syu ∧ t.dev.syu.heldClear = true ∧
        t.dev.syn.cell.state = .idle ∧ t.dev.syn.ship.state = .idle ∧
        s.dev.ctc.a.openRequestedFrom s.dev.cfg.openPulse t.dev.ctc.a ∧
        s.dev.ctc.b.openRequestedFrom s.dev.cfg.openPulse t.dev.ctc.b ∧
        t.dev.hoc.assignment = s.dev.hoc.assignment ∧
        (s.dev.hoc.state ≠ .tripped →
          s.dev.hoc.droppedFrom t.dev.hoc ∧
            t.dev.hoc.state = (if s.dev.hoc.assignment.isSome then .assigned else .off)) ∧
        (s.dev.hoc.state = .tripped → t.dev.hoc.state = .tripped) ∧ t.dev.mtr.membership = none ∧
        t.dev.cfg = s.dev.cfg ∧ t.dev.lnk = s.dev.lnk ∧ t.dev.ptb = s.dev.ptb ∧ t.dev.msu = s.dev.msu ∧
        t.dev.rst.mem = s.dev.rst.mem ∧
        (let r := s.dev.rst
         let held := s.dev.mtr.holder
         let records := match s.dev.mtr.membership with
           | none => []
           | some k => s.dev.mtr.leaveRecords k .power
         let staged := if held = [] then records.take r.free else []
         let settled := ∀ j, r.job = some j → j.ready ≠ none
         r.newest < 4294967290 →
           r.tookRecords staged t.dev.rst ∧
           (held = [] → t.dev.mtr.holder = records.drop r.free) ∧
           (held ≠ [] → held.length ≤ 2 → t.dev.mtr.holder = (held ++ records).take 2 ∧
             t.dev.mtr.dropped =
               (if held.length + records.length ≤ 2 then s.dev.mtr.dropped
                else min 255 (s.dev.mtr.dropped + (held.length + records.length - 2)))) ∧
           (r.engine ≠ .idle ∨ (settled ∧ r.full = true) → t.dev.rst.engine = r.engine ∧ t.dev.rst.full = r.full ∧
             (staged ≠ [] → t.dev.rst.drain = some t.dev.rst.newest) ∧
             (staged = [] → r.waiting = [] → t.dev.rst.drain = r.drain) ∧
             ∀ w e, staged = [] → r.waiting = w ++ [e] → t.dev.rst.drain = some e.seq) ∧
           (r.engine = .idle → settled → r.full = false → r.posErased = true → (∀ e ∈ r.queue, e.inProgram = false) →
             (r.queue ≠ [] ∨ staged ≠ [] → t.dev.rst.engine = .programming r.posSector r.posPage) ∧
             (r.queue = [] → staged = [] → t.dev.rst.engine = .idle)))) ∧
    (s.dev.run = .starting ∨ s.dev.run = .shutdown →
      exec .supplyWarning s = .next { s with dev := { s.dev with pins := { s.dev.pins with warning := true } } }) ∧
    (s.dev.run = .unpowered → exec .supplyWarning s = .next s)

/-! ### The sample port (chapters 1, 2 and 8) -/

/-- R2: a bad check word leaves no trace; a repeat raises SAMPLE_GAP, whose count rises by one, and does nothing else. -/
def Obligations.SampleSetThatIsNotAdmitted : Prop :=
  ∀ (s : State) (raw : RawSet), s.dev.awake →
    (setCheck raw ≠ raw.check → exec (.sampleSet raw) s = .next s) ∧
    (setCheck raw = raw.check → s.dev.msu.lastSeq = some raw.seq →
      ∃ t, exec (.sampleSet raw) s = .next t ∧ t.pending = s.pending ∧ s.dev.onlyRaised .sampleGap t.dev ∧
        s.dev.ntu.raisedOnce .sampleGap t.dev.ntu)

/-- R2 to R6, R14, R15: the records that every admitted set leaves, SAMPLE_GAP raised once for positions missing before it, and the blocks that no set touches. -/
def Obligations.SampleSetAdmitted : Prop :=
  ∀ (s : State) (raw : RawSet), s.dev.admits raw →
    ∃ t, exec (.sampleSet raw) s = .next t ∧ t.pending = s.pending ∧
      t.dev.msu.setCount = (s.dev.msu.setCount + s.dev.positions raw) % 16777216 ∧ t.dev.msu.lastSeq = some raw.seq ∧
      t.dev.msu.lastSet = some (calibrated s.dev.cfg.gains raw) ∧ t.dev.msu.watch = true ∧ t.dev.msu.setGap = 0 ∧
      t.dev.msu.vRef = (s.dev.hoc.ownSession.map Session.vNom).getD s.dev.cfg.vRated ∧
      t.dev.msu.secSum = s.dev.msu.secSum + (calibrated s.dev.cfg.gains raw).power ∧
      ((calibrated s.dev.cfg.gains raw).overLevel s.dev.cfg.iTrip → t.dev.msu.ocRun = min 2 (s.dev.msu.ocRun + 1)) ∧
      (¬(calibrated s.dev.cfg.gains raw).overLevel s.dev.cfg.iTrip → t.dev.msu.ocRun = 0) ∧
      (2 ≤ s.dev.positions raw → s.dev.ntu.raisedOnce .sampleGap t.dev.ntu) ∧
      (s.dev.positions raw < 2 → t.dev.ntu.entry .sampleGap = s.dev.ntu.entry .sampleGap) ∧
      t.dev.run = s.dev.run ∧ t.dev.pins = s.dev.pins ∧ t.dev.cfg = s.dev.cfg ∧ t.dev.lnk = s.dev.lnk ∧
      t.dev.ptb = s.dev.ptb ∧ t.dev.rst.mem = s.dev.rst.mem

/-- R6 to R11, R13, R16: crossings at an admitted set. First a rising crossing of the cell voltage with no missing set before it, its tracker armed and a
crossing already captured: the interpolated instant, the period, the frequency, RMS over the window, P and pu. Then every admitted set: what each of the
three trackers makes of it (no crossing, the first, one across missing positions, a period in or out of range), P, Q, pu and the overload timer at the
close of a cell period, the power and the reactive product of the set in their sums, with the delay line and its delay, and the two phase differences. That a set which
closes a period takes its reactive product with the delay of that period, over a line of earlier sets, is the model's reading (log entry 24). A crossing with
no set in its window forms nothing (log entry 7), a set that holds a crossing makes no fallback close (log entry 41), and its close is compared with the limit before an expiry is taken (log
entry 43). That the first admitted set after START counts as one position (log entry 61), and that a phase difference is formed once at a set at which both of
its trackers cross (log entry 62), are the model's choices. -/
def Obligations.CellCrossingClosesThePeriod : Prop :=
  (∀ (s : State) (raw : RawSet) (l : Channels) (old : Nat), s.dev.admits raw → s.dev.positions raw = 1 →
    s.dev.msu.lastSet = some l → l.va - l.vb < 0 → s.dev.msu.cell.armed = true → s.dev.msu.cell.capture = some old →
    s.dev.msu.cell.count ≠ 0 →
    let c := calibrated s.dev.cfg.gains raw
    let v := c.va - c.vb
    let time := ((256 * (((s.dev.msu.setCount + 1) % 16777216 : Nat) : Int) - tdiv (256 * v) (v - (l.va - l.vb))) % 4294967296).toNat
    let period := (time + 4294967296 - old) % 4294967296
    0 ≤ v → 35109 ≤ period → period ≤ 61440 →
    ∃ t, exec (.sampleSet raw) s = .next t ∧ t.pending = s.pending ∧ t.dev.msu.cell.capture = some time ∧
      t.dev.msu.cell.period = some period ∧ t.dev.msu.cell.freqValid = true ∧
      t.dev.msu.cell.freq = some ((2457600000 + period / 2) / period) ∧ t.dev.msu.cell.armed = false ∧
      t.dev.msu.cell.count = 1 ∧
      t.dev.msu.cell.rmsOf s.dev.msu.cell.sumSq s.dev.msu.cell.count ((s.dev.hoc.ownSession.map Session.vNom).getD s.dev.cfg.vRated) ∧
      t.dev.msu.p = sat16 (tdiv (tdiv s.dev.msu.sumP s.dev.msu.cell.count) 10000) ∧
      t.dev.msu.pu = sat16 (tdiv (t.dev.msu.p * 10000) s.dev.cfg.rating) ∧ t.dev.msu.sumP = c.power) ∧
  ∀ (s : State) (raw : RawSet), s.dev.admits raw →
    let c := calibrated s.dev.cfg.gains raw
    let m := s.dev.msu
    let step := s.dev.positions raw
    let n := (m.setCount + step) % 16777216
    let vRef := (s.dev.hoc.ownSession.map Session.vNom).getD s.dev.cfg.vRated
    let v := c.va - c.vb
    let w := m.lastSet.map (fun l => l.va - l.vb)
    let busCrosses := ∃ x, s.dev.hoc.assignment = some x ∧ m.bus.rises (c.busOf x) (m.lastSet.map (fun l => l.busOf x))
    let shipCrosses := ∃ x, s.dev.hoc.assignment = some x ∧ m.ship.rises (c.shipOf x) (m.lastSet.map (fun l => l.shipOf x))
    let closes := m.cell.rises v w ∧ m.cell.capture ≠ none ∧ m.cell.count ≠ 0
    let reactive (k : Option Nat) : Int :=
      match k.bind (fun k => ((c.va, c.vb, c.vc) :: m.delayLine)[k]?) with
      | none => 0
      | some u => u.1 * c.ia + u.2.1 * c.ib + u.2.2 * c.ic
    ∃ t, exec (.sampleSet raw) s = .next t ∧ t.pending = s.pending ∧ m.cell.tookSet vRef step n v w t.dev.msu.cell ∧
      (s.dev.hoc.assignment = none → t.dev.msu.bus = m.bus ∧ t.dev.msu.ship = m.ship) ∧
      (∀ x, s.dev.hoc.assignment = some x →
        m.bus.tookSet vRef step n (c.busOf x) (m.lastSet.map (fun l => l.busOf x)) t.dev.msu.bus ∧
          m.ship.tookSet vRef step n (c.shipOf x) (m.lastSet.map (fun l => l.shipOf x)) t.dev.msu.ship) ∧
      (closes →
        t.dev.msu.p = sat16 (tdiv (tdiv m.sumP m.cell.count) 10000) ∧ t.dev.msu.q = sat16 (tdiv (tdiv m.sumQ m.cell.count) 10000) ∧
          t.dev.msu.pu = sat16 (tdiv (t.dev.msu.p * 10000) s.dev.cfg.rating) ∧
          t.dev.msu.overload =
            (if (s.dev.cfg.limitPu : Int) ≤ t.dev.msu.pu then some ((m.overload.map (fun k => k + max 1 step)).getD 0) else none)) ∧
      (¬closes → t.dev.msu.p = m.p ∧ t.dev.msu.q = m.q ∧ t.dev.msu.pu = m.pu ∧
        t.dev.msu.overload = m.overload.map (fun k => k + max 1 step)) ∧
      (m.cell.rises v w → t.dev.msu.sumP = c.power ∧ t.dev.msu.sumQ = reactive t.dev.msu.delayK) ∧
      (¬m.cell.rises v w → t.dev.msu.sumP = m.sumP + c.power ∧ t.dev.msu.sumQ = m.sumQ + reactive t.dev.msu.delayK) ∧
      t.dev.msu.delayLine = ((c.va, c.vb, c.vc) :: m.delayLine).take 64 ∧
      (m.cell.rises v w ∧ m.cell.capture ≠ none ∧ t.dev.msu.cell.freqValid = true →
        t.dev.msu.delayK = t.dev.msu.cell.period.map (fun p => p / 1024)) ∧
      (¬(m.cell.rises v w ∧ m.cell.capture ≠ none ∧ t.dev.msu.cell.freqValid = true) → t.dev.msu.delayK = m.delayK) ∧
      ((m.cell.rises v w ∨ busCrosses) → m.cellBus.formedFrom t.dev.msu.cell t.dev.msu.bus t.dev.msu.cellBus) ∧
      (¬m.cell.rises v w → ¬busCrosses → t.dev.msu.cellBus = m.cellBus) ∧
      ((busCrosses ∨ shipCrosses) → m.busShip.formedFrom t.dev.msu.bus t.dev.msu.ship t.dev.msu.busShip) ∧
      (¬busCrosses → ¬shipCrosses → t.dev.msu.busShip = m.busShip)

/-- R21 to R29: what the reference port carries for an admitted set. With the run flag set the frequency command is formed by the mode from the latched
frequency, the ramp or joining offset, the share correction and the droop, and clamped to 2500 mHz on either side; the phase advances by the increment of
that command, rounded half up, once for each set position and once for the first step after the flag was set (R27); the voltage command is that of the mode.
The limit flag, the share and the commands stand as the step left them, unless the run flag is cleared in the same event. A set that trips is stepped, and
handed to the port, before its trip (log entry 8). With the flag clear the phase is held and the voltage is 0. -/
def Obligations.ReferencePortOutput : Prop :=
  ∀ (s : State) (raw : RawSet), s.dev.admits raw →
    (s.dev.syu.run = true →
      ∃ (t : State) (f v : Int), exec (.sampleSet raw) s = .next t ∧ t.pending = s.pending ∧
        (s.dev.syu.fNom : Int) - 2500 ≤ f ∧ f ≤ (s.dev.syu.fNom : Int) + 2500 ∧ 900 ≤ v ∧ v ≤ 1100 ∧
        (s.dev.syu.mode = .forming → f = s.dev.syu.fNom ∧ v = 1000) ∧
        (let pu := t.dev.msu.pu
         let droop := tdiv (s.dev.cfg.dF * pu) 10000
         let share : Int := match s.dev.hoc.assignment with
           | none => 0
           | some x =>
             if s.dev.con x = .closed ∧ s.dev.hoc.leave = none then
               let others := (s.dev.ptb.sharers x).map (fun c => c.2.2.pu)
               max (-500) (min 500 (tdiv (s.dev.cfg.kShare * (tdiv (others.sum + pu) (others.length + 1) - pu)) 64))
             else 0
         let raw : Int :=
           if s.dev.syu.mode = .forming then s.dev.syu.fNom
           else if s.dev.syu.mode = .follow ∧ s.dev.ownMember = false then s.dev.syu.fNom + s.dev.syu.fJoin - droop
           else s.dev.syu.fNom + s.dev.syu.fRamp + share - droop
         let lo : Int := s.dev.syu.fNom - 2500
         let hi : Int := s.dev.syu.fNom + 2500
         s.dev.syu.mode ≠ .stopped →
           f = max lo (min hi raw) ∧
           (s.dev.syu.mode ≠ .forming →
             v = max 900 (min 1100 (1000 + s.dev.syu.vSteer
               - tdiv (s.dev.cfg.dQ * tdiv (t.dev.msu.q * 10000) s.dev.cfg.rating) 10000))) ∧
           t.dev.syu.share = share ∧
           (t.dev.syu.run = true → t.dev.syu.firstStep = false →
             t.dev.syu.fCmd = f ∧ t.dev.syu.vCmd = v ∧
             t.dev.syu.clamp = (if raw < lo then .lower else if hi < raw then .upper else .noAction) ∧
             (t.dev.syu.puAtLimit = true ↔ (s.dev.cfg.limitPu : Int) ≤ pu) ∧
             (t.dev.syu.limit = true ↔ (s.dev.cfg.limitPu : Int) ≤ pu ∨ raw < lo ∨ hi < raw))) ∧
        t.dev.syu.port =
          some
            ⟨true,
              (s.dev.syu.phase
                + (if s.dev.syu.firstStep then 1 else max 1 (s.dev.positions raw))
                  * (tdiv (f * 4294967296 + 4800000) 9600000).toNat) % 4294967296,
              v, s.dev.syu.vNom⟩) ∧
    (s.dev.syu.run = false →
      ∃ t, exec (.sampleSet raw) s = .next t ∧ t.pending = s.pending ∧
        t.dev.syu.port = some ⟨false, s.dev.syu.phase, 0, s.dev.syu.vNom⟩ ∧ t.dev.syu.phase = s.dev.syu.phase)

/-- R130, R131: an admitted set below the overcurrent level, metered or not. A metered set adds its p to the residue, whole watt-hours of
345 600 000 units leave it for the interval and for the totals, which clear where the set begins a membership. That set requests SESSION_JOIN (R141, R142,
R149), staged under the next sequence number where an entry is free and the pending holder is empty; else it goes into the holder, or is dropped and counted
where two records stand there. -/
def Obligations.MeteredSetCountsWholeWattHours : Prop :=
  ∀ (s : State) (raw : RawSet), s.dev.admits raw → ¬(calibrated s.dev.cfg.gains raw).overLevel s.dev.cfg.iTrip →
    let p := (calibrated s.dev.cfg.gains raw).power
    let n := tdiv (s.dev.mtr.residue + p) 345600000
    (∀ (x : Outlet) (ses : Session), s.dev.run = .running → s.dev.hoc.assignment = some x → s.dev.con x = .closed →
      s.dev.hoc.session x = some ses →
      ∃ t, exec (.sampleSet raw) s = .next t ∧ t.pending = s.pending ∧ t.dev.mtr.residue = s.dev.mtr.residue + p - n * 345600000 ∧
        t.dev.mtr.residue.natAbs < 345600000 ∧ t.dev.mtr.meteredMark = true ∧ t.dev.mtr.interval.metered = true ∧
        t.dev.mtr.interval.importWh = s.dev.mtr.interval.importWh + n.toNat ∧
        t.dev.mtr.interval.exportWh = s.dev.mtr.interval.exportWh + (-n).toNat ∧
        (∀ m, s.dev.mtr.membership = some m → t.dev.mtr.membership = some m ∧
          t.dev.mtr.totImport = s.dev.mtr.totImport + n.toNat ∧ t.dev.mtr.totExport = s.dev.mtr.totExport + (-n).toNat) ∧
        (s.dev.mtr.membership = none → t.dev.mtr.membership = some ⟨ses.id, x, ses.fNom, ses.demand⟩ ∧
          t.dev.mtr.totImport = n.toNat ∧ t.dev.mtr.totExport = (-n).toNat ∧ t.dev.mtr.interval.session = some ses.id ∧
          (let join : Rec := .sessionJoin ⟨ses.id, x, ses.fNom, ses.demand⟩ s.dev.mtr.stamp
           (s.dev.mtr.holder = [] → 1 ≤ s.dev.rst.free → s.dev.rst.tookRecords [join] t.dev.rst ∧ t.dev.mtr.holder = []) ∧
             (s.dev.mtr.holder ≠ [] ∨ s.dev.rst.free = 0 → t.dev.rst = s.dev.rst ∧
               (s.dev.mtr.holder.length < 2 → t.dev.mtr.holder = s.dev.mtr.holder ++ [join] ∧ t.dev.mtr.dropped = s.dev.mtr.dropped) ∧
               (2 ≤ s.dev.mtr.holder.length → t.dev.mtr.holder = s.dev.mtr.holder ∧
                 t.dev.mtr.dropped = min 255 (s.dev.mtr.dropped + 1))))) ∧
        (s.dev.mtr.membership ≠ none → t.dev.rst = s.dev.rst)) ∧
    (s.dev.run ≠ .running ∨ s.dev.ownCon ≠ some .closed ∨ s.dev.hoc.ownSession = none →
      ∃ t, exec (.sampleSet raw) s = .next t ∧ t.pending = s.pending ∧ t.dev.mtr = s.dev.mtr)

/-- R15, whole: a set with |IA|, |IB| or |IC| at or above i_trip counts, to 2 at most, and any other clears the count, whatever positions are missing before it.
The set that brings the count to 2 hands the trip cause OVERCURRENT on: the cell stands tripped (R82) with the notice raised. A set that leaves the count at 2,
or below it, hands nothing on. A saturated current is over level at every i_trip in range. -/
def Obligations.OvercurrentComparatorTripsOnce : Prop :=
  (∀ (s : State) (raw : RawSet), s.dev.admits raw → s.dev.msu.ocRun ≤ 2 →
    let c := calibrated s.dev.cfg.gains raw
    let i := s.dev.cfg.iTrip
    let high := i ≤ c.ia.natAbs ∨ i ≤ c.ib.natAbs ∨ i ≤ c.ic.natAbs
    ∃ t, exec (.sampleSet raw) s = .next t ∧ t.pending = s.pending ∧
      (¬high → t.dev.msu.ocRun = 0 ∧ t.dev.ntu.entry .overcurrent = s.dev.ntu.entry .overcurrent) ∧
      (high → t.dev.msu.ocRun = min 2 (s.dev.msu.ocRun + 1)) ∧
      (high → s.dev.msu.ocRun ≠ 1 → t.dev.ntu.entry .overcurrent = s.dev.ntu.entry .overcurrent) ∧
      (high → s.dev.msu.ocRun = 1 →
        t.dev.ntu.entry .overcurrent = ⟨true, min 255 ((s.dev.ntu.entry .overcurrent).count + 1)⟩ ∧ t.dev.hoc.state = .tripped ∧
        s.dev.hoc.droppedFrom t.dev.hoc ∧ t.dev.syu.run = false ∧ t.dev.syu.mode = .stopped ∧ t.dev.syu.vCmd = 0 ∧
        t.dev.syu.fCmd = 0 ∧ t.dev.syu.limit = false ∧ s.dev.ctc.a.openRequestedFrom s.dev.cfg.openPulse t.dev.ctc.a ∧
        s.dev.ctc.b.openRequestedFrom s.dev.cfg.openPulse t.dev.ctc.b)) ∧
  ∀ (c : Channels) (i : Nat), i ≤ 32767 → (c.ia.natAbs = 32767 ∨ c.ib.natAbs = 32767 ∨ c.ic.natAbs = 32767) → c.overLevel i

/-- R5, R16, R82, R84, R141, R143: the watch timer and the overload timer. A third expiry in a row trips with SAMPLE_LOSS, and 96 000 positions above the
limit with OVERLOAD; before that the set-gap counter alone moves, or nothing does. Each trip requests an EVENT record of its cause, with the contactor states after
it, the handover state before it, P and the local time; where it also ends a membership, the records of that end stand before or after the EVENT, which then
carries no session ID or the membership's (log entry 3). An expiry with nothing due leaves the part as it is (log entries 4 and 13). -/
def Obligations.ProtectionTimers : Prop :=
  ∀ s : State, s.dev.awake →
    let event (c : TripCause) (session : Option Nat) (t : State) : EventRec :=
      ⟨some c, none, t.dev.con .a, t.dev.con .b, s.dev.hoc.state, s.dev.msu.p, session, s.dev.mtr.stamp⟩
    let recorded (c : TripCause) (t : State) : Prop :=
      (s.dev.mtr.membership = none → s.dev.eventTaken (event c none t) t.dev) ∧
      ∀ k x, s.dev.mtr.membership = some k → s.dev.hoc.assignment = some x → s.dev.con x = .closed → s.dev.mtr.holder = [] →
        7 ≤ s.dev.rst.free → s.dev.rst.newest < 4294967290 → s.dev.run = .running →
        s.dev.rst.tookRecords (.event (event c (some k.id) t) :: s.dev.mtr.leaveRecords k .trip) t.dev.rst ∨
          s.dev.rst.tookRecords (s.dev.mtr.leaveRecords k .trip ++ [.event (event c none t)]) t.dev.rst
    (s.dev.msu.watch = false → exec .watchTimerExpiry s = .next s) ∧
    (s.dev.msu.watch = true → s.dev.msu.setGap ≠ 2 →
      exec .watchTimerExpiry s =
        .next { s with dev := { s.dev with msu := { s.dev.msu with setGap := min 3 (s.dev.msu.setGap + 1) } } }) ∧
    (s.dev.msu.watch = true → s.dev.msu.setGap = 2 →
      ∃ t, exec .watchTimerExpiry s = .next t ∧ t.pending = s.pending ∧
        ({ s.dev with msu := { s.dev.msu with setGap := 3 } } : Dev).trippedFrom t.dev ∧
        s.dev.ntu.raisedOnce .sampleLoss t.dev.ntu ∧ recorded .sampleLoss t) ∧
    (∀ n, s.dev.msu.overload = some n → 96000 ≤ n →
      ∃ t, exec .overloadTimerExpiry s = .next t ∧ t.pending = s.pending ∧
        ({ s.dev with msu := { s.dev.msu with overload := none } } : Dev).trippedFrom t.dev ∧
        s.dev.ntu.raisedOnce .overload t.dev.ntu ∧ recorded .overload t) ∧
    ((∀ n, s.dev.msu.overload = some n → n < 96000) → exec .overloadTimerExpiry s = .next s)

/-- R6, R9, R11, R12, R13, R16: a fallback close at 480 positions, at each of the three trackers. The last crossing is kept, the frequency is
invalid, and the window closes over the sets it holds; an empty window forms nothing, and no overload test is made at it (log entry 7). Ratio and bus condition are formed against V_ref as of the last
admitted set (log entry 23), and the phase differences keep their marks (log entry 42). Below 480 positions nothing is due. That a command with nothing due leaves the part as it is stands in log entry 13. -/
def Obligations.FallbackCloseOfEachTracker : Prop :=
  ∀ s : State, s.dev.awake →
    let m := s.dev.msu
    (480 ≤ m.cell.fallback →
      ∃ t, exec (.fallbackClose .cell) s = .next t ∧ t.pending = s.pending ∧ t.dev = { s.dev with msu := t.dev.msu } ∧
        t.dev.msu.cell = { m.cell with freqValid := false, fallback := 0, count := 0, sumSq := 0, rms := t.dev.msu.cell.rms, ratio := t.dev.msu.cell.ratio } ∧
        t.dev.msu.bus = m.bus ∧ t.dev.msu.ship = m.ship ∧ t.dev.msu.busCond = m.busCond ∧ t.dev.msu.sumP = 0 ∧ t.dev.msu.sumQ = 0 ∧
        t.dev.msu.cellBus = m.cellBus ∧ t.dev.msu.busShip = m.busShip ∧
        t.dev.msu =
          { m with
            cell := t.dev.msu.cell, p := t.dev.msu.p, q := t.dev.msu.q, pu := t.dev.msu.pu, overload := t.dev.msu.overload, sumP := 0, sumQ := 0 } ∧
        (m.cell.count = 0 → t.dev.msu.cell.rms = m.cell.rms ∧ t.dev.msu.cell.ratio = m.cell.ratio ∧ t.dev.msu.p = m.p ∧ t.dev.msu.q = m.q ∧
          t.dev.msu.pu = m.pu ∧ t.dev.msu.overload = m.overload) ∧
        (m.cell.count ≠ 0 → t.dev.msu.cell.rmsOf m.cell.sumSq m.cell.count m.vRef ∧ t.dev.msu.q = 0 ∧
          t.dev.msu.p = sat16 (tdiv (tdiv m.sumP m.cell.count) 10000) ∧
          t.dev.msu.pu = sat16 (tdiv (t.dev.msu.p * 10000) s.dev.cfg.rating) ∧
          t.dev.msu.overload = (if (s.dev.cfg.limitPu : Int) ≤ t.dev.msu.pu then some (m.overload.getD 0) else none))) ∧
    (480 ≤ m.bus.fallback →
      ∃ t, exec (.fallbackClose .bus) s = .next t ∧ t.pending = s.pending ∧
        t.dev = { s.dev with msu := t.dev.msu, syu := t.dev.syu, syn := t.dev.syn, hoc := t.dev.hoc } ∧
        t.dev.msu.bus = { m.bus with freqValid := false, fallback := 0, count := 0, sumSq := 0, rms := t.dev.msu.bus.rms, ratio := t.dev.msu.bus.ratio } ∧
        t.dev.msu.cell = m.cell ∧ t.dev.msu.ship = m.ship ∧ t.dev.msu.cellBus = m.cellBus ∧ t.dev.msu.busShip = m.busShip ∧
        t.dev.msu = { m with bus := t.dev.msu.bus, busCond := t.dev.msu.busCond } ∧
        (m.bus.count = 0 → t.dev.msu.bus.rms = m.bus.rms ∧ t.dev.msu.bus.ratio = m.bus.ratio ∧ t.dev.msu.busCond = m.busCond) ∧
        (m.bus.count ≠ 0 → t.dev.msu.bus.rmsOf m.bus.sumSq m.bus.count m.vRef ∧
          ∀ r, t.dev.msu.bus.rms = some r →
            t.dev.msu.busCond = (if r * 10 < m.vRef then .dead else if m.vRef * 8 ≤ r * 10 then .live else .uncertain))) ∧
    (480 ≤ m.ship.fallback →
      ∃ t, exec (.fallbackClose .ship) s = .next t ∧ t.pending = s.pending ∧ t.dev = { s.dev with msu := { m with ship := t.dev.msu.ship } } ∧
        t.dev.msu.ship = { m.ship with freqValid := false, fallback := 0, count := 0, sumSq := 0, rms := t.dev.msu.ship.rms, ratio := t.dev.msu.ship.ratio } ∧
        t.dev.msu.cellBus = m.cellBus ∧ t.dev.msu.busShip = m.busShip ∧
        (m.ship.count = 0 → t.dev.msu.ship.rms = m.ship.rms ∧ t.dev.msu.ship.ratio = m.ship.ratio) ∧
        (m.ship.count ≠ 0 → t.dev.msu.ship.rmsOf m.ship.sumSq m.ship.count m.vRef)) ∧
    (m.cell.fallback < 480 → exec (.fallbackClose .cell) s = .next s) ∧
    (m.bus.fallback < 480 → exec (.fallbackClose .bus) s = .next s) ∧
    (m.ship.fallback < 480 → exec (.fallbackClose .ship) s = .next s)

/-! ### The quay link (chapters 3, 4 and 10) -/

/-- R40, R42, R45, R48, R56, R133, R171: what the beginning of a cycle at the own expiry leaves, and the blocks it never touches. Instants are in half
microseconds from the cycle's beginning (log entry 12), and the second advance at the 500th expiry is a row of its own (log entry 13). Then the superframe
boundary of a member whose lead claim and state do not move at this beginning (R37 to R39, R111, R122 to R124): the ramp step of each state with its
suppression, restoration, SHED, and the low-load, low-generator, release and progress timers; at any other cycle number none of it happens. A progress timer
that ramp done has stopped is not started again by a falling load (log entry 11). -/
def Obligations.CycleTimerBeginsACycle : Prop :=
  (∀ s : State, s.dev.awake →
    ∃ t, exec .cycleTimerExpiry s = .next t ∧ t.pending = s.pending ∧
      t.dev.lnk =
        { s.dev.lnk with
          cycle := (s.dev.lnk.cycle + 1) % 65536
          refInstant := 0
          nextExpiry := 4000
          markSender := false
          prevRef := s.dev.lnk.refSender
          refSender := none
          contending := decide (s.dev.lnk.state = .aligned)
          adopted := false
          faults := if s.dev.lnk.state = .aligned then (false :: s.dev.lnk.faults).take 8 else s.dev.lnk.faults
          loneCount :=
            if s.dev.lnk.state = .aligned then (if s.dev.lnk.heard then 0 else min 50 (s.dev.lnk.loneCount + 1))
            else s.dev.lnk.loneCount
          heard := false
          txAge := s.dev.lnk.txAge + 1
          markAge := s.dev.lnk.markAge + 1
          markOut := none
          bulletinOut := none } ∧
      t.dev.mtr = { s.dev.mtr with cycleCount := s.dev.mtr.cycleCount + 1 } ∧
      t.dev.ntu = { s.dev.ntu with spacing := min 8 (s.dev.ntu.spacing + 1) } ∧
      t.dev.run = s.dev.run ∧ t.dev.pins = s.dev.pins ∧ t.dev.cfg = s.dev.cfg ∧ t.dev.ptb = s.dev.ptb ∧
      t.dev.msu = s.dev.msu ∧ t.dev.rst = s.dev.rst) ∧
  ∀ (s : State) (x : Outlet), s.dev.awake → s.dev.hoc.assignment = some x → s.dev.con x = .closed → s.dev.steady x → s.bounded →
    s.dev.hoc.state.isMember = true ∨ s.dev.hoc.state = .leaving →
    let h := s.dev.hoc
    let y := s.dev.syu
    let boundary := (s.dev.lnk.cycle + 1) % 8 = 0
    let ramp (delta : Int) : Int := max (-3000) (min 3000 (y.fRamp + y.steered s.dev.cfg.rampStep delta))
    let level := (s.dev.hoc.session x).map Session.release
    let above (load : Int) := ∃ r, level = some r ∧ (r : Int) < load
    ∃ t, exec .cycleTimerExpiry s = .next t ∧ t.pending = s.pending ∧ t.dev.hoc.state = h.state ∧ t.dev.hoc.lead = h.lead ∧
      t.dev.ctc = s.dev.ctc ∧ t.dev.syn = s.dev.syn ∧ t.dev.hoc.joinTicks = h.joinTicks + 1 ∧ t.dev.hoc.claimCarried = false ∧
      t.dev.syu = { y with fRamp := t.dev.syu.fRamp } ∧
      (¬boundary → t.dev.syu.fRamp = y.fRamp ∧ t.dev.hoc.progress = h.progress ∧ t.dev.hoc.lowGen = h.lowGen ∧
        t.dev.hoc.lowestGen = h.lowestGen ∧ t.dev.hoc.release = h.release ∧ t.dev.hoc.lowLoad = h.lowLoad ∧ t.dev.hoc.shedDue = h.shedDue) ∧
      (boundary → y.mode ≠ .island →
        (h.state = .leaving → t.dev.syu.fRamp = ramp (-s.dev.cfg.rampStep) ∧
          t.dev.hoc.lowLoad = (if s.dev.msu.p.natAbs * 20 ≤ s.dev.cfg.rating then some (h.lowLoad.getD 500) else none)) ∧
        (h.state = .parallelUp → s.dev.ptb.shipView x = none →
          t.dev.syu.fRamp = y.fRamp ∧ t.dev.hoc.progress = h.progress ∧ t.dev.hoc.lowGen = h.lowGen ∧ t.dev.hoc.lowestGen = h.lowestGen) ∧
        (∀ v, h.state = .parallelUp → s.dev.ptb.shipView x = some v →
          (h.rampDone = false → y.limit = false → above v.load → t.dev.syu.fRamp = ramp s.dev.cfg.rampStep) ∧
          (h.rampDone = true ∨ y.limit = true ∨ ¬above v.load → t.dev.syu.fRamp = y.fRamp) ∧
          (above v.load → t.dev.hoc.lowGen = none) ∧ (¬above v.load → t.dev.hoc.lowGen = some (h.lowGen.getD 2000)) ∧
          (h.lowestGen = none → t.dev.hoc.lowestGen = some v.load ∧ t.dev.hoc.progress = h.progress) ∧
          (∀ l, h.lowestGen = some l → v.load ≤ l - 50 → t.dev.hoc.lowestGen = some v.load ∧
            t.dev.hoc.progress = h.progress.map (fun _ => 20000)) ∧
          (∀ l, h.lowestGen = some l → l - 50 < v.load → t.dev.hoc.lowestGen = some l ∧ t.dev.hoc.progress = h.progress)) ∧
        (h.state = .parallelDown →
          (h.lead = true ∨ s.dev.ptb.leadState x ≠ some .releaseWait → t.dev.syu.fRamp = ramp (-s.dev.cfg.rampStep)) ∧
          (h.lead = false → s.dev.ptb.leadState x = some .releaseWait → t.dev.syu.fRamp = y.fRamp) ∧
          (h.lead = true → t.dev.hoc.release = (match level with
            | none => none
            | some r => if s.dev.outletTotal x ≤ r then some (h.release.getD 1000) else none)) ∧
          (h.lead = false → t.dev.hoc.release = h.release)) ∧
        (h.state = .onBus ∨ h.state = .matching ∨ h.state = .parallelHold ∨ h.state = .releaseWait → t.dev.syu.fRamp = y.fRamp)) ∧
      (boundary → h.state = .island ∨ h.state = .departWait →
        (h.lead = true → t.dev.hoc.shedDue =
          (if 0 < s.dev.outletTotal x - s.dev.capacitySum x then some (min 32767 (s.dev.outletTotal x - s.dev.capacitySum x)) else none)) ∧
        (h.lead = false → t.dev.hoc.shedDue = h.shedDue) ∧
        (y.mode = .island → y.run = true → h.leave = none →
          let others := (s.dev.ptb.sharers x).map (fun c => c.2.2.pu)
          let mean := tdiv (others.sum + s.dev.msu.pu) (others.length + 1)
          t.dev.syu.fRamp = ramp (tdiv (s.dev.cfg.dF * mean) 10000 - y.fRamp)) ∧
        (y.run = false → t.dev.syu.fRamp = y.fRamp))

/-- R112 to R114: the judgement of a forming claim at a cycle beginning, with the assigned contactor OPEN. Opposed, it is withdrawn; unopposed and carried by the
own bulletin, it counts, and the third count requests the close. A close that is refused drops the claim, and the cell is ASSIGNED. The entry to ASSIGNED tests
R112 at once, so where its conditions still hold the cell takes a claim anew at count 0 on a DEAD bus without opposition, or is JOINING on a LIVE one (log entry
31). -/
def Obligations.FormingClaimIsJudgedEachCycle : Prop :=
  ∀ (s : State) (x : Outlet), s.dev.awake → s.dev.hoc.state = .forming → s.dev.hoc.assignment = some x → s.dev.con x = .opened →
    let energises : Prop := s.dev.hoc.session x ≠ none ∧ (∃ v, s.dev.ptb.shipView x = some v ∧ v.cableReady = true) ∧
      s.dev.syn.cell.state = .idle ∧ s.dev.lnk.state = .aligned ∧ s.dev.run = .running ∧ s.dev.con (otherOutlet x) = .opened
    let withdrawn (t : State) : Prop := t.dev.ctc = s.dev.ctc ∧ t.dev.hoc.formingCount = 0 ∧ t.dev.hoc.claimCarried = false ∧
      t.dev.hoc.forming = decide (t.dev.hoc.state = .forming) ∧ t.dev.hoc.assignment = some x ∧
      (¬energises ∨ s.dev.msu.busCond = .uncertain → t.dev.hoc.state = .assigned) ∧
      (energises → s.dev.msu.busCond = .live → t.dev.hoc.state = .joining) ∧
      (energises → s.dev.msu.busCond = .dead → t.dev.hoc.state = (if s.dev.opposed x = true then .assigned else .forming))
    ∃ t, exec .cycleTimerExpiry s = .next t ∧ t.pending = s.pending ∧
      (s.dev.opposed x = true → withdrawn t ∧ (s.dev.msu.busCond = .dead → t.dev.hoc.forming = false)) ∧
      (s.dev.opposed x = false → s.dev.hoc.claimCarried = false → t.dev.hoc.state = .forming ∧
        t.dev.hoc.formingCount = s.dev.hoc.formingCount ∧ t.dev.ctc = s.dev.ctc) ∧
      (s.dev.opposed x = false → s.dev.hoc.claimCarried = true → s.dev.hoc.formingCount < 2 → t.dev.hoc.state = .forming ∧
        t.dev.hoc.formingCount = s.dev.hoc.formingCount + 1 ∧ t.dev.ctc = s.dev.ctc) ∧
      (s.dev.opposed x = false → s.dev.hoc.claimCarried = true → 2 ≤ s.dev.hoc.formingCount → s.dev.closeRefusal x = none →
        t.dev.hoc.state = .forming ∧
        t.dev.ctc.get x = ⟨.closing, (s.dev.ctc.get x).auxClosed, .pulse, some s.dev.cfg.closePulse, none, false, true, false⟩ ∧
        t.dev.ctc.get (otherOutlet x) = s.dev.ctc.get (otherOutlet x)) ∧
      (s.dev.opposed x = false → s.dev.hoc.claimCarried = true → 2 ≤ s.dev.hoc.formingCount → s.dev.closeRefusal x ≠ none → withdrawn t)

/-- R117, R118, R120 and Tables 7-4 and 7-5: at a cycle beginning a lead yields to a lower-numbered lead claimant, the first-ranked member claims at the third
cycle without one, and a member without the claim follows the state its lead announces. A cell that follows into DEPART_WAIT with a generator on passes on
to PARALLEL_DOWN by the ship view as it stands at that moment (Table 7-5, log entry 18). -/
def Obligations.LeadIsYieldedClaimedAndFollowed : Prop :=
  ∀ (s : State) (x : Outlet), s.dev.awake → s.dev.hoc.assignment = some x →
    ∃ t, exec .cycleTimerExpiry s = .next t ∧ t.pending = s.pending ∧
      (s.dev.hoc.lead = true → (∃ c ∈ s.dev.ptb.leadClaimants x, c.1 < s.dev.cfg.station) → t.dev.hoc.lead = false) ∧
      (s.dev.hoc.lead = false → s.dev.hoc.state.isMember = true → s.dev.ptb.leadClaimants x = [] → s.dev.ranksFirst x = true →
        s.dev.hoc.leadCount = 2 → t.dev.hoc.lead = true) ∧
      (s.dev.hoc.lead = false → s.dev.hoc.state.isMember = true → s.dev.ptb.leadClaimants x = [] → s.dev.ranksFirst x = true →
        s.dev.hoc.leadCount < 2 → t.dev.hoc.lead = false ∧ t.dev.hoc.leadCount = s.dev.hoc.leadCount + 1) ∧
      (∀ own lead new : HState,
        (own, lead, new) ∈
          [(.onBus, .matching, .matching), (.parallelHold, .parallelUp, .parallelUp), (.parallelUp, .parallelHold, .parallelHold),
            (.parallelUp, .parallelDown, .parallelDown), (.parallelHold, .parallelDown, .parallelDown),
            (.parallelDown, .parallelHold, .parallelHold), (.island, .departWait, .departWait), (.departWait, .parallelDown, .parallelDown)] →
        s.dev.hoc.lead = false → s.dev.hoc.state = own → s.dev.ptb.leadState x = some lead →
        t.dev.hoc.state = (if new = .departWait ∧ s.dev.generatorsOn = true then .parallelDown else new))

/-- R42, R43, R45 and Table 12-1: a contending cell sends a mark that decodes to its cycle number and its station, and raises MARK_CHANGE when
another station marked the cycle before. A cell that does not contend sends nothing. The last is log entry 4. -/
def Obligations.SendMarkPutsAMarkOnTheLine : Prop :=
  ∀ s : State, s.dev.awake →
    (s.dev.lnk.state = .aligned → s.dev.lnk.contending = true → s.dev.cfg.station ≠ 0 → s.dev.cfg.station ≤ 31 →
      s.dev.lnk.cycle ≤ 65535 →
      ∃ (t : State) (b : List Byte), exec .sendMark s = .next t ∧ t.pending = s.pending ∧ b.length = 6 ∧
        decodeMark b = some (s.dev.lnk.cycle, s.dev.cfg.station) ∧
        t.dev =
          { s.dev with
            lnk := { s.dev.lnk with contending := false, markSender := true, refSender := some s.dev.cfg.station, markTx := some b, markAge := 0, markOut := some b }
            ntu := t.dev.ntu } ∧
        ((∃ p, s.dev.lnk.prevRef = some p ∧ p ≠ s.dev.cfg.station) →
          s.dev.ntu.raisedTo s.dev.cfg.enCorr .markChange t.dev.ntu) ∧
        ((s.dev.lnk.prevRef = none ∨ s.dev.lnk.prevRef = some s.dev.cfg.station) → t.dev.ntu = s.dev.ntu)) ∧
    (s.dev.lnk.state ≠ .aligned ∨ s.dev.lnk.contending = false ∨ s.dev.cfg.station = 0 → exec .sendMark s = .next s)

/-- R42, R43, R44, R48: a mark on the line. Another station's carrier that fails its check only stands the cell down. A valid mark inside the window sets the
number, the timing and the reference sender where the cycle has none yet, and is no more than heard as a second one; a cycle that a mark outside the window
began has had its mark (log entry 44). Outside the window it begins a new cycle of its number, in LISTEN and MUTED always, in ALIGNED unless the cycle's
reference sender is not above its sender; an early one is taken in the cycle that its expiry begins. A valid mark in a cycle in which the ALIGNED cell sent
one makes the cycle faulty, and the second faulty one of eight mutes, the second mark adopted neither way; so does the own mark read back otherwise than it was
sent, or with overdrive. A good check word under another first byte is no mark (log entry 17), a cycle cut short leaves no reception waiting (log entry 32),
and instants are in half microseconds from the cycle's beginning (log entry 12). A collision is judged before its mark is weighed for adoption, and inside the window
the mark stays the second one where the collision has just muted the cell (log entry 10). The read-back counts in the cycle in which the own mark began, however
many cycles have begun since (log entry 30). An ALIGNED cell does not contend in a cycle that an adoption has begun (log entry 55). -/
def Obligations.MarkHeardSetsTheCycle : Prop :=
  ∀ (s : State) (bytes : List Byte) (start : Int), s.dev.awake →
    let l := s.dev.lnk
    let heard := exec (.markReceived bytes (.other start)) s
    let standing : Bool := if -16 ≤ start ∧ start ≤ 96 then false else l.contending
    let connected := s.dev.con .a = .closing ∨ s.dev.con .a = .closed ∨ s.dev.con .b = .closing ∨ s.dev.con .b = .closed
    let muted (t : State) := t.pending = s.pending ∧ t.dev.lnk.state = .muted ∧ t.dev.lnk.markSender = false ∧
      t.dev.lnk.contending = false ∧ s.dev.ntu.raisedOnce .duplicateStation t.dev.ntu ∧ t.dev.hoc.lead = false ∧
      t.dev.hoc.state ≠ .forming ∧ (connected → t.dev.hoc.state = .tripped)
    (decodeMark bytes = none → heard = .next { s with dev := { s.dev with lnk := { l with contending := standing } } }) ∧
    (∀ n k : Nat, decodeMark bytes = some (n, k) →
      (start < l.nextExpiry - 16 → l.markSender = false →
        (-16 ≤ start → start ≤ 96 → l.adopted = false → l.refSender = none →
          ∃ t, heard = .next t ∧ t.pending = s.pending ∧
            t.dev = { s.dev with lnk := t.dev.lnk, syu := t.dev.syu, hoc := t.dev.hoc, freeIdx := t.dev.freeIdx } ∧
            t.dev.lnk = { l with
              cycle := n, refInstant := start - 3 * k, nextExpiry := start - 3 * k + 4000, refSender := some k, adopted := true,
              contending := false, silenceCount := 0 } ∧
            (¬(n ≠ l.cycle ∧ n % 8 = 0 ∧ l.cycle % 8 ≠ 0) → t.dev.syu = s.dev.syu ∧ t.dev.hoc = s.dev.hoc)) ∧
        (-16 ≤ start → start ≤ 96 → l.adopted = true ∨ l.refSender ≠ none →
          heard = .next { s with dev := { s.dev with lnk := { l with contending := false } } }) ∧
        ((start < -16 ∨ 96 < start) →
          (l.state ≠ .aligned ∨ l.refSender = none ∨ ∃ r, l.refSender = some r ∧ k < r) →
          ∃ t, heard = .next t ∧ t.pending = s.pending ∧ t.dev.lnk.state = l.state ∧
            t.dev.lnk.cycle = n ∧ t.dev.lnk.refInstant = -12 - 3 * k ∧ t.dev.lnk.nextExpiry = 3988 - 3 * k ∧
            t.dev.lnk.refSender = some k ∧ t.dev.lnk.prevRef = l.refSender ∧ t.dev.lnk.adopted = true ∧
            t.dev.lnk.contending = false ∧ t.dev.lnk.silenceCount = 0 ∧ t.dev.lnk.rx = none ∧
            t.dev.mtr = { s.dev.mtr with cycleCount := s.dev.mtr.cycleCount + 1 } ∧ t.dev.run = s.dev.run ∧
            t.dev.cfg = s.dev.cfg ∧ t.dev.ptb = s.dev.ptb ∧ t.dev.msu = s.dev.msu ∧ t.dev.rst = s.dev.rst) ∧
        ((start < -16 ∨ 96 < start) → l.state = .aligned → (∃ r, l.refSender = some r ∧ r ≤ k) → heard = .next s)) ∧
      (start < l.nextExpiry - 16 → l.markSender = true → l.state = .aligned → l.refSender = some s.dev.cfg.station →
        ((-16 ≤ start ∧ start ≤ 96) ∨ s.dev.cfg.station ≤ k →
          (true ∉ l.faults.tail.take 7 →
            heard = .next { s with dev := { s.dev with lnk := { l with
              contending := standing, faults := (true :: l.faults.tail).take 8 } } }) ∧
          (-16 ≤ start → start ≤ 96 → true ∈ l.faults.tail.take 7 →
            ∃ t, heard = .next t ∧ muted t ∧ t.dev.lnk.cycle = l.cycle ∧ t.dev.lnk.nextExpiry = l.nextExpiry ∧
              t.dev.lnk.refSender = l.refSender ∧ t.dev.lnk.adopted = l.adopted)) ∧
        ((start < -16 ∨ 96 < start) → (k < s.dev.cfg.station ∨ true ∈ l.faults.tail.take 7) →
          ∃ t, heard = .next t ∧ t.pending = s.pending ∧ t.dev.lnk.cycle = n ∧ t.dev.lnk.nextExpiry = 3988 - 3 * k ∧
            t.dev.lnk.refSender = some k ∧ t.dev.lnk.markSender = false ∧
            t.dev.lnk.state = (if true ∈ l.faults.tail.take 7 then .muted else .aligned) ∧
            (true ∈ l.faults.tail.take 7 → s.dev.ntu.raisedOnce .duplicateStation t.dev.ntu) ∧
            (true ∉ l.faults.tail.take 7 → t.dev.lnk.faults = (false :: true :: l.faults.tail).take 8))) ∧
      (l.nextExpiry - 16 ≤ start →
        ∃ t, heard = .next t ∧ t.pending = s.pending ∧ t.dev.lnk.state = l.state ∧
          t.dev.lnk.cycle = n ∧ t.dev.lnk.refInstant = -12 - 3 * k ∧ t.dev.lnk.nextExpiry = 3988 - 3 * k ∧
          t.dev.lnk.refSender = some k ∧ t.dev.lnk.prevRef = l.refSender ∧ t.dev.lnk.adopted = true ∧
          t.dev.mtr = { s.dev.mtr with cycleCount := s.dev.mtr.cycleCount + 1 } ∧ t.dev.run = s.dev.run ∧
          t.dev.cfg = s.dev.cfg ∧ t.dev.ptb = s.dev.ptb ∧ t.dev.msu = s.dev.msu ∧ t.dev.rst = s.dev.rst)) ∧
    ∀ drive : Bool,
      (l.markTx = none → exec (.markReceived bytes (.own drive)) s = .next s) ∧
      (∀ sent, l.markTx = some sent →
        ((l.state ≠ .aligned ∨ (bytes = sent ∧ drive = false)) →
          exec (.markReceived bytes (.own drive)) s = .next { s with dev := { s.dev with lnk := { l with markTx := none } } }) ∧
        (l.state = .aligned → bytes ≠ sent ∨ drive = true → l.markAge = 0 →
          (true ∉ l.faults.tail.take 7 →
            exec (.markReceived bytes (.own drive)) s =
              .next { s with dev := { s.dev with lnk := { l with markTx := none, faults := (true :: l.faults.tail).take 8 } } }) ∧
          (true ∈ l.faults.tail.take 7 →
            ∃ t, exec (.markReceived bytes (.own drive)) s = .next t ∧ muted t ∧ t.dev.lnk.markTx = none)) ∧
        (l.state = .aligned → bytes ≠ sent ∨ drive = true →
          let judged := ((l.faults ++ List.replicate (l.markAge + 1 - l.faults.length) false).set l.markAge true).take 8
          (judged.count true < 2 → exec (.markReceived bytes (.own drive)) s =
            .next { s with dev := { s.dev with lnk := { l with markTx := none, faults := judged } } }) ∧
          (2 ≤ judged.count true →
            ∃ t, exec (.markReceived bytes (.own drive)) s = .next t ∧ muted t ∧ t.dev.lnk.markTx = none ∧ t.dev.lnk.faults = judged)))

/-- R47, R56: the window's close counts silence in LISTEN, the 25th such cycle aligns a lone cell, and the 50th silent cycle in ALIGNED raises
LINK_SILENT once for the run. A command with nothing due leaves the part as it is (log entries 4 and 13). -/
def Obligations.SilenceAlignsAndIsReported : Prop :=
  ∀ s : State, s.dev.awake →
    exec .markWindowClose s =
      .next { s with dev := { s.dev with lnk := { s.dev.lnk with
        contending := false
        silenceCount :=
          if s.dev.lnk.state = .listen ∧ s.dev.lnk.adopted = false then min 25 (s.dev.lnk.silenceCount + 1)
          else s.dev.lnk.silenceCount } } } ∧
    (s.dev.lnk.state = .listen → s.dev.lnk.silenceCount = 25 →
      ∃ t, exec .silenceCountExpiry s = .next t ∧ t.pending = s.pending ∧
        t.dev = { s.dev with lnk := t.dev.lnk, syu := t.dev.syu, syn := t.dev.syn, hoc := t.dev.hoc } ∧
        t.dev.lnk = { s.dev.lnk with state := .aligned, faults := [], loneCount := 0, loneReported := false, contending := false }) ∧
    (s.dev.lnk.state ≠ .listen ∨ s.dev.lnk.silenceCount ≠ 25 → exec .silenceCountExpiry s = .next s) ∧
    (s.dev.lnk.state = .aligned → s.dev.lnk.loneCount = 50 → s.dev.lnk.loneReported = false →
      ∃ t, exec .loneCountExpiry s = .next t ∧ t.pending = s.pending ∧
        t.dev = { s.dev with lnk := { s.dev.lnk with loneReported := true }, ntu := t.dev.ntu } ∧
        s.dev.ntu.raisedTo s.dev.cfg.enNonFatal .linkSilent t.dev.ntu) ∧
    (s.dev.lnk.state ≠ .aligned ∨ s.dev.lnk.loneCount ≠ 50 ∨ s.dev.lnk.loneReported = true → exec .loneCountExpiry s = .next s)

/-- R50, R51, R113, R178 and Table 12-2: the own bulletin has 58 bytes with a good check word, the own station in its header and the CELL body as the fields
stand, and one annex of at most 32 bytes; its assembly leaves every block but the link's records, the granted item's place and SHED. Nothing is
assembled outside ALIGNED (log entry 4). -/
def Obligations.OwnBulletinIsAssembledWhole : Prop :=
  ∀ s : State, s.dev.awake →
    (s.dev.lnk.state = .aligned → s.dev.cfg.station ≠ 0 → s.dev.cfg.station ≤ 31 →
      (∀ j i, s.dev.rst.job = some j → j.ready = some (.record i) → i.length ≤ 32) →
      ∃ (t : State) (b : List Byte), exec .ownBulletinAssembly s = .next t ∧ t.pending = s.pending ∧
        t.dev.lnk = { s.dev.lnk with tx := some b, txAge := 0, bulletinOut := some b } ∧
        b.length = 58 ∧ crc16Good b 58 = true ∧ (byteAt b 0).toNat = s.dev.cfg.station ∧ byteAt b 1 = 1 ∧
        byteAt b 3 = outletCode s.dev.hoc.assignment ∧ bulletinBody b = s.dev.cellBody ∧
        t.dev = { s.dev with lnk := t.dev.lnk, hoc := { s.dev.hoc with shedDue := none, claimCarried := s.dev.hoc.forming }, rst := t.dev.rst, ntu := t.dev.ntu } ∧
        t.dev.rst.mem = s.dev.rst.mem) ∧
    (s.dev.lnk.state ≠ .aligned ∨ s.dev.cfg.station = 0 → exec .ownBulletinAssembly s = .next s)

/-- R104, R123, R124, R161, R170, R171 and Table 12-6: the one annex of a bulletin, by the arbiter's order: an outlet announcement of the lead, else the oldest
reply, else the oldest notice, else the collection's ready item, else METER after 8 cycles, else NONE. Each granted item leaves its queue; a granted RECORD
counts against the job, an END and the last RECORD close it, and a job that stays open reads again once the engine is IDLE. A cell that is unassigned, not the
lead, or a lead with nothing due, announces nothing for its outlet. -/
def Obligations.AnnexArbiterGrantsInOrder : Prop :=
  ∀ s : State, s.dev.awake → s.dev.lnk.state = .aligned → s.dev.cfg.station ≠ 0 →
    ∃ (t : State) (b : List Byte), exec .ownBulletinAssembly s = .next t ∧ t.dev.lnk.bulletinOut = some b ∧
      (∀ x, s.dev.hoc.assignment = some x → s.dev.hoc.lead = true →
        (s.dev.hoc.state = .matching → s.dev.syn.ship.state = .met →
          byteAt b 2 = 1 ∧ byteAt b 24 = outletCode (some x) ∧ t.dev.ntu = s.dev.ntu ∧ t.dev.rst = s.dev.rst) ∧
        (s.dev.hoc.state = .releaseWait →
          byteAt b 2 = 2 ∧ byteAt b 24 = outletCode (some x) ∧ t.dev.ntu = s.dev.ntu ∧ t.dev.rst = s.dev.rst) ∧
        (s.dev.hoc.state = .island ∨ s.dev.hoc.state = .departWait → s.dev.hoc.shedDue ≠ none →
          byteAt b 2 = 3 ∧ byteAt b 24 = outletCode (some x) ∧ t.dev.ntu = s.dev.ntu ∧ t.dev.rst = s.dev.rst)) ∧
      (¬s.dev.announces →
        (∀ p ps, s.dev.ntu.replies = p :: ps → p.result ≠ none →
          byteAt b 2 = 4 ∧ byteAt b 25 = p.tag ∧ t.dev.ntu = { s.dev.ntu with replies := ps } ∧ t.dev.rst = s.dev.rst) ∧
        (∀ k ks, s.dev.ntu.replies = [] → s.dev.ntu.queue = k :: ks →
          byteAt b 2 = 5 ∧ (byteAt b 24).toNat = k.idx.val + 1 ∧ t.dev.ntu = { s.dev.ntu with queue := ks } ∧ t.dev.rst = s.dev.rst) ∧
        (s.dev.ntu.replies = [] → s.dev.ntu.queue = [] →
          (∀ j r, s.dev.rst.job = some j → j.ready = some r →
            let reads (left : Nat) :=
              (s.dev.rst.engine ≠ .idle → t.dev.rst = { s.dev.rst with job := some ⟨j.requester, j.next, left, none⟩ }) ∧
                (s.dev.rst.engine = .idle → ∃ g, t.dev.rst.job = some g ∧ g.requester = j.requester ∧ g.remaining = left ∧ g.ready ≠ none)
            match r with
            | .record _ => byteAt b 2 = 6 ∧ (j.remaining ≤ 1 → t.dev.rst = { s.dev.rst with job := none }) ∧
                (1 < j.remaining → reads (j.remaining - 1))
            | .gone _ => byteAt b 2 = 7 ∧ reads j.remaining
            | .finish _ => byteAt b 2 = 8 ∧ t.dev.rst = { s.dev.rst with job := none }) ∧
          (s.dev.rst.job.bind Job.ready = none → s.dev.ntu.spacing = 8 →
            byteAt b 2 = 9 ∧ t.dev.ntu = { s.dev.ntu with spacing := 0 } ∧ t.dev.rst = s.dev.rst) ∧
          (s.dev.rst.job.bind Job.ready = none → s.dev.ntu.spacing ≠ 8 →
            byteAt b 2 = 0 ∧ t.dev.ntu = s.dev.ntu ∧ t.dev.rst = s.dev.rst)))

/-- Tables 12-2 and 12-3: a CELL body read back from the own bulletin, whatever its annex, gives the fields the cell holds, when each lies in the range
that its chapter gives it. -/
def Obligations.CellBodyDecodesToTheFieldsSent : Prop :=
  ∀ (d : Dev) (a : Annex), -32767 ≤ d.msu.p → d.msu.p ≤ 32767 → -32767 ≤ d.msu.q → d.msu.q ≤ 32767 →
    -32767 ≤ d.msu.pu → d.msu.pu ≤ 32767 → -3000 ≤ d.syu.fRamp → d.syu.fRamp ≤ 3000 → 500 ≤ d.cfg.rating → d.cfg.rating ≤ 4000 →
    d.hoc.joinAge ≤ 65535 → (∀ f, d.msu.bus.validFreq = some f → 40000 ≤ f ∧ f ≤ 69999) →
    decodeCell (bulletinBody (d.bulletin a)) =
      some
        { outlet := d.hoc.assignment
          hstate := d.hoc.state
          conA := d.ctc.a.state
          conB := d.ctc.b.state
          p := d.msu.p
          pu := d.msu.pu
          fRamp := d.syu.fRamp
          rating := d.cfg.rating
          joinAge := d.hoc.joinAge
          forming := d.hoc.forming
          lead := d.hoc.lead
          leaving := d.hoc.leave.isSome }

/-- R46, R48, R49: the end of the own slot. In LISTEN a duplicate heard mutes the cell, a marked cycle with a silent slot counts and the eighth aligns, any
other clears the count. In ALIGNED a read-back that matches leaves the fault record; one that does not makes the cycle faulty, and the second
of eight mutes. MUTED and station 0 take nothing from it. What station 0 takes from its slot is log entry 4. -/
def Obligations.OwnSlotEndAlignsOrMutes : Prop :=
  ∀ (s : State) (heard : List Byte) (drive : Bool), s.dev.awake →
    let watched : Lnk := { s.dev.lnk with tx := none, ownCarrier := false, ownDuplicate := false }
    (s.dev.cfg.station = 0 → exec (.ownSlotEnd heard drive) s = .next s) ∧
    (s.dev.cfg.station ≠ 0 →
      (s.dev.lnk.state = .muted → exec (.ownSlotEnd heard drive) s = .next { s with dev := { s.dev with lnk := watched } }) ∧
      (s.dev.lnk.state = .listen → s.dev.lnk.ownDuplicate = true →
        ∃ t, exec (.ownSlotEnd heard drive) s = .next t ∧ t.pending = s.pending ∧
          t.dev.lnk = { watched with state := .muted, markSender := false, contending := false } ∧
          s.dev.ntu.raisedOnce .duplicateStation t.dev.ntu ∧ t.dev.hoc.lead = false ∧ t.dev.hoc.state ≠ .forming ∧
          ((s.dev.con .a = .closing ∨ s.dev.con .a = .closed ∨ s.dev.con .b = .closing ∨ s.dev.con .b = .closed) →
            t.dev.hoc.state = .tripped)) ∧
      (s.dev.lnk.state = .listen → s.dev.lnk.ownDuplicate = false →
        ((s.dev.lnk.adopted = false ∨ s.dev.lnk.ownCarrier = true) →
          exec (.ownSlotEnd heard drive) s = .next { s with dev := { s.dev with lnk := { watched with alignCount := 0 } } }) ∧
        (s.dev.lnk.adopted = true → s.dev.lnk.ownCarrier = false → s.dev.lnk.alignCount < 7 →
          exec (.ownSlotEnd heard drive) s =
            .next { s with dev := { s.dev with lnk := { watched with alignCount := s.dev.lnk.alignCount + 1 } } }) ∧
        (s.dev.lnk.adopted = true → s.dev.lnk.ownCarrier = false → 7 ≤ s.dev.lnk.alignCount →
          ∃ t, exec (.ownSlotEnd heard drive) s = .next t ∧ t.pending = s.pending ∧
            t.dev.lnk = { watched with
              alignCount := 8, state := .aligned, faults := [], loneCount := 0, loneReported := false, contending := false } ∧
            t.dev = { s.dev with lnk := t.dev.lnk, syu := t.dev.syu, syn := t.dev.syn, hoc := t.dev.hoc })) ∧
      (s.dev.lnk.state = .aligned →
        ((s.dev.lnk.tx = none ∨ (s.dev.lnk.tx = some heard ∧ drive = false ∧ s.dev.lnk.ownCarrier = false)) →
          exec (.ownSlotEnd heard drive) s = .next { s with dev := { s.dev with lnk := watched } }) ∧
        (∀ sent, s.dev.lnk.tx = some sent → s.dev.lnk.txAge = 0 →
          (heard ≠ sent ∨ drive = true ∨ s.dev.lnk.ownCarrier = true) →
          (true ∉ s.dev.lnk.faults.tail.take 7 →
            exec (.ownSlotEnd heard drive) s =
              .next { s with dev := { s.dev with lnk := { watched with faults := (true :: s.dev.lnk.faults.tail).take 8 } } }) ∧
          (true ∈ s.dev.lnk.faults.tail.take 7 →
            ∃ t, exec (.ownSlotEnd heard drive) s = .next t ∧ t.pending = s.pending ∧ t.dev.lnk.state = .muted ∧
              t.dev.lnk.markSender = false ∧ s.dev.ntu.raisedOnce .duplicateStation t.dev.ntu ∧
              ((s.dev.con .a = .closing ∨ s.dev.con .a = .closed ∨ s.dev.con .b = .closing ∨ s.dev.con .b = .closed) →
                t.dev.hoc.state = .tripped)))))

/-- R41, R46 to R48, R52, R53: a reception that ends. Attributed to no slot it is disregarded; in the own slot it is watched in LISTEN and before the own
transmission in ALIGNED; in another slot a bad one raises BAD_BULLETIN, a foreign one FOREIGN, and an accepted one waits for the slot's end.
A bulletin that starts more than 4.5 µs into its slot falls across the slot's edge and fails its check; that this is the check of the check word is the model's
reading (log entry 60). -/
def Obligations.ReceptionIsCheckedInOrder : Prop :=
  ∀ (s : State) (bytes : List Byte) (start : Int), s.dev.awake →
    let t0 := start - s.dev.lnk.refInstant
    (∀ k : Nat, 1 ≤ k → k ≤ 31 → 125 * (k : Int) ≤ t0 → t0 ≤ 125 * (k : Int) + 20 → k ≠ s.dev.cfg.station →
      ((crc16Good bytes 58 = false ∨ 125 * (k : Int) + 9 < t0 ∨ (byteAt bytes 0).toNat ≠ k ∨
          ¬(1 ≤ (byteAt bytes 1).toNat ∧ (byteAt bytes 1).toNat ≤ 3)) →
        ∃ t, exec (.bulletinReceived bytes start) s = .next t ∧ t.pending = s.pending ∧ s.dev.onlyRaised .badBulletin t.dev) ∧
      (crc16Good bytes 58 = true → t0 ≤ 125 * (k : Int) + 9 → (byteAt bytes 0).toNat = k → 1 ≤ (byteAt bytes 1).toNat →
        (byteAt bytes 1).toNat ≤ 3 →
        (s.dev.cfg.accept.getLsbD k = false →
          ∃ t, exec (.bulletinReceived bytes start) s = .next t ∧ t.pending = s.pending ∧ s.dev.onlyRaised .foreign t.dev) ∧
        (s.dev.cfg.accept.getLsbD k = true →
          exec (.bulletinReceived bytes start) s = .next { s with dev := { s.dev with lnk := { s.dev.lnk with rx := some (k, bytes) } } }))) ∧
    (1 ≤ s.dev.cfg.station → s.dev.cfg.station ≤ 31 → 125 * (s.dev.cfg.station : Int) ≤ t0 → t0 ≤ 125 * (s.dev.cfg.station : Int) + 20 →
      (s.dev.lnk.state = .muted → exec (.bulletinReceived bytes start) s = .next s) ∧
      (s.dev.lnk.state = .aligned →
        exec (.bulletinReceived bytes start) s =
          .next { s with dev := { s.dev with lnk := { s.dev.lnk with
            ownCarrier := if t0 < 125 * (s.dev.cfg.station : Int) + 4 then true else s.dev.lnk.ownCarrier } } }) ∧
      (s.dev.lnk.state = .listen →
        exec (.bulletinReceived bytes start) s =
          .next { s with dev := { s.dev with lnk := { s.dev.lnk with
            ownCarrier := true
            ownDuplicate :=
              s.dev.lnk.ownDuplicate ||
                (crc16Good bytes 58 && decide (t0 ≤ 125 * (s.dev.cfg.station : Int) + 9) &&
                  (byteAt bytes 0).toNat == s.dev.cfg.station) } } })) ∧
    ((∀ k : Nat, 1 ≤ k → k ≤ 31 → ¬(125 * (k : Int) ≤ t0 ∧ t0 ≤ 125 * (k : Int) + 20)) →
      exec (.bulletinReceived bytes start) s = .next s)

/-- R54, R62, R63, R70: a station slot that ends with no accepted bulletin ages that station's entry alone. At the third missed outcome a LIVE entry turns
STALE, at the fiftieth a STALE one ABSENT, its place in the order memory empties, and PEER_LOST tells of a member of the assigned outlet. -/
def Obligations.MissedSlotAgesTheEntry : Prop :=
  ∀ (s : State) (k : Nat) (pins : Pins), s.dev.awake → 1 ≤ k → k ≤ 31 → k ≠ s.dev.cfg.station → (∀ b, s.dev.lnk.rx ≠ some (k, b)) →
    let e := s.dev.ptb.get k
    ∃ t, exec (.slotEnd ⟨k, pins⟩) s = .next t ∧ t.pending = s.pending ∧
      (∀ j, 1 ≤ j → j ≤ 31 → j ≠ k → t.dev.ptb.get j = s.dev.ptb.get j) ∧ (t.dev.ptb.get k).body = e.body ∧
      (e.state = .absent → t.dev.ptb.get k = e) ∧
      (e.state = .live → (t.dev.ptb.get k).missed = min 50 (e.missed + 1) ∧
        (t.dev.ptb.get k).state = (if e.missed + 1 < 3 then .live else .stale)) ∧
      (e.state = .stale → (t.dev.ptb.get k).missed = min 50 (e.missed + 1) ∧
        (t.dev.ptb.get k).state = (if e.missed + 1 < 50 then .stale else .absent)) ∧
      (let member := ∃ x b, s.dev.hoc.assignment = some x ∧ e.body = .cell b ∧ b.outlet = some x ∧ b.con x = .closed
       (e.state = .stale → 50 ≤ e.missed + 1 → t.dev.lnk.remembered k = none ∧ (member → s.dev.ntu.raisedOnce .peerLost t.dev.ntu)) ∧
         (e.state ≠ .stale ∨ e.missed + 1 < 50 ∨ ¬member → t.dev.ntu.entry .peerLost = s.dev.ntu.entry .peerLost)) ∧
      t.dev.lnk.rx = none ∧ t.dev.lnk.state = s.dev.lnk.state ∧ t.dev.run = s.dev.run ∧ t.dev.cfg = s.dev.cfg ∧
      t.dev.ctc = s.dev.ctc ∧ t.dev.msu = s.dev.msu ∧ t.dev.mtr = s.dev.mtr ∧ t.dev.rst = s.dev.rst

/-- R54, R56, R59, R60: a CELL bulletin accepted in a slot. A body in range is stored whole and its entry is LIVE; one out of range is rejected with
BAD_BULLETIN, and the entry ages (the order of BAD_BULLETIN and PEER_LOST in the queue is log entry 45). Either clears the lone count. Then a VESSEL bulletin
(R61, R70, R71, R112, R113, R115, R119, R120, R125 and Table 7-5): stored or rejected alike; VESSEL_CONFLICT where its station appears among the outlet's adapters
beside another; and the ship view taken by the handover controller: nothing in LEAVING, the facts it acts on replaced, the breaker and generator events of a
member, FORMING and JOINING withdrawn while the contactor is OPEN and the cable is not ready. The first view after facts of none raises no event (log entry 9).
JOINING is withdrawn by the cable as it stands at any ship-view notice with the contactor OPEN, one after a failed close too (log entry 50). -/
def Obligations.CellBulletinIsStored : Prop :=
  (∀ (s : State) (k : Nat) (pins : Pins) (bytes : List Byte), s.dev.awake → 1 ≤ k → k ≤ 31 → k ≠ s.dev.cfg.station →
    s.dev.lnk.rx = some (k, bytes) → byteAt bytes 1 = 1 →
    ∃ t, exec (.slotEnd ⟨k, pins⟩) s = .next t ∧ t.pending = s.pending ∧ t.dev.lnk.loneCount = 0 ∧ t.dev.lnk.heard = true ∧
      (∀ j, 1 ≤ j → j ≤ 31 → j ≠ k → t.dev.ptb.get j = s.dev.ptb.get j) ∧
      (∀ b, decodeCell (bulletinBody bytes) = some b → t.dev.ptb.get k = ⟨.live, 0, .cell b⟩) ∧
      (decodeCell (bulletinBody bytes) = none →
        s.dev.ntu.raisedOnce .badBulletin t.dev.ntu ∧ (t.dev.ptb.get k).body = (s.dev.ptb.get k).body ∧
          ((s.dev.ptb.get k).state = .live → (t.dev.ptb.get k).missed = min 50 ((s.dev.ptb.get k).missed + 1))) ∧
      t.dev.run = s.dev.run ∧ t.dev.cfg = s.dev.cfg ∧ t.dev.ctc = s.dev.ctc ∧ t.dev.msu = s.dev.msu ∧ t.dev.mtr = s.dev.mtr ∧
      t.dev.rst = s.dev.rst) ∧
  ∀ (s : State) (k : Nat) (pins : Pins) (bytes : List Byte), s.dev.awake → 1 ≤ k → k ≤ 31 → k ≠ s.dev.cfg.station →
    s.dev.lnk.rx = some (k, bytes) → byteAt bytes 1 = 3 →
    let old := s.dev.ptb.get k
    let adapter (e : PeerEntry) (x : Outlet) := e.state ≠ .absent ∧ ∃ g, e.body = .vessel x g
    let st := s.dev.hoc.state
    ∃ t, exec (.slotEnd ⟨k, pins⟩) s = .next t ∧ t.pending = s.pending ∧ t.dev.lnk.loneCount = 0 ∧ t.dev.lnk.heard = true ∧
      (∀ j, 1 ≤ j → j ≤ 31 → j ≠ k → t.dev.ptb.get j = s.dev.ptb.get j) ∧
      (∀ y f, decodeVessel (bulletinBody bytes) = some (y, f) → t.dev.ptb.get k = ⟨.live, 0, .vessel y f⟩ ∧
        (let appears := ¬adapter old y ∧ ∃ j, 1 ≤ j ∧ j ≤ 31 ∧ j ≠ k ∧ adapter (s.dev.ptb.get j) y
         (appears → t.dev.ntu.entry .vesselConflict = ⟨true, min 255 ((s.dev.ntu.entry .vesselConflict).count + 1)⟩) ∧
           (¬appears → t.dev.ntu.entry .vesselConflict = s.dev.ntu.entry .vesselConflict))) ∧
      (decodeVessel (bulletinBody bytes) = none →
        s.dev.ntu.raisedOnce .badBulletin t.dev.ntu ∧ (t.dev.ptb.get k).body = old.body ∧
          (old.state = .live → (t.dev.ptb.get k).missed = min 50 (old.missed + 1))) ∧
      (st = .leaving → t.dev.hoc = s.dev.hoc ∧ t.dev.syu = s.dev.syu ∧ t.dev.syn = s.dev.syn) ∧
      (∀ x, s.dev.hoc.assignment = some x → st ≠ .leaving →
        t.dev.hoc.assignment = some x ∧
        (t.dev.ptb.shipView x = none → t.dev.hoc.acted = s.dev.hoc.acted) ∧
        (∀ v, t.dev.ptb.shipView x = some v → t.dev.hoc.acted = some v) ∧
        (st.isMember = true →
          (t.dev.ptb.shipView x = none → t.dev.hoc = s.dev.hoc ∧ t.dev.syu = s.dev.syu) ∧
          ∀ v, t.dev.ptb.shipView x = some v →
            (s.dev.hoc.acted = none → t.dev.hoc.state = st ∧ t.dev.syu = s.dev.syu) ∧
            ∀ o, s.dev.hoc.acted = some o → s.dev.shipTakenFrom x o v t.dev) ∧
        (st = .forming ∨ st = .joining → s.dev.con x = .opened →
          (∀ v, t.dev.ptb.shipView x = some v → v.cableReady = false) → t.dev.hoc.state = .assigned)) ∧
      t.dev.run = s.dev.run ∧ t.dev.cfg = s.dev.cfg ∧ t.dev.ctc = s.dev.ctc ∧ t.dev.msu = s.dev.msu ∧ t.dev.mtr = s.dev.mtr ∧
      t.dev.rst = s.dev.rst

/-- R69, R133, R134: the time of a TERMINAL bulletin without an order. Stored at the lowest-numbered LIVE terminal it sets the meter's day, second and cycle
count and makes time valid; a difference above 500 cycles of valid time is a step, told by TIME_STEP. Another terminal's time is handed nowhere. Then an order
in a TERMINAL bulletin (R54, R55, R60, R179 and Table 12-4), its body in range or rejected: the slot end does what it does with the same bytes and no order (log
entries 28, 46 and 47), and then what the order's own row does, with the sender's slot, tag and target (log entry 6); a RESTART finds the pins of that moment (R173,
log entry 14). -/
def Obligations.TimeSourceSetsLocalTime : Prop :=
  (∀ (s : State) (k : Nat) (pins : Pins) (bytes : List Byte) (b : TimeBody), s.dev.awake → 1 ≤ k → k ≤ 31 → k ≠ s.dev.cfg.station →
    s.dev.lnk.rx = some (k, bytes) → byteAt bytes 1 = 2 → byteAt bytes 11 = 0 → decodeTime (bulletinBody bytes) = some b →
    ∃ t, exec (.slotEnd ⟨k, pins⟩) s = .next t ∧ t.pending = s.pending ∧ t.dev.ptb.get k = ⟨.live, 0, .terminal b⟩ ∧
      ((∀ j, j < k → ¬((s.dev.ptb.get j).state = .live ∧ ∃ c, (s.dev.ptb.get j).body = .terminal c)) →
        t.dev.mtr.day = b.day ∧ t.dev.mtr.second = b.second ∧ t.dev.mtr.cycleCount = b.cycle ∧ t.dev.mtr.timeValid = true ∧
        (s.dev.mtr.timeValid = true →
          500 < (((b.day * 86400 + b.second) * 500 + b.cycle : Nat)
            - ((s.dev.mtr.day * 86400 + s.dev.mtr.second) * 500 + s.dev.mtr.cycleCount : Nat) : Int).natAbs →
          s.dev.ntu.raisedOnce .timeStep t.dev.ntu)) ∧
      ((∃ j, j < k ∧ (s.dev.ptb.get j).state = .live ∧ ∃ c, (s.dev.ptb.get j).body = .terminal c) → t.dev.mtr = s.dev.mtr) ∧
      t.dev.run = s.dev.run ∧ t.dev.cfg = s.dev.cfg ∧ t.dev.ctc = s.dev.ctc ∧ t.dev.rst.mem = s.dev.rst.mem) ∧
  ∀ (s : State) (k : Nat) (pins : Pins) (bytes : List Byte) (c : Instr), s.dev.awake → 1 ≤ k → k ≤ 31 →
    k ≠ s.dev.cfg.station → s.dev.lnk.rx = some (k, bytes) → byteAt bytes 1 = 2 → orderRow k bytes pins = some c →
    let unordered : State := { s with dev := { s.dev with lnk := { s.dev.lnk with rx := some (k, bytes.set 11 0) } } }
    ∃ u t, exec (.slotEnd ⟨k, pins⟩) unordered = .next u ∧ exec c u = .next t ∧ exec (.slotEnd ⟨k, pins⟩) s = .next t ∧
      t.pending = s.pending ∧ u.pending = s.pending ∧ u.dev.run = s.dev.run ∧ u.dev.cfg = s.dev.cfg ∧ u.dev.ctc = s.dev.ctc ∧
      u.dev.ntu.replies = s.dev.ntu.replies ∧ (∀ j, 1 ≤ j → j ≤ 31 → j ≠ k → u.dev.ptb.get j = s.dev.ptb.get j) ∧
      ∀ b, decodeTime (bulletinBody bytes) = some b →
        u.dev.ptb.get k = ⟨.live, 0, .terminal b⟩ ∧
        u.dev.lnk = { s.dev.lnk with rx := none, heard := true, loneCount := 0, loneReported := false } ∧
        ((∀ j, j < k → ¬((s.dev.ptb.get j).state = .live ∧ ∃ c, (s.dev.ptb.get j).body = .terminal c)) → u.dev.mtr.timeValid = true) ∧
        ((∀ x f, (s.dev.ptb.get k).body ≠ .vessel x f) → u.dev.hoc = s.dev.hoc ∧ u.dev.syu = s.dev.syu ∧ u.dev.syn = s.dev.syn)

/-! ### The order path and the orders (chapters 3, 5, 7 to 11) -/

/-- R55: an order for another target, or a repeat of the remembered tag of its sender, leaves no trace. One that finds no free reply place leaves its tag
remembered and raises ORDER_OVERRUN. -/
def Obligations.OrderPathDisregardsAndDiscards : Prop :=
  ∀ (c : Instr) (h : OrderHead) (s : State), s.dev.awake → c.head = some h →
    ((h.target.toNat ≠ 0 ∧ h.target.toNat ≠ s.dev.cfg.station) ∨ s.dev.lnk.remembered h.sender = some h.tag →
      exec c s = .next s) ∧
    (h.target.toNat = 0 ∨ h.target.toNat = s.dev.cfg.station → s.dev.lnk.remembered h.sender ≠ some h.tag →
      4 ≤ s.dev.ntu.replies.length →
      ∃ t, exec c s = .next t ∧ t.pending = s.pending ∧
        t.dev = { s.dev with lnk := s.dev.lnk.remember h.sender (some h.tag), ntu := t.dev.ntu } ∧
        s.dev.ntu.raisedTo s.dev.cfg.enCorr .orderOverrun t.dev.ntu)

/-- R177, R55, R176: what the order path answers without an effect. In SHUTDOWN every order it takes is refused STATE; a kind that Table 3-4 does not list
is refused UNKNOWN; RESTART in a member state or with a contactor not OPEN is refused STATE. -/
def Obligations.OrdersRefusedByRunStateAndKind : Prop :=
  ∀ (s : State) (h : OrderHead),
    (∀ (c : Instr) (k : OrderKind), s.dev.run = .shutdown → c.head = some h → orderKindOf c = some k →
      (h.target.toNat = 0 ∨ h.target.toNat = s.dev.cfg.station) → s.dev.lnk.remembered h.sender ≠ some h.tag →
      s.dev.ntu.replies.length < 4 → s.dev.ntu.answered →
      exec c s = .next { s with dev := s.dev.answered k h (.refused .state) }) ∧
    (s.dev.takes h →
      (∀ kind, exec (.unknownOrder h kind) s = .next { s with dev := s.dev.answered (.unknown kind) h (.refused .unknown) }) ∧
      (∀ pins, (s.dev.con .a ≠ .opened ∨ s.dev.con .b ≠ .opened ∨ s.dev.hoc.state.isMember = true) →
        exec (.restart h pins) s = .next { s with dev := s.dev.answered .restart h (.refused .state) }))

/-- R109, R178, R101, R6, R111: ASSIGN, its tests in their order, from OFF, and to the outlet already assigned. In LEAVING it replaces the destination of the leave
and leaves the synchroniser as it is (log entry 27). -/
def Obligations.AssignIsTestedAndTaken : Prop :=
  ∀ (s : State) (h : OrderHead) (code : Byte), s.dev.takes h →
    let refused (r : Reason) := exec (.assign h code) s = .next { s with dev := s.dev.answered .assign h (.refused r) }
    (code ≠ 1 ∧ code ≠ 2 → refused .range) ∧
    ∀ x, outletOfCode code = some x →
      (s.dev.cfg.configBad = true → refused .state) ∧
      (s.dev.cfg.configBad = false → s.dev.con .a = .welded ∨ s.dev.con .b = .welded → refused .interlock) ∧
      (s.dev.cfg.configBad = false → s.dev.con .a ≠ .welded → s.dev.con .b ≠ .welded →
        (s.dev.hoc.state = .tripped → refused .state) ∧
        (s.dev.hoc.state = .off → s.dev.hoc.assignment = none →
          ∃ t, exec (.assign h code) s = .next t ∧ t.pending = s.pending ∧
            t.dev = { s.dev.answered .assign h .accepted with msu := t.dev.msu, syu := t.dev.syu, syn := t.dev.syn, hoc := t.dev.hoc } ∧
            t.dev.hoc.assignment = some x ∧ t.dev.hoc.state = .assigned ∧ t.dev.hoc.acted = s.dev.ptb.shipView x ∧
            t.dev.msu = { s.dev.msu with
              bus := Tracker.start, ship := Tracker.start, cellBus := ⟨false, s.dev.msu.cellBus.value⟩,
              busShip := ⟨false, s.dev.msu.busShip.value⟩, busCond := .uncertain } ∧
            t.dev.syn.cell.state = .idle ∧ t.dev.syn.cell.attempts = 0 ∧ t.dev.syn.cell.backoff = none) ∧
        (s.dev.hoc.assignment = some x → s.dev.hoc.state ≠ .leaving → s.dev.hoc.state ≠ .tripped → s.dev.hoc.state ≠ .assigned →
          exec (.assign h code) s =
            .next { s with dev := { s.dev.answered .assign h .accepted with
              syn := ⟨{ s.dev.syn.cell with
                attempts := 0, state := if s.dev.syn.cell.state = .spent then .idle else s.dev.syn.cell.state }, s.dev.syn.ship⟩ } }) ∧
        (s.dev.hoc.assignment = some x → s.dev.hoc.state = .leaving →
          exec (.assign h code) s =
            .next { s with dev := { s.dev.answered .assign h .accepted with
              hoc := { s.dev.hoc with leave := s.dev.hoc.leave.map (fun l => ⟨some x, l.back⟩) } } }) ∧
        (s.dev.hoc.assignment = some x → s.dev.hoc.state = .assigned →
          ∃ t, exec (.assign h code) s = .next t ∧ t.pending = s.pending ∧
            t.dev = { s.dev.answered .assign h .accepted with syu := t.dev.syu, syn := t.dev.syn, hoc := t.dev.hoc } ∧
            t.dev.hoc.assignment = some x ∧
            (t.dev.hoc.state = .assigned ∨ t.dev.hoc.state = .forming ∨ t.dev.hoc.state = .joining) ∧
            t.dev.syn.cell.state ≠ .spent ∧ t.dev.syn.cell.attempts ≤ 1))

/-- R101, R109, R110, R111: a leave, from UNASSIGN or from ASSIGN to the other outlet, by the handover state of the assigned cell. `dest` is where it leads. In LEAVING
the destination is replaced and the synchroniser otherwise left as it is, which is the model's reading of R101 there (log entry 27). -/
def Obligations.LeaveIsTakenByTheHandoverState : Prop :=
  ∀ (s : State) (h : OrderHead), s.dev.takes h →
    (s.dev.hoc.state = .off → s.dev.hoc.assignment = none →
      ∃ t, exec (.unassign h) s = .next t ∧ t.pending = s.pending ∧ t.dev.hoc.state = .off ∧ t.dev.hoc.assignment = none ∧
        t.dev = { s.dev.answered .unassign h .accepted with syu := t.dev.syu, syn := t.dev.syn, hoc := t.dev.hoc }) ∧
    ∀ (x : Outlet) (c : Instr) (k : OrderKind) (dest : Option Outlet), s.dev.hoc.assignment = some x →
    ((c = .unassign h ∧ k = .unassign ∧ dest = none) ∨
      (∃ code, c = .assign h code ∧ k = .assign ∧ outletOfCode code = some (otherOutlet x) ∧ dest = some (otherOutlet x) ∧
        s.dev.cfg.configBad = false ∧ s.dev.con .a ≠ .welded ∧ s.dev.con .b ≠ .welded)) →
    (s.dev.hoc.state = .leaving →
      exec c s = .next { s with dev := { s.dev.answered k h .accepted with
        hoc := { s.dev.hoc with leave := s.dev.hoc.leave.map (fun l => ⟨dest, l.back⟩) } } }) ∧
    ((s.dev.hoc.state = .assigned ∨ s.dev.hoc.state = .forming ∨ s.dev.hoc.state = .joining) → s.dev.con x ≠ .closed →
      ∃ t, exec c s = .next t ∧ t.pending = s.pending ∧ t.dev.hoc.assignment = dest ∧
        t.dev.hoc.state = (if dest = none then .off else .assigned) ∧ t.dev.hoc.forming = false ∧ t.dev.hoc.lead = false ∧
        (s.dev.ctc.get x).openRequestedFrom s.dev.cfg.openPulse (t.dev.ctc.get x) ∧
        t.dev.ctc.get (otherOutlet x) = s.dev.ctc.get (otherOutlet x) ∧ t.dev.msu.busCond = .uncertain ∧
        t.dev.msu.bus = Tracker.start ∧ t.dev.syn.cell.state = .idle ∧ t.dev.syn.cell.attempts = 0 ∧
        t.dev.lnk = (s.dev.answered k h .accepted).lnk ∧ t.dev.ntu.replies = (s.dev.answered k h .accepted).ntu.replies ∧
        t.dev.cfg = s.dev.cfg ∧ t.dev.ptb = s.dev.ptb ∧ t.dev.rst = s.dev.rst) ∧
    ((s.dev.hoc.state = .onBus ∨ s.dev.hoc.state = .matching) →
      ∃ t, exec c s = .next t ∧ t.pending = s.pending ∧ t.dev.hoc.state = .leaving ∧ t.dev.hoc.assignment = some x ∧
        t.dev.hoc.leave = some ⟨dest, s.dev.hoc.state⟩ ∧ t.dev.hoc.leaveStall = some 30000 ∧ t.dev.hoc.lead = false ∧
        (s.dev.ctc.get x).openRequestedFrom s.dev.cfg.openPulse (t.dev.ctc.get x) ∧
        t.dev.ctc.get (otherOutlet x) = s.dev.ctc.get (otherOutlet x) ∧
        (s.dev.con x = .closed → t.dev.mtr.membership = none) ∧ t.dev.lnk = (s.dev.answered k h .accepted).lnk ∧
        t.dev.ntu.replies = (s.dev.answered k h .accepted).ntu.replies ∧ t.dev.cfg = s.dev.cfg ∧ t.dev.ptb = s.dev.ptb ∧
        t.dev.msu = s.dev.msu ∧ t.dev.rst.mem = s.dev.rst.mem) ∧
    (s.dev.hoc.state.isLoaded = true →
      let alone := s.dev.ptb.members x = [] ∧ s.dev.breakerClosed = true
      let short := (s.dev.capacitySum x - s.dev.cfg.rating) * 10 < s.dev.outletTotal x * 11
      (alone → exec c s = .next { s with dev := s.dev.answered k h (.refused .state) }) ∧
      (¬alone → short → exec c s = .next { s with dev := s.dev.answered k h (.refused .capacity) }) ∧
      (¬alone → ¬short →
        ∃ t, exec c s = .next t ∧ t.pending = s.pending ∧
          t.dev = { s.dev.answered k h .accepted with syu := t.dev.syu, syn := t.dev.syn, hoc := t.dev.hoc } ∧
          t.dev.hoc.state = .leaving ∧ t.dev.hoc.assignment = some x ∧ t.dev.hoc.leave = some ⟨dest, s.dev.hoc.state⟩ ∧
          t.dev.hoc.leaveStall = some 30000 ∧ t.dev.hoc.lead = false ∧ t.dev.syu.mode = .parallel)) ∧
    (s.dev.hoc.state = .tripped → dest = none →
      ∃ t, exec c s = .next t ∧ t.pending = s.pending ∧ t.dev.hoc.state = .tripped ∧ t.dev.hoc.assignment = none ∧
        t.dev = { s.dev.answered k h .accepted with msu := t.dev.msu, syn := t.dev.syn, hoc := t.dev.hoc })

/-- R107, R6, R12: SESSION OPEN, its tests in their order, the repeat, and the record it opens. A repeat makes no energising test (log entry 57). -/
def Obligations.SessionOpenMakesTheRecord : Prop :=
  ∀ (s : State) (h : OrderHead) (f : SessionFields), s.dev.takes h →
    let good := (f.fNom.toNat = 50000 ∨ f.fNom.toNat = 60000) ∧ 400 ≤ f.vNom.toNat ∧ f.vNom.toNat ≤ 15000 ∧
      (f.demand.toNat = 0 ∨ 100 ≤ f.demand.toNat ∧ f.demand.toNat ≤ 40000) ∧ 20 ≤ f.closing.toNat ∧ f.closing.toNat ≤ 250 ∧
      50 ≤ f.release.toNat ∧ f.release.toNat ≤ 2000
    ((f.outlet ≠ 1 ∧ f.outlet ≠ 2) ∨ ¬good →
      exec (.sessionOpen h f) s = .next { s with dev := s.dev.answered .sessionOpen h (.refused .range) }) ∧
    ∀ x, outletOfCode f.outlet = some x → good →
      (∀ ses, s.dev.hoc.session x = some ses → ses.id ≠ f.id.toNat →
        exec (.sessionOpen h f) s = .next { s with dev := s.dev.answered .sessionOpen h (.refused .state) }) ∧
      (∀ ses, s.dev.hoc.session x = some ses → ses.id = f.id.toNat →
        exec (.sessionOpen h f) s = .next { s with dev := s.dev.answered .sessionOpen h .accepted }) ∧
      (s.dev.hoc.session x = none →
        ∃ t, exec (.sessionOpen h f) s = .next t ∧ t.pending = s.pending ∧
          t.dev = { s.dev.answered .sessionOpen h .accepted with msu := t.dev.msu, syu := t.dev.syu, syn := t.dev.syn, hoc := t.dev.hoc } ∧
          t.dev.hoc.session x =
            some ⟨f.id.toNat, f.fNom.toNat, f.vNom.toNat, if f.demand.toNat = 0 then none else some f.demand.toNat, f.closing.toNat,
              f.release.toNat⟩ ∧
          t.dev.hoc.session (otherOutlet x) = s.dev.hoc.session (otherOutlet x) ∧ t.dev.hoc.assignment = s.dev.hoc.assignment ∧
          t.dev.msu = { s.dev.msu with busCond := if s.dev.hoc.assignment = some x then .uncertain else s.dev.msu.busCond })

/-- R108, R132, R178: SESSION CLOSE, its tests in their order and its effect by the handover state. An outlet code other than 1 and 2 is refused RANGE before the
tests of R108 (log entry 29). -/
def Obligations.SessionCloseEndsTheRecord : Prop :=
  ∀ (s : State) (h : OrderHead) (code : Byte) (id : BitVec 32), s.dev.takes h →
    let refused (r : Reason) := exec (.sessionClose h code id) s = .next { s with dev := s.dev.answered .sessionClose h (.refused r) }
    (code ≠ 1 ∧ code ≠ 2 → refused .range) ∧
    ∀ x, outletOfCode code = some x →
      (s.dev.hoc.session x = none → refused .state) ∧
      ∀ ses, s.dev.hoc.session x = some ses →
        (ses.id ≠ id.toNat → refused .range) ∧
        (ses.id = id.toNat → (∃ v, s.dev.ptb.shipView x = some v ∧ v.breaker = true) → refused .state) ∧
        (ses.id = id.toNat → ¬(∃ v, s.dev.ptb.shipView x = some v ∧ v.breaker = true) →
          ∃ t, exec (.sessionClose h code id) s = .next t ∧ t.pending = s.pending ∧ t.dev.hoc.session x = none ∧
            t.dev.hoc.session (otherOutlet x) = s.dev.hoc.session (otherOutlet x) ∧
            t.dev.lnk = (s.dev.answered .sessionClose h .accepted).lnk ∧
            t.dev.ntu.replies = (s.dev.answered .sessionClose h .accepted).ntu.replies ∧ t.dev.cfg = s.dev.cfg ∧
            t.dev.ptb = s.dev.ptb ∧ t.dev.rst.mem = s.dev.rst.mem ∧
            (s.dev.hoc.assignment ≠ some x →
              t.dev = { s.dev.answered .sessionClose h .accepted with hoc := s.dev.hoc.setSession x none }) ∧
            (s.dev.hoc.assignment = some x → t.dev.mtr.membership = none ∧ t.dev.msu = { s.dev.msu with busCond := .uncertain } ∧
              (s.dev.hoc.state = .off ∨ s.dev.hoc.state = .assigned ∨ s.dev.hoc.state = .tripped →
                t.dev.hoc.state = s.dev.hoc.state ∧ t.dev.ctc = s.dev.ctc) ∧
              (s.dev.hoc.state = .leaving → t.dev.hoc.state = .leaving ∧
                (s.dev.ctc.get x).openRequestedFrom s.dev.cfg.openPulse (t.dev.ctc.get x)) ∧
              (s.dev.hoc.state = .forming ∨ s.dev.hoc.state = .joining ∨ s.dev.hoc.state.isMember = true →
                t.dev.hoc.state = .assigned ∧ t.dev.hoc.assignment = some x ∧ t.dev.hoc.forming = false ∧ t.dev.hoc.lead = false ∧
                t.dev.syu.mode = .stopped ∧ (s.dev.syu.mode ≠ .stopped → t.dev.syu.run = false ∧ t.dev.syu.fRamp = 0) ∧
                (s.dev.ctc.get x).openRequestedFrom s.dev.cfg.openPulse (t.dev.ctc.get x) ∧
                t.dev.ctc.get (otherOutlet x) = s.dev.ctc.get (otherOutlet x))))

/-- R121, R122, R90, R178: START TRANSFER, its tests and the lead's answer by its state. An outlet code other than 1 and 2 is refused RANGE before the tests of R121
(log entry 29). -/
def Obligations.StartTransferMovesTheLead : Prop :=
  ∀ (s : State) (h : OrderHead) (code : Byte), s.dev.takes h →
    let answer (r : Result) := exec (.startTransfer h code) s = .next { s with dev := s.dev.answered .startTransfer h r }
    (code ≠ 1 ∧ code ≠ 2 → answer (.refused .range)) ∧
    ∀ x, outletOfCode code = some x →
      (s.dev.hoc.assignment ≠ some x ∨ s.dev.hoc.state.isMember = false → answer (.refused .state)) ∧
      (s.dev.hoc.assignment = some x → s.dev.hoc.state.isMember = true → s.dev.hoc.lead = false → answer .accepted) ∧
      (s.dev.hoc.assignment = some x → s.dev.hoc.lead = true →
        (s.dev.hoc.state = .parallelHold →
          ∃ t, exec (.startTransfer h code) s = .next t ∧ t.pending = s.pending ∧
            t.dev = { s.dev.answered .startTransfer h .accepted with syu := t.dev.syu, syn := t.dev.syn, hoc := t.dev.hoc } ∧
            t.dev.hoc.state = .parallelUp ∧ t.dev.hoc.progress = some 20000 ∧ t.dev.hoc.rampAbsolute = some 300000 ∧
            t.dev.hoc.lowGen = none ∧ t.dev.hoc.rampDone = false ∧ t.dev.hoc.lowestGen = s.dev.hoc.acted.map ShipFacts.load ∧
            t.dev.hoc.lead = true) ∧
        (s.dev.hoc.state = .onBus →
          let ready := ∃ v, s.dev.ptb.shipView x = some v ∧ v.breaker = false ∧ 1 ≤ v.generators ∧ v.shipReady = true
          let short := ∃ ses n, s.dev.hoc.session x = some ses ∧ ses.demand = some n ∧ s.dev.capacitySum x < n
          (¬ready → answer (.refused .state)) ∧ (ready → short → answer (.refused .capacity)) ∧
          (ready → ¬short →
            ∃ t, exec (.startTransfer h code) s = .next t ∧ t.pending = s.pending ∧
              t.dev = { s.dev.answered .startTransfer h .accepted with syu := t.dev.syu, syn := t.dev.syn, hoc := t.dev.hoc } ∧
              t.dev.hoc.state = .matching ∧ t.dev.hoc.lead = true ∧ t.dev.syu.mode = .follow ∧
              t.dev.syn.ship.state = .seeking ∧ t.dev.syn.ship.good = 0 ∧ t.dev.syn.ship.timeout = some 60000 ∧
              t.dev.syn.ship.watch = some 0 ∧ t.dev.syn.cell = s.dev.syn.cell)) ∧
        (s.dev.hoc.state.isMember = true → s.dev.hoc.state ≠ .parallelHold → s.dev.hoc.state ≠ .onBus → answer (.refused .state)))

/-- R120, R121, Table 7-5, R178: START DEPARTURE, its tests and the lead's answer by its state; DEPART_WAIT with a generator on passes to PARALLEL_DOWN, by the ship
view as it stands at entry (log entry 18). An outlet code other than 1 and 2 is refused RANGE before the tests of R121 (log entry 29). -/
def Obligations.StartDepartureMovesTheLead : Prop :=
  ∀ (s : State) (h : OrderHead) (code : Byte), s.dev.takes h →
    let answer (r : Result) := exec (.startDeparture h code) s = .next { s with dev := s.dev.answered .startDeparture h r }
    (code ≠ 1 ∧ code ≠ 2 → answer (.refused .range)) ∧
    ∀ x, outletOfCode code = some x →
      (s.dev.hoc.assignment ≠ some x ∨ s.dev.hoc.state.isMember = false → answer (.refused .state)) ∧
      (s.dev.hoc.assignment = some x → s.dev.hoc.state.isMember = true → s.dev.hoc.lead = false → answer .accepted) ∧
      (s.dev.hoc.assignment = some x → s.dev.hoc.lead = true →
        ((s.dev.hoc.state = .island ∨ s.dev.hoc.state = .parallelUp ∨ s.dev.hoc.state = .parallelHold) →
          ∃ t, exec (.startDeparture h code) s = .next t ∧ t.pending = s.pending ∧
            t.dev = { s.dev.answered .startDeparture h .accepted with syu := t.dev.syu, syn := t.dev.syn, hoc := t.dev.hoc } ∧
            t.dev.hoc.lead = true ∧ t.dev.hoc.progress = none ∧ t.dev.hoc.rampAbsolute = none ∧
            t.dev.hoc.state =
              (if s.dev.hoc.state = .island ∧ ¬(∃ v, s.dev.ptb.shipView x = some v ∧ 1 ≤ v.generators) then .departWait
                else .parallelDown)) ∧
        (s.dev.hoc.state.isMember = true → s.dev.hoc.state ≠ .island → s.dev.hoc.state ≠ .parallelUp →
          s.dev.hoc.state ≠ .parallelHold → answer (.refused .state)))

/-- R85, R112: CLEAR TRIP, its five tests in their order, and the state it clears to. It moves no contactor. The entry to ASSIGNED makes the energising test of R112
in the same event, from which FORMING or JOINING may follow (log entry 35). -/
def Obligations.ClearTripIsTestedInOrder : Prop :=
  ∀ (s : State) (h : OrderHead), s.dev.takes h →
    let refused (r : Reason) := exec (.clearTrip h) s = .next { s with dev := s.dev.answered .clearTrip h (.refused r) }
    let bothOpen := s.dev.con .a = .opened ∧ s.dev.con .b = .opened
    let stands := s.dev.lnk.state = .muted ∨ s.dev.msu.setGap = 3 ∨ s.dev.msu.ocRun = 2
    (s.dev.con .a = .welded ∨ s.dev.con .b = .welded → refused .interlock) ∧
    (s.dev.con .a ≠ .welded → s.dev.con .b ≠ .welded →
      (s.dev.hoc.state ≠ .tripped → refused .state) ∧ (s.dev.hoc.state = .tripped → ¬bothOpen → refused .state) ∧
      (s.dev.hoc.state = .tripped → bothOpen → stands → refused .state) ∧
      (s.dev.hoc.state = .tripped → bothOpen → ¬stands →
        ∃ t, exec (.clearTrip h) s = .next t ∧ t.pending = s.pending ∧
          t.dev = { s.dev.answered .clearTrip h .accepted with syu := t.dev.syu, syn := t.dev.syn, hoc := t.dev.hoc } ∧
          t.dev.hoc.assignment = s.dev.hoc.assignment ∧
          (s.dev.hoc.assignment = none → t.dev.hoc.state = .off ∧ t.dev.syu.mode = .stopped) ∧
          (s.dev.hoc.assignment ≠ none →
            t.dev.hoc.state = .assigned ∨ (s.dev.mayEnergise = true ∧ (t.dev.hoc.state = .forming ∨ t.dev.hoc.state = .joining)))))

/-- R139, whole: a valid schedule is written whole into the standby copy and arms the switch, an invalid one is refused RANGE and changes nothing, the active
copy is never written by an order (RESTART, which causes START, apart), and in SHUTDOWN the order is refused STATE. -/
def Obligations.TariffWritesTheStandbyCopy : Prop :=
  ∀ (s : State) (h : OrderHead) (count : Byte) (groups : List (BitVec 16 × Byte)),
    let bands : List Band := (groups.take count.toNat).map (fun g => ⟨g.1.toNat, g.2.toNat⟩)
    let valid := 1 ≤ count.toNat ∧ count.toNat ≤ 6 ∧ bands.length = count.toNat ∧ (∃ x r, bands = x :: r ∧ x.start = 0) ∧
      bands.Pairwise (fun x y => x.start < y.start) ∧ ∀ x ∈ bands, x.start ≤ 1439 ∧ x.cls ≤ 3
    (s.dev.takes h → ¬valid → exec (.tariff h count groups) s = .next { s with dev := s.dev.answered .tariff h (.refused .range) }) ∧
    (s.dev.takes h → valid →
      exec (.tariff h count groups) s =
        .next { s with dev := { s.dev.answered .tariff h .accepted with
          mtr := { s.dev.mtr with
            copyA := if s.dev.mtr.active = .a then s.dev.mtr.copyA else bands
            copyB := if s.dev.mtr.active = .a then bands else s.dev.mtr.copyB
            armed := true } } }) ∧
    (s.dev.run = .shutdown → (h.target.toNat = 0 ∨ h.target.toNat = s.dev.cfg.station) →
      s.dev.lnk.remembered h.sender ≠ some h.tag → s.dev.ntu.replies.length < 4 → s.dev.ntu.answered →
      exec (.tariff h count groups) s = .next { s with dev := s.dev.answered .tariff h (.refused .state) }) ∧
    (∀ (c : Instr) (t : State), c.head = some h → (∀ pins, c ≠ .restart h pins) → exec c s = .next t →
      t.dev.mtr.active = s.dev.mtr.active ∧ (s.dev.mtr.active = .a → t.dev.mtr.copyA = s.dev.mtr.copyA) ∧
        (s.dev.mtr.active = .b → t.dev.mtr.copyB = s.dev.mtr.copyB))

/-- R159, R160, R153: COLLECT. A count outside 1..64 is refused RANGE; any other opens a job in place of the one in progress, which reads at once while the
engine is IDLE: GONE below the oldest held record, END above the newest, and otherwise the first held record from the start on: from its slot of the ring, or from
the queue where it waits. A slot whose check word is bad is not held from then on, with BAD_RECORD, and the read goes on to the next. -/
def Obligations.CollectOpensAJob : Prop :=
  ∀ (s : State) (h : OrderHead) (start : BitVec 32) (count : Byte), s.dev.takes h →
    (count.toNat < 1 ∨ 64 < count.toNat →
      exec (.collect h start count) s = .next { s with dev := s.dev.answered .collect h (.refused .range) }) ∧
    (1 ≤ count.toNat → count.toNat ≤ 64 → s.dev.rst.engine ≠ .idle →
      exec (.collect h start count) s =
        .next { s with dev := { s.dev.answered .collect h .accepted with
          rst := { s.dev.rst with job := some ⟨h.sender, start.toNat, count.toNat, none⟩ } } }) ∧
    (1 ≤ count.toNat → count.toNat ≤ 64 → s.dev.rst.engine = .idle →
      ∃ t, exec (.collect h start count) s = .next t ∧ t.pending = s.pending ∧
        t.dev = { s.dev.answered .collect h .accepted with rst := t.dev.rst, ntu := t.dev.ntu } ∧
        t.dev.ntu.replies = (s.dev.answered .collect h .accepted).ntu.replies ∧ t.dev.rst.mem = s.dev.rst.mem ∧
        (∀ o, s.dev.rst.oldest = some o → start.toNat < o →
          t.dev.rst.job = some ⟨h.sender, o, count.toNat, some (.gone o)⟩) ∧
        ((∀ n ∈ s.dev.rst.heldSeqs, n < start.toNat) → (∀ o, s.dev.rst.oldest = some o → o ≤ start.toNat) →
          t.dev.rst.job = some ⟨h.sender, start.toNat, count.toNat, some (.finish s.dev.rst.newest)⟩) ∧
        (∀ e, (∀ o, s.dev.rst.oldest = some o → o ≤ start.toNat) → (∀ g ∈ s.dev.rst.slots, g.seq ≠ start.toNat) →
          s.dev.rst.queue.find? (fun q => q.seq == start.toNat) = some e →
          t.dev.rst.job = some ⟨h.sender, start.toNat + 1, count.toNat, some (.record e.image)⟩) ∧
        (∀ n g, (∀ o, s.dev.rst.oldest = some o → o ≤ start.toNat) → start.toNat ≤ n →
          (∀ k ∈ s.dev.rst.heldSeqs, start.toNat ≤ k → n ≤ k) → s.dev.rst.slots.find? (fun q => q.seq == n) = some g →
          (imageGood (memReadBytes s.dev.rst.mem (g.slot * 32) 32) = true →
            t.dev.rst.job = some ⟨h.sender, n + 1, count.toNat, some (.record (memReadBytes s.dev.rst.mem (g.slot * 32) 32))⟩ ∧
              t.dev.ntu.entry .badRecord = s.dev.ntu.entry .badRecord ∧ t.dev.rst.slots = s.dev.rst.slots) ∧
          (imageGood (memReadBytes s.dev.rst.mem (g.slot * 32) 32) = false →
            (t.dev.ntu.entry .badRecord).pending = true ∧
              min 255 ((s.dev.ntu.entry .badRecord).count + 1) ≤ (t.dev.ntu.entry .badRecord).count ∧ g ∉ t.dev.rst.slots ∧
              ∃ j, t.dev.rst.job = some j ∧ j.requester = h.sender ∧ j.remaining = count.toNat ∧ j.ready ≠ none)))

/-- R158, R154 to R157: CONFIRM, accepted and completed on any store. The mark rises to the lesser of "up to" and the newest assigned, and never falls. A raised
mark makes the tests of the pre-erase, the full flag and the available count (whose value over a page that is not erased in an ineligible sector is log entry 39).
On a FULL store, whose engine is IDLE over a page that is not erased (StoreStaysSound), a mark that makes the sector at the write position eligible clears the
full flag and starts the erase of that sector in the same event; one that leaves it ineligible changes neither. An IDLE engine has made the read of an open job. Page 0 of a USED sector is not erased (log entry 51). -/
def Obligations.ConfirmRaisesTheMark : Prop :=
  ∀ (s : State) (h : OrderHead) (upTo : BitVec 32), s.dev.takes h →
    let m := min upTo.toNat s.dev.rst.newest
    let r : Rst := { s.dev.rst with mark := m }
    let preErase := (r.line (r.next r.posSector)).used = true ∧ r.eligible (r.next r.posSector) = true
    let settled := s.dev.rst.engine = .idle ∧ ∀ j, s.dev.rst.job = some j → j.ready ≠ none
    (m ≤ s.dev.rst.mark → exec (.confirm h upTo) s = .next { s with dev := s.dev.answered .confirm h .accepted }) ∧
    (s.dev.rst.mark < m →
      ∃ t, exec (.confirm h upTo) s = .next t ∧ t.pending = s.pending ∧ t.dev.rst.mark = m ∧
        t.dev = { s.dev.answered .confirm h .accepted with rst := t.dev.rst, ntu := t.dev.ntu } ∧
        t.dev.ntu.replies = (s.dev.answered .confirm h .accepted).ntu.replies ∧ t.dev.rst.mem = s.dev.rst.mem ∧
        t.dev.rst.newest = s.dev.rst.newest ∧ t.dev.rst.posSector = s.dev.rst.posSector ∧ t.dev.rst.posPage = s.dev.rst.posPage ∧
        (s.dev.rst.full = true → s.dev.rst.engine ≠ .idle ∨ settled → t.dev.rst.full = !r.eligible s.dev.rst.posSector) ∧
        t.dev.rst.low = decide (r.available ≤ s.dev.cfg.nearFull) ∧
        (s.dev.rst.engine ≠ .idle → t.dev.rst.engine = s.dev.rst.engine ∧ t.dev.rst.table = s.dev.rst.table ∧
          t.dev.rst.queue = s.dev.rst.queue ∧ t.dev.rst.full = (s.dev.rst.full && !r.eligible s.dev.rst.posSector) ∧
          (s.dev.rst.posPage = 7 → (t.dev.rst.preErase = true ↔ preErase)) ∧
          (s.dev.rst.posPage ≠ 7 → t.dev.rst.preErase = s.dev.rst.preErase)) ∧
        (settled → s.dev.rst.posErased = false →
          (r.eligible s.dev.rst.posSector = true → t.dev.rst.full = false ∧ t.dev.rst.engine = .erasing s.dev.rst.posSector) ∧
          (s.dev.rst.full = true → r.eligible s.dev.rst.posSector = false → t.dev.rst.full = true ∧ t.dev.rst.engine = .idle)) ∧
        (settled → s.dev.rst.posErased = true → s.dev.rst.full = false → s.dev.rst.posPage = 7 →
          (preErase → t.dev.rst.engine = .erasing (r.next s.dev.rst.posSector)) ∧ t.dev.rst.preErase = false))

/-- R150 to R153, R156: the three drain demands, by FLUSH and by the two timers of the store. The drain mark takes the newest waiting entry; with nothing
waiting it stays; a busy engine, and the idle engine of a FULL store, start nothing; an idle engine over an erased page takes up to four entries at once, and
with nothing waiting and no pre-erase due it stays idle. Page 0 of a USED sector is not erased (log entry 51). A timer that does not run has no expiry (log entry 4). -/
def Obligations.DrainDemandsWriteBack : Prop :=
  ∀ s : State,
    (s.dev.rst.packTimer = none → exec .packingTimerExpiry s = .next s) ∧
    (s.dev.rst.absTimer = none → exec .storeAbsoluteTimerExpiry s = .next s) ∧
    ∀ (c : Instr) (d : Dev),
    ((∃ h, c = .flush h ∧ s.dev.takes h ∧ d = s.dev.answered .flush h .accepted) ∨
      (c = .packingTimerExpiry ∧ s.dev.awake ∧ s.dev.rst.packTimer ≠ none ∧ d = { s.dev with rst := { s.dev.rst with packTimer := none } }) ∨
      (c = .storeAbsoluteTimerExpiry ∧ s.dev.awake ∧ s.dev.rst.absTimer ≠ none ∧ d = { s.dev with rst := { s.dev.rst with absTimer := none } })) →
    let read := ∀ j, s.dev.rst.job = some j → j.ready ≠ none
    (s.dev.rst.engine ≠ .idle ∨ (read ∧ s.dev.rst.full = true) ∨ (read ∧ s.dev.rst.posErased = true ∧ s.dev.rst.preErase = false) →
      s.dev.rst.waiting = [] → exec c s = .next { s with dev := d }) ∧
    (∀ w e, s.dev.rst.engine ≠ .idle ∨ (read ∧ s.dev.rst.full = true) → s.dev.rst.waiting = w ++ [e] →
      exec c s = .next { s with dev := { d with rst := { d.rst with drain := some e.seq } } }) ∧
    (s.dev.rst.engine = .idle → (∀ j, s.dev.rst.job = some j → j.ready ≠ none) → s.dev.rst.posErased = true →
      s.dev.rst.preErase = false → s.dev.rst.full = false → s.dev.rst.queue ≠ [] → (∀ e ∈ s.dev.rst.queue, e.inProgram = false) →
      ∃ t, exec c s = .next t ∧ t.pending = s.pending ∧ t.dev = { d with rst := t.dev.rst } ∧
        t.dev.rst.engine = .programming s.dev.rst.posSector s.dev.rst.posPage ∧
        t.dev.rst.queue = (s.dev.rst.queue.take 4).map (fun e => { e with inProgram := true }) ++ s.dev.rst.queue.drop 4 ∧
        (s.dev.rst.queue.length ≤ 4 → t.dev.rst.drain = none ∧ t.dev.rst.packTimer = none ∧ t.dev.rst.absTimer = none) ∧
        t.dev.rst.mem = s.dev.rst.mem ∧ t.dev.rst.slots = s.dev.rst.slots ∧ t.dev.rst.newest = s.dev.rst.newest)

/-- R167 and R168, whole: an accepted ACKNOWLEDGE NOTICES clears every listed kind once and takes it from the queue, leaves the others, and a kind of the four
whose condition still holds stands raised again with count 1, queued behind the unlisted kinds, which keep their order; a list that is no list of kinds is refused RANGE, and in SHUTDOWN the order is refused STATE. -/
def Obligations.AcknowledgeClearsTheListedKinds : Prop :=
  ∀ (s : State) (h : OrderHead) (count : Byte) (codes : List Byte),
    let listed := codes.take count.toNat
    let valid := 1 ≤ count.toNat ∧ count.toNat ≤ 28 ∧ listed.length = count.toNat ∧ ∀ c ∈ listed, 1 ≤ c.toNat ∧ c.toNat ≤ 28
    let again (k : NoticeKind) : Prop :=
      (k = .openFail ∧ (s.dev.con .a = .welded ∨ s.dev.con .b = .welded)) ∨ (k = .storeFull ∧ s.dev.rst.full = true) ∨
        (k = .storeLow ∧ s.dev.rst.low = true) ∨ (k = .configBad ∧ (s.dev.cfg.configBad = true ∨ s.dev.cfg.station = 0))
    (s.dev.takes h → ¬valid →
      exec (.acknowledgeNotices h count codes) s = .next { s with dev := s.dev.answered .acknowledgeNotices h (.refused .range) }) ∧
    (s.dev.takes h → valid →
      ∃ t, exec (.acknowledgeNotices h count codes) s = .next t ∧ t.pending = s.pending ∧
        t.dev = { s.dev.answered .acknowledgeNotices h .accepted with ntu := t.dev.ntu } ∧
        t.dev.ntu.replies = (s.dev.answered .acknowledgeNotices h .accepted).ntu.replies ∧ t.dev.ntu.spacing = s.dev.ntu.spacing ∧
        (∃ raised : List NoticeKind, raised.Nodup ∧
          (∀ k : NoticeKind, k ∈ raised ↔ BitVec.ofNat 8 (k.idx.val + 1) ∈ listed ∧ again k ∧ s.dev.cfg.enabled k.cls = true) ∧
          t.dev.ntu.queue = s.dev.ntu.queue.filter (fun k => decide (BitVec.ofNat 8 (k.idx.val + 1) ∉ listed)) ++ raised) ∧
        ∀ k : NoticeKind,
          (BitVec.ofNat 8 (k.idx.val + 1) ∉ listed →
            t.dev.ntu.entry k = s.dev.ntu.entry k ∧ (k ∈ t.dev.ntu.queue ↔ k ∈ s.dev.ntu.queue)) ∧
          (BitVec.ofNat 8 (k.idx.val + 1) ∈ listed → ¬again k → t.dev.ntu.entry k = ⟨false, 0⟩ ∧ k ∉ t.dev.ntu.queue) ∧
          (BitVec.ofNat 8 (k.idx.val + 1) ∈ listed → again k →
            t.dev.ntu.entry k = ⟨true, 1⟩ ∧ (k ∈ t.dev.ntu.queue ↔ s.dev.cfg.enabled k.cls = true))) ∧
    (s.dev.run = .shutdown → (h.target.toNat = 0 ∨ h.target.toNat = s.dev.cfg.station) →
      s.dev.lnk.remembered h.sender ≠ some h.tag → s.dev.ntu.replies.length < 4 → s.dev.ntu.answered →
      exec (.acknowledgeNotices h count codes) s = .next { s with dev := s.dev.answered .acknowledgeNotices h (.refused .state) })

/-! ### The contactors (chapter 5) -/

/-- R73, R75, R78 to R80, R82, Table 5-3: a qualified auxiliary level by the state of its record. A level already taken is no change. With it what the synchroniser
and the handover controller of chapters 6 and 7 make of the change: R101, R102, R114 to R116 where a close ends CLOSED, R111, R117 and R126 where the contactor is no
longer CLOSED; and of chapters 8 and 9: R132, R141, R142 and R149, the records of a membership that AUX_DROP ends, in the staging queue or in the pending holder. A
held closure of the other record is taken after the change to OPEN has been handed out (log entry 48). -/
def Obligations.AuxLevelByTheRecordState : Prop :=
  ∀ (s : State) (x : Outlet) (closed : Bool), s.dev.awake →
    let c := s.dev.ctc.get x
    let y := otherOutlet x
    let pins := match x with
      | .a => { s.dev.pins with auxA := closed }
      | .b => { s.dev.pins with auxB := closed }
    (c.auxClosed = closed → exec (.auxLevelQualified x closed) s = .next s) ∧
    (c.auxClosed ≠ closed →
      ((c.state = .welded ∨ (c.state = .opened ∧ closed = false) ∨ (c.state = .closed ∧ closed = true) ∨
          (c.state = .closing ∧ (closed = false ∨ c.phase = .pulse)) ∨ (c.state = .opening ∧ (closed = true ∨ c.phase = .pulse))) →
        exec (.auxLevelQualified x closed) s =
          .next { s with dev := { s.dev with pins := pins, ctc := s.dev.ctc.set x { c with auxClosed := closed } } }) ∧
      ∃ t, exec (.auxLevelQualified x closed) s = .next t ∧ t.pending = s.pending ∧ t.dev.pins = pins ∧
        t.dev.cfg = s.dev.cfg ∧ t.dev.lnk = s.dev.lnk ∧ t.dev.ptb = s.dev.ptb ∧ t.dev.run = s.dev.run ∧
        t.dev.rst.mem = s.dev.rst.mem ∧
        (c.state = .closing → closed = true → c.phase ≠ .pulse →
          t.dev = { s.dev with pins := pins, ctc := t.dev.ctc, syu := t.dev.syu, syn := t.dev.syn, hoc := t.dev.hoc } ∧
          t.dev.ctc.get x = restingAt .closed true ∧ t.dev.ctc.get y = s.dev.ctc.get y ∧
          (s.dev.hoc.assignment = some x → t.dev.hoc.joinAge = 0 ∧ t.dev.hoc.joinTicks = 0 ∧
            (s.dev.hoc.state = .forming → t.dev.hoc.state = .onBus ∧ t.dev.hoc.lead = true) ∧
            (s.dev.hoc.state = .joining → t.dev.hoc.state.isMember = true ∧ t.dev.syn.cell.attempts = 0 ∧
              t.dev.syu.fJoin = 0 ∧ t.dev.syu.vSteer = 0)) ∧
          (s.dev.hoc.assignment = some x → s.dev.joinedFrom x t.dev)) ∧
        (c.state = .closed → closed = false →
          t.dev.ctc.get x = restingAt .opened false ∧
          (s.dev.ctc.get y).heldTakenFrom s.dev.cfg.openPulse (t.dev.ctc.get y) ∧
          t.dev.ntu.entry .auxDrop = ⟨true, min 255 ((s.dev.ntu.entry .auxDrop).count + 1)⟩ ∧
          (s.dev.hoc.assignment = some x → t.dev.mtr.membership = none ∧ t.dev.syu.fRamp = 0 ∧ t.dev.hoc.joinAge = 0 ∧
            t.dev.hoc.lead = false ∧
            (s.dev.hoc.state.isMember = true → t.dev.hoc.state.waits ∧ t.dev.hoc.assignment = some x) ∧
            (s.dev.hoc.state = .leaving → t.dev.hoc.assignment = s.dev.hoc.leave.bind Leave.dest) ∧
            (s.dev.mtr.membership = none → t.dev.rst = s.dev.rst) ∧
            ∀ k, s.dev.mtr.membership = some k → s.dev.mtr.holder = [] →
              (2 ≤ s.dev.rst.free → s.dev.rst.newest < 4294967290 →
                s.dev.rst.tookRecords (s.dev.mtr.leaveRecords k .auxDrop) t.dev.rst ∧ t.dev.mtr.holder = []) ∧
              (s.dev.rst.free = 0 → t.dev.rst = s.dev.rst ∧ t.dev.mtr.holder = s.dev.mtr.leaveRecords k .auxDrop))) ∧
        (c.state = .opening → closed = false → c.phase ≠ .pulse →
          t.dev.ctc.get x = restingAt .opened false ∧
          (s.dev.ctc.get y).heldTakenFrom s.dev.cfg.openPulse (t.dev.ctc.get y) ∧
          t.dev = { s.dev with
            pins := pins, ctc := t.dev.ctc, msu := t.dev.msu, syu := t.dev.syu, syn := t.dev.syn, hoc := t.dev.hoc, ntu := t.dev.ntu } ∧
          (s.dev.hoc.assignment = some x → s.dev.seeksAfresh t.dev) ∧ s.dev.heldTimeoutRaised x t.dev ∧
          (s.dev.hoc.assignment = some x → s.dev.hoc.state = .leaving →
            t.dev.hoc.assignment = s.dev.hoc.leave.bind Leave.dest)) ∧
        (c.state = .opened → closed = true →
          (if s.dev.con y = .opened then
              t.dev.ctc.get x = ⟨.opening, true, .pulse, some s.dev.cfg.openPulse, none, false, false, true⟩
            else t.dev.ctc.get x = { c with auxClosed := true }) ∧
          (s.dev.ctc.get y).openRequestedFrom s.dev.cfg.openPulse (t.dev.ctc.get y) ∧
          t.dev.ntu.entry .auxUnexpected = ⟨true, min 255 ((s.dev.ntu.entry .auxUnexpected).count + 1)⟩ ∧
          t.dev.hoc.state = .tripped ∧ s.dev.hoc.droppedFrom t.dev.hoc ∧ s.dev.syu.haltedFrom t.dev.syu ∧
          t.dev.syu.mode = .stopped ∧ t.dev.msu = s.dev.msu))

/-- R75, R76, R78: the coil pulse, the confirm timer and the retry gap of a contactor, each only in its own phase. A close that ends CLOSED at the pulse end ends
FORMING in ON_BUS with the lead claim and places a JOINING cell (R33, R101, R114 to R116). A failed close requests an EVENT record (R84, R141, R143) and raises CLOSE_FAIL
after the change to OPEN has been handed out (R102, log entry 49), and a held closure of the other record is taken after that change (R80, log entry 48). A timer that does not run has no expiry (log entry 4). -/
def Obligations.CoilTimersDriveTheOperation : Prop :=
  ∀ (s : State) (x : Outlet), s.dev.awake →
    let c := s.dev.ctc.get x
    let y := otherOutlet x
    let put (v : Contactor) : Host.Outcome State Fault Refusal := .next { s with dev := { s.dev with ctc := s.dev.ctc.set x v } }
    let moving := c.state = .closing ∨ c.state = .opening
    (c.phase ≠ .pulse ∨ c.pulseTimer = none ∨ ¬moving → exec (.coilPulseTimerExpiry x) s = .next s) ∧
    (c.phase ≠ .confirm ∨ c.confirmTimer = none ∨ ¬moving → exec (.confirmTimerExpiry x) s = .next s) ∧
    (c.phase ≠ .gap ∨ c.pulseTimer = none ∨ ¬moving → exec (.retryGapExpiry x) s = .next s) ∧
    (c.phase = .pulse → c.pulseTimer ≠ none →
      ((c.state = .closing ∧ c.auxClosed = false) ∨ (c.state = .opening ∧ c.auxClosed = true) →
        exec (.coilPulseTimerExpiry x) s =
          put ⟨c.state, c.auxClosed, .confirm, none, some s.dev.cfg.confirmTime, c.retry, false, false⟩) ∧
      (c.state = .closing → c.auxClosed = true →
        ∃ t, exec (.coilPulseTimerExpiry x) s = .next t ∧ t.pending = s.pending ∧ t.dev.ctc.get x = restingAt .closed true ∧
          t.dev.ctc.get y = s.dev.ctc.get y ∧
          t.dev = { s.dev with ctc := t.dev.ctc, syu := t.dev.syu, syn := t.dev.syn, hoc := t.dev.hoc } ∧
          (s.dev.hoc.assignment = some x → s.dev.joinedFrom x t.dev) ∧
          (s.dev.hoc.assignment ≠ some x → t.dev.hoc.assignment = s.dev.hoc.assignment ∧ t.dev.hoc.joinAge = s.dev.hoc.joinAge)) ∧
      (c.state = .opening → c.auxClosed = false →
        ∃ t, exec (.coilPulseTimerExpiry x) s = .next t ∧ t.pending = s.pending ∧ t.dev.ctc.get x = restingAt .opened false ∧
          (s.dev.ctc.get y).heldTakenFrom s.dev.cfg.openPulse (t.dev.ctc.get y) ∧
          t.dev = { s.dev with
            ctc := t.dev.ctc, msu := t.dev.msu, syu := t.dev.syu, syn := t.dev.syn, hoc := t.dev.hoc, ntu := t.dev.ntu } ∧
          (s.dev.hoc.assignment = some x → s.dev.seeksAfresh t.dev) ∧ s.dev.heldTimeoutRaised x t.dev)) ∧
    (c.phase = .confirm → c.confirmTimer ≠ none → moving →
      (c.retry = false → exec (.confirmTimerExpiry x) s =
        put ⟨c.state, c.auxClosed, .gap, some 500, none, true, c.closeCoil, c.openCoil⟩) ∧
      (c.retry = true → c.state = .closing →
        ∃ t, exec (.confirmTimerExpiry x) s = .next t ∧ t.pending = s.pending ∧
          t.dev.ctc.get x = restingAt .opened c.auxClosed ∧
          (s.dev.ctc.get y).heldTakenFrom s.dev.cfg.openPulse (t.dev.ctc.get y) ∧
          (s.dev.hoc.assignment = some x → s.dev.seeksAfresh t.dev) ∧
          t.dev.ntu.entry .closeFail = ⟨true, min 255 ((s.dev.ntu.entry .closeFail).count + 1)⟩ ∧ t.dev.cfg = s.dev.cfg ∧
          t.dev.lnk = s.dev.lnk ∧ t.dev.ptb = s.dev.ptb ∧ t.dev.run = s.dev.run ∧ t.dev.rst.mem = s.dev.rst.mem ∧
          s.dev.eventTaken ⟨none, some x, t.dev.con .a, t.dev.con .b, s.dev.hoc.state, s.dev.msu.p,
            s.dev.mtr.membership.map Membership.id, s.dev.mtr.stamp⟩ t.dev) ∧
      (c.retry = true → c.state = .opening →
        ∃ t, exec (.confirmTimerExpiry x) s = .next t ∧ t.pending = s.pending ∧
          t.dev.ctc.get x = restingAt .welded c.auxClosed ∧
          (s.dev.ctc.get y).openRequestedFrom s.dev.cfg.openPulse (t.dev.ctc.get y) ∧
          t.dev.ntu.entry .openFail = ⟨true, min 255 ((s.dev.ntu.entry .openFail).count + 1)⟩ ∧
          t.dev.hoc.state = .tripped ∧ s.dev.hoc.droppedFrom t.dev.hoc ∧ s.dev.syu.haltedFrom t.dev.syu ∧
          t.dev.cfg = s.dev.cfg ∧ t.dev.lnk = s.dev.lnk ∧ t.dev.ptb = s.dev.ptb ∧ t.dev.run = s.dev.run ∧
          t.dev.msu = s.dev.msu ∧ t.dev.rst.mem = s.dev.rst.mem)) ∧
    (c.phase = .gap → c.pulseTimer ≠ none →
      (c.state = .closing → exec (.retryGapExpiry x) s =
        put ⟨.closing, c.auxClosed, .pulse, some s.dev.cfg.closePulse, c.confirmTimer, c.retry, true, false⟩) ∧
      (c.state = .opening → exec (.retryGapExpiry x) s =
        put ⟨.opening, c.auxClosed, .pulse, some s.dev.cfg.openPulse, c.confirmTimer, c.retry, false, true⟩))

/-! ### The synchroniser's timers (chapter 6) -/

/-- R96: a crossing watch that has reached its length is a bad evaluation without steering; one that has not reached it, or of a channel that does not run, is nothing
(log entry 13); without a session the length is that of 50 Hz (log entry 37). Then the evaluation at a crossing of the reference signal in an admitted set (R91 to
R95), which the synchroniser takes after the measurement and the synthesis step of the set (log entry 8): in JOINING at a bus crossing, with the steering of
frequency and voltage (R31, R34, R97, R98) and the close request of a cell-channel MET, refused or taken (R74, R75, R115); in MATCHING at a ship crossing, with the
steering of the ramp offset (R30, R99). Where the set also brings the watch to its length, the expiry may be taken before the crossing: the crossing is then evaluated
from a count of 0 in SEEKING (R96; which is first is a free choice, log entry 3). That the predicted phase is folded by as many turns as it takes is the model's
reading (log entry 20), and so is that the close request is taken before any expiry of the timeout (log entry 56). -/
def Obligations.CrossingWatchIsABadEvaluation : Prop :=
  (∀ s : State, s.dev.awake →
    let len : Nat := match s.dev.hoc.ownSession with
      | some ses => if ses.fNom = 60000 then 320 else 384
      | none => 384
    let bad (c : Channel) : Channel := { c with state := .seeking, good := 0, latest := some ⟨false, none, none, none⟩, watch := some 0 }
    let due (c : Channel) : Prop := (c.state = .seeking ∨ c.state = .met) ∧ ∃ n, c.watch = some n ∧ len ≤ n
    (¬due s.dev.syn.cell → exec (.crossingWatchExpiry .cell) s = .next s) ∧
    (¬due s.dev.syn.ship → exec (.crossingWatchExpiry .ship) s = .next s) ∧
    (due s.dev.syn.cell → exec (.crossingWatchExpiry .cell) s =
      .next { s with dev := { s.dev with syn := ⟨bad s.dev.syn.cell, s.dev.syn.ship⟩ } }) ∧
    (due s.dev.syn.ship → exec (.crossingWatchExpiry .ship) s =
      .next { s with dev := { s.dev with syn := ⟨s.dev.syn.cell, bad s.dev.syn.ship⟩ } })) ∧
  ∀ (s : State) (raw : RawSet) (x : Outlet), s.dev.admits raw → ¬(calibrated s.dev.cfg.gains raw).overLevel s.dev.cfg.iTrip →
    s.dev.hoc.assignment = some x → s.bounded →
    let c := calibrated s.dev.cfg.gains raw
    let busCrosses := s.dev.msu.bus.rises (c.busOf x) (s.dev.msu.lastSet.map (fun l => l.busOf x))
    let shipCrosses := s.dev.msu.ship.rises (c.shipOf x) (s.dev.msu.lastSet.map (fun l => l.shipOf x))
    let valid (k : Tracker) : Option Nat := if k.freqValid = true then k.freq else none
    let limit : Int := 4 * s.dev.cfg.rampStep
    let len : Nat := if (s.dev.hoc.session x).map Session.fNom = some 60000 then 320 else 384
    let evaluated (c : Channel) (e : Eval) (t : Channel) : Prop := c.evaluatedTo e t ∨
      (∃ n, c.watch = some n ∧ len ≤ n + max 1 (s.dev.positions raw)) ∧ ({ c with state := .seeking, good := 0 } : Channel).evaluatedTo e t
    ∃ t, exec (.sampleSet raw) s = .next t ∧ t.pending = s.pending ∧
      (s.dev.hoc.state = .joining → s.dev.con x = .opened → s.dev.syn.cell.state = .seeking ∨ s.dev.syn.cell.state = .met →
        t.dev.msu.busCond = s.dev.msu.busCond →
        (¬busCrosses → t.dev.syn.cell.state = s.dev.syn.cell.state ∧ t.dev.syn.cell.good = s.dev.syn.cell.good ∧
          t.dev.syn.cell.latest = s.dev.syn.cell.latest ∧ t.dev.syu.fJoin = s.dev.syu.fJoin ∧ t.dev.syu.vSteer = s.dev.syu.vSteer ∧
          t.dev.syn.cell.watch = s.dev.syn.cell.watch.map (fun n => n + max 1 (s.dev.positions raw)) ∧ t.dev.ctc = s.dev.ctc) ∧
        (busCrosses →
          ∃ e : Eval,
            e.formed (valid t.dev.msu.cell) (valid t.dev.msu.bus) t.dev.msu.cellBus t.dev.msu.cell.ratio t.dev.msu.bus.ratio
              s.dev.cfg.cellClosing (-100) 100 100 50 ∧
            evaluated s.dev.syn.cell e t.dev.syn.cell ∧ t.dev.hoc.state = .joining ∧
            (∀ a b : Nat, valid t.dev.msu.cell = some a → valid t.dev.msu.bus = some b →
              t.dev.syu.fJoin = max (-3000) (min 3000 (s.dev.syu.fJoin + t.dev.syu.steered limit ((b : Int) + 30 - a)))) ∧
            (valid t.dev.msu.cell = none ∨ valid t.dev.msu.bus = none → t.dev.syu.fJoin = s.dev.syu.fJoin) ∧
            (∀ a b : Nat, t.dev.msu.cell.ratio = some a → t.dev.msu.bus.ratio = some b →
              t.dev.syu.vSteer = max (-100) (min 100 (s.dev.syu.vSteer + max (-5) (min 5 ((b : Int) - a))))) ∧
            (t.dev.msu.cell.ratio = none ∨ t.dev.msu.bus.ratio = none → t.dev.syu.vSteer = s.dev.syu.vSteer) ∧
            (t.dev.syn.cell.state = .met → s.dev.closeRefusal x = none →
              t.dev.ctc.get x = ⟨.closing, (s.dev.ctc.get x).auxClosed, .pulse, some s.dev.cfg.closePulse, none, false, true, false⟩ ∧
                t.dev.ctc.get (otherOutlet x) = s.dev.ctc.get (otherOutlet x) ∧ t.dev.syn.cell.watch = none) ∧
            (t.dev.syn.cell.state ≠ .met ∨ s.dev.closeRefusal x ≠ none → t.dev.ctc = s.dev.ctc ∧ t.dev.syn.cell.watch = some 0))) ∧
      (s.dev.hoc.state = .matching → s.dev.con x = .closed → s.dev.syn.ship.state = .seeking ∨ s.dev.syn.ship.state = .met →
        (¬shipCrosses → t.dev.syn.ship.state = s.dev.syn.ship.state ∧ t.dev.syn.ship.good = s.dev.syn.ship.good ∧
          t.dev.syu.fRamp = s.dev.syu.fRamp) ∧
        (shipCrosses →
          ∃ e : Eval,
            e.formed (valid t.dev.msu.bus) (valid t.dev.msu.ship) t.dev.msu.busShip t.dev.msu.bus.ratio t.dev.msu.ship.ratio
              (((s.dev.hoc.session x).map Session.closing).getD 0) 1 150 80 40 ∧
            evaluated s.dev.syn.ship e t.dev.syn.ship ∧ t.dev.syn.ship.watch = some 0 ∧ t.dev.hoc.state = .matching ∧
            (∀ a b : Nat, valid t.dev.msu.bus = some a → valid t.dev.msu.ship = some b →
              t.dev.syu.fRamp = max (-3000) (min 3000 (s.dev.syu.fRamp + t.dev.syu.steered limit ((b : Int) + 60 - a)))) ∧
            (valid t.dev.msu.bus = none ∨ valid t.dev.msu.ship = none → t.dev.syu.fRamp = s.dev.syu.fRamp)))

/-- R100, R101, R103, R115: the timeouts of the two channels, and the back-off. A timeout at an attempt count of 0 goes to BACKOFF as one at 1 or 2 does (log entry 19).
A timer that does not run has no expiry (log entry 4). That the back-off timer runs on in SHUTDOWN, where its expiry clears it, is the model's choice (log entry 63). -/
def Obligations.ChannelTimeoutsAndBackOff : Prop :=
  ∀ s : State, s.dev.awake →
    let cell := s.dev.syn.cell
    let ship := s.dev.syn.ship
    let cellDue := (cell.state = .seeking ∨ cell.state = .met) ∧ cell.timeout ≠ none
    let shipDue := (ship.state = .seeking ∨ ship.state = .met) ∧ ship.timeout ≠ none
    (¬cellDue → exec .cellChannelTimeout s = .next s) ∧ (¬shipDue → exec .shipChannelTimeout s = .next s) ∧
    (cell.backoff = none → exec .backOffExpiry s = .next s) ∧
    (cellDue → s.dev.ownCon = some .opened → s.dev.hoc.state = .joining →
      ∃ t, exec .cellChannelTimeout s = .next t ∧ t.pending = s.pending ∧
        t.dev = { s.dev with syu := t.dev.syu, syn := t.dev.syn, hoc := t.dev.hoc, ntu := t.dev.ntu } ∧
        t.dev.hoc.state = .assigned ∧ t.dev.hoc.assignment = s.dev.hoc.assignment ∧ t.dev.syu.mode = .stopped ∧
        t.dev.syu.fJoin = 0 ∧ t.dev.syn.ship = ship ∧
        t.dev.syn.cell = { cell with
          state := if cell.attempts = 3 then .spent else .backoff
          good := 0, timeout := none, held := false, watch := none
          backoff := if cell.attempts = 3 then cell.backoff else some 10000 } ∧
        s.dev.ntu.raisedTo s.dev.cfg.enNonFatal .syncTimeout t.dev.ntu) ∧
    (cellDue → s.dev.ownCon = some .closing →
      exec .cellChannelTimeout s = .next { s with dev := { s.dev with syn := ⟨{ cell with timeout := none, held := true }, ship⟩ } }) ∧
    (shipDue → s.dev.hoc.state = .matching →
      ∃ t, exec .shipChannelTimeout s = .next t ∧ t.pending = s.pending ∧
        t.dev = { s.dev with syu := t.dev.syu, syn := t.dev.syn, hoc := t.dev.hoc, ntu := t.dev.ntu } ∧
        t.dev.hoc.state = .onBus ∧ t.dev.hoc.lead = s.dev.hoc.lead ∧ t.dev.syu.fRamp = 0 ∧ t.dev.syn.cell = cell ∧
        t.dev.syn.ship = { ship with state := .idle, good := 0, timeout := none, held := false, watch := none } ∧
        s.dev.ntu.raisedTo s.dev.cfg.enNonFatal .syncTimeout t.dev.ntu) ∧
    (cell.backoff ≠ none →
      ∃ t, exec .backOffExpiry s = .next t ∧ t.pending = s.pending ∧
        t.dev = { s.dev with syu := t.dev.syu, syn := t.dev.syn, hoc := t.dev.hoc } ∧ t.dev.syn.ship = ship ∧
        t.dev.syn.cell.backoff = none ∧ t.dev.hoc.assignment = s.dev.hoc.assignment ∧
        (cell.state ≠ .backoff ∨ s.dev.hoc.state ≠ .assigned ∨ s.dev.lnk.state ≠ .aligned ∨ s.dev.hoc.ownSession = none →
          cell.state ≠ .idle →
          t = { s with dev := { s.dev with
            syn := ⟨{ cell with backoff := none, state := if cell.state = .backoff then .idle else cell.state }, ship⟩ } }) ∧
        (cell.state = .backoff → s.dev.hoc.state = .assigned → t.dev.hoc.state.waits ∧
          (t.dev.hoc.state = .joining → t.dev.syn.cell.state = .seeking ∧ t.dev.syn.cell.attempts = min 3 (cell.attempts + 1) ∧
            t.dev.syn.cell.timeout = some 20000)))

/-! ### The handover controller's timers (chapter 7) -/

/-- R122: the three timers of the ramp. Either stall ends in PARALLEL_HOLD with RAMP_STALL; the low-generator timer sets ramp done and moves nothing. A timer that does not run has no expiry (log entry 4). -/
def Obligations.RampTimers : Prop :=
  ∀ s : State, s.dev.awake →
    let h := s.dev.hoc
    (h.state ≠ .parallelUp ∨ h.progress = none → exec .progressTimerExpiry s = .next s) ∧
    (h.state ≠ .parallelUp ∨ h.rampAbsolute = none → exec .absoluteRampTimerExpiry s = .next s) ∧
    (h.state ≠ .parallelUp ∨ h.lowGen = none → exec .lowGeneratorTimerExpiry s = .next s) ∧
    (∀ c, h.state = .parallelUp →
      (c = .progressTimerExpiry ∧ h.progress ≠ none) ∨ (c = .absoluteRampTimerExpiry ∧ h.rampAbsolute ≠ none) →
      ∃ t, exec c s = .next t ∧ t.pending = s.pending ∧
        t.dev = { s.dev with syu := t.dev.syu, hoc := t.dev.hoc, ntu := t.dev.ntu } ∧
        t.dev.hoc.state = .parallelHold ∧ t.dev.hoc.progress = none ∧ t.dev.hoc.rampAbsolute = none ∧ t.dev.hoc.lowGen = none ∧
        t.dev.hoc.lead = h.lead ∧ t.dev.hoc.assignment = h.assignment ∧ t.dev.hoc.acted = h.acted ∧
        t.dev.syu.fRamp = s.dev.syu.fRamp ∧ s.dev.ntu.raisedTo s.dev.cfg.enNonFatal .rampStall t.dev.ntu) ∧
    (h.state = .parallelUp → h.lowGen ≠ none →
      exec .lowGeneratorTimerExpiry s =
        .next { s with dev := { s.dev with hoc := { h with rampDone := true, progress := none, rampAbsolute := none, lowGen := none } } })

/-- R111, R124: the release timer, the release-wait timer, the low-load timer and the leave-stall timer. A timer that does not run has no expiry (log entry 4). -/
def Obligations.ReleaseAndLeaveTimers : Prop :=
  ∀ s : State, s.dev.awake →
    let h := s.dev.hoc
    (h.state ≠ .parallelDown ∨ h.release = none → exec .releaseTimerExpiry s = .next s) ∧
    (h.state ≠ .releaseWait ∨ h.releaseWait = none → exec .releaseWaitExpiry s = .next s) ∧
    (h.state ≠ .leaving ∨ h.lowLoad = none → exec .lowLoadTimerExpiry s = .next s) ∧
    (h.state ≠ .leaving ∨ h.leaveStall = none → exec .leaveStallExpiry s = .next s) ∧
    (h.state = .parallelDown → h.release ≠ none → h.lead = true →
      ∃ t, exec .releaseTimerExpiry s = .next t ∧ t.pending = s.pending ∧
        t.dev = { s.dev with syu := t.dev.syu, hoc := t.dev.hoc } ∧ t.dev.hoc.state = .releaseWait ∧
        t.dev.hoc.releaseWait = some 30000 ∧ t.dev.hoc.release = none ∧ t.dev.hoc.lead = true ∧ t.dev.syu.fRamp = s.dev.syu.fRamp) ∧
    (h.state = .releaseWait → h.releaseWait ≠ none →
      ∃ t, exec .releaseWaitExpiry s = .next t ∧ t.pending = s.pending ∧
        t.dev = { s.dev with syu := t.dev.syu, hoc := t.dev.hoc, ntu := t.dev.ntu } ∧ t.dev.hoc.state = .parallelHold ∧
        t.dev.hoc.releaseWait = none ∧ t.dev.hoc.lead = h.lead ∧ t.dev.syu.fRamp = s.dev.syu.fRamp ∧
        s.dev.ntu.raisedTo s.dev.cfg.enNonFatal .releaseStall t.dev.ntu) ∧
    (∀ x, h.state = .leaving → h.lowLoad ≠ none → h.assignment = some x →
      ∃ t, exec .lowLoadTimerExpiry s = .next t ∧ t.pending = s.pending ∧
        (s.dev.ctc.get x).openRequestedFrom s.dev.cfg.openPulse (t.dev.ctc.get x) ∧
        t.dev.ctc.get (otherOutlet x) = s.dev.ctc.get (otherOutlet x) ∧ t.dev.hoc.state = .leaving ∧ t.dev.hoc.leave = h.leave ∧
        t.dev.hoc.assignment = some x ∧ t.dev.hoc.lowLoad = none ∧
        (s.dev.con x = .closed → t.dev.mtr.membership = none ∧ t.dev.syu.fRamp = 0) ∧ t.dev.cfg = s.dev.cfg ∧
        t.dev.lnk = s.dev.lnk ∧ t.dev.ptb = s.dev.ptb ∧ t.dev.msu = s.dev.msu ∧ t.dev.rst.mem = s.dev.rst.mem) ∧
    (∀ l, h.state = .leaving → h.leaveStall ≠ none → h.leave = some l →
      (s.dev.ownMember = false → exec .leaveStallExpiry s = .next { s with dev := { s.dev with hoc := { h with leaveStall := none } } }) ∧
      (s.dev.ownMember = true → l.back.isMember = true →
        ∃ t, exec .leaveStallExpiry s = .next t ∧ t.pending = s.pending ∧
          t.dev = { s.dev with syu := t.dev.syu, syn := t.dev.syn, hoc := t.dev.hoc, ntu := t.dev.ntu } ∧
          t.dev.hoc.state.isMember = true ∧ t.dev.hoc.assignment = h.assignment ∧ t.dev.hoc.leave = none ∧
          t.dev.hoc.leaveStall = none ∧
          t.dev.ntu.entry .leaveStall = ⟨true, min 255 ((s.dev.ntu.entry .leaveStall).count + 1)⟩ ∧
          t.dev.hoc.acted = (match s.dev.ownView with
            | none => h.acted
            | some v => some v) ∧
          (s.dev.ownView = none → t.dev.hoc.state = l.back)))

/-! ### The counters of the cycle timer (chapters 7 and 8) -/

/-- R116, R133, R14, R136 to R138, R149: the join age and the second advance at the 500th expiry; before it the commands do nothing, which is the model's
reading of the two rows (log entry 13). The demand of the second goes into the peaks
of the open interval. A boundary of valid time switches an armed tariff, then closes, merges or discards the open interval. -/
def Obligations.CountersFallDueAtFiveHundred : Prop :=
  ∀ s : State, s.dev.awake →
    let m := s.dev.mtr
    let sec := if m.second = 86399 then 0 else m.second + 1
    let day := if m.second = 86399 then (if m.day = 65535 then 0 else m.day + 1) else m.day
    let mean := sat16 (tdiv (tdiv s.dev.msu.secSum 9600) 10000)
    let boundary := m.timeValid = true ∧ sec % 900 = 0
    let index := day * 96 + sec / 900
    let others : Int := match s.dev.hoc.assignment with
      | none => 0
      | some x => ((s.dev.ptb.members x).map (fun c => c.2.2.p)).sum
    let outlet := max mean (max (-32767) (min 32767 (mean + others)))
    let counted : Interval := if m.meteredMark = true then
        { m.interval with
          ownPeak := if m.interval.seconds = 0 then mean else max m.interval.ownPeak mean
          outletPeak := if m.interval.seconds = 0 then outlet else max m.interval.outletPeak outlet
          seconds := m.interval.seconds + 1 }
      else m.interval
    (s.dev.ownMember = false ∨ s.dev.hoc.joinTicks < 500 → exec .joinAgeTick s = .next s) ∧
    (s.dev.ownMember = true → 500 ≤ s.dev.hoc.joinTicks →
      exec .joinAgeTick s = .next { s with dev := { s.dev with
        hoc := { s.dev.hoc with joinTicks := s.dev.hoc.joinTicks - 500, joinAge := min 65535 (s.dev.hoc.joinAge + 1) } } }) ∧
    (m.cycleCount < 500 → exec .secondAdvance s = .next s) ∧
    (500 ≤ m.cycleCount →
      ∃ t, exec .secondAdvance s = .next t ∧ t.pending = s.pending ∧ t.dev.mtr.cycleCount = m.cycleCount - 500 ∧
        t.dev.mtr.second = sec ∧ t.dev.mtr.day = day ∧ t.dev.mtr.timeValid = m.timeValid ∧
        t.dev.msu = { s.dev.msu with mean := mean, secSum := 0 } ∧ t.dev.mtr.meteredMark = false ∧
        t.dev = { s.dev with msu := t.dev.msu, mtr := t.dev.mtr, rst := t.dev.rst, ntu := t.dev.ntu } ∧
        t.dev.rst.mem = s.dev.rst.mem ∧
        (¬boundary → t.dev.rst = s.dev.rst ∧ t.dev.ntu = s.dev.ntu ∧ t.dev.mtr.active = m.active ∧ t.dev.mtr.armed = m.armed ∧
          t.dev.mtr.interval = counted) ∧
        (boundary →
          t.dev.mtr.active = (if m.armed = true then (if m.active = .a then .b else .a) else m.active) ∧ t.dev.mtr.armed = false ∧
          (m.interval.metered = false →
            t.dev.rst = s.dev.rst ∧ t.dev.mtr.totCount = m.totCount ∧ t.dev.mtr.interval.first = some index ∧
            t.dev.mtr.interval.last = some index ∧ t.dev.mtr.interval.metered = false ∧ t.dev.mtr.interval.importWh = 0) ∧
          (m.interval.metered = true → 2 ≤ s.dev.rst.free → m.holder = [] →
            s.dev.rst.tookRecords [.interval counted] t.dev.rst ∧ t.dev.mtr.totCount = m.totCount + 1 ∧
            t.dev.mtr.interval.first = some index ∧ t.dev.mtr.interval.last = some index ∧ t.dev.mtr.interval.metered = false ∧
            t.dev.mtr.interval.importWh = 0 ∧ t.dev.mtr.interval.session = m.membership.map Membership.id) ∧
          (m.interval.metered = true → s.dev.rst.free < 2 ∨ m.holder ≠ [] →
            t.dev.rst = s.dev.rst ∧ t.dev.mtr.totCount = m.totCount ∧ t.dev.mtr.interval.first = m.interval.first ∧
            t.dev.mtr.interval.last = some index ∧ t.dev.mtr.interval.merged = true ∧
            t.dev.mtr.interval =
              { counted with
                last := some index
                merged := true
                mixedRate := counted.mixedRate || t.dev.mtr.classOf (some index) != m.interval.cls
                backward := counted.backward || (match counted.last with
                  | none => false
                  | some o => decide (index < o)) })))

/-! ### The record store (chapter 9) -/

/-- R152, R154, R153: a completion without its operation is nothing. A completed page program puts the images of the entries in program into its page and
lists them, and the write position moves on; a completed erase empties its sector. The first is log entry 4. The completion of a program stages the records of the
pending holder, oldest first, one for each entry free (R142, R149). Last the image of a staged record of each kind (R144, R149, R178, Table 12-7; log entries 16
and 54); that an INTERRUPTION carries NO_TIME is the model's reading (log entry 21). -/
def Obligations.StoreOperationsComplete : Prop :=
  (∀ s : State, s.dev.awake →
    let r := s.dev.rst
    let quiet := ∀ j, r.job = some j → j.ready ≠ none
    let done := r.queue.filter (fun e => e.inProgram)
    ((∀ x p, r.engine ≠ .programming x p) → exec .pageProgramComplete s = .next s) ∧
    ((∀ x, r.engine ≠ .erasing x) → exec .sectorEraseComplete s = .next s) ∧
    (∀ x p, r.engine = .programming x p →
      ∃ t, exec .pageProgramComplete s = .next t ∧ t.pending = s.pending ∧
        t.dev = { s.dev with mtr := t.dev.mtr, rst := t.dev.rst, ntu := t.dev.ntu } ∧
        t.dev.rst.mem = memWriteBytes r.mem (x.val * 1024 + p.val * 128) ((done.flatMap Staged.image).take 128) ∧
        (∀ a, a < x.val * 1024 + p.val * 128 ∨ x.val * 1024 + p.val * 128 + 128 ≤ a → memRead t.dev.rst.mem a = memRead r.mem a) ∧
        t.dev.rst.mark = r.mark ∧
        (r.newest + s.dev.mtr.holder.length < 4294967295 →
          let n := min s.dev.mtr.holder.length (16 - r.waiting.length)
          t.dev.mtr = { s.dev.mtr with holder := s.dev.mtr.holder.drop n } ∧
            ({ r with queue := r.waiting } : Rst).tookRecords (s.dev.mtr.holder.take n) t.dev.rst) ∧
        ((∃ q : Fin 8, t.dev.rst.posSector = x ∧ t.dev.rst.posPage = q ∧ p < q ∧ pageErased t.dev.rst.mem x q = true ∧
            ∀ u : Fin 8, p < u → u < q → pageErased t.dev.rst.mem x u = false) ∨
          ((∀ u : Fin 8, p < u → pageErased t.dev.rst.mem x u = false) ∧
            t.dev.rst.posSector = (if x = 63 then r.protect else x + 1) ∧ t.dev.rst.posPage = 0)) ∧
        (quiet → s.dev.mtr.holder = [] →
          t.dev.rst.slots = r.slots ++ done.mapIdx (fun i e => ⟨x.val * 32 + p.val * 4 + i, e.seq⟩) ∧
          t.dev.rst.table = r.table.set x ⟨true, done.getLast?.map Staged.seq⟩ ∧
          t.dev.rst.queue.map Staged.seq = r.waiting.map Staged.seq ∧ t.dev.rst.newest = r.newest)) ∧
    (∀ x, r.engine = .erasing x →
      ∃ t, exec .sectorEraseComplete s = .next t ∧ t.pending = s.pending ∧
        t.dev = { s.dev with rst := t.dev.rst, ntu := t.dev.ntu } ∧
        (∀ a, x.val * 1024 ≤ a → a < x.val * 1024 + 1024 → memRead t.dev.rst.mem a = 255) ∧
        (∀ a, a < x.val * 1024 ∨ x.val * 1024 + 1024 ≤ a → memRead t.dev.rst.mem a = memRead r.mem a) ∧
        t.dev.rst.mark = r.mark ∧ t.dev.rst.newest = r.newest ∧ t.dev.rst.posSector = r.posSector ∧ t.dev.rst.posPage = r.posPage ∧
        t.dev.rst.queue.map Staged.seq = r.queue.map Staged.seq ∧
        (quiet → t.dev.rst.slots = r.slots.filter (fun g => g.slot / 32 != x.val) ∧
          t.dev.rst.table = r.table.set x ⟨false, none⟩))) ∧
  ∀ (r : Rec) (seq : Nat), r.shownBy seq (recordImage seq r)

/-! ### Synthesis arithmetic -/

/-- R26: the increment is the truncated quotient of the rule, which is the value rounded half up; its values at 47 500, 50 000, 60 000 and 62 500 mHz; it rises with
every whole mHz; and the accumulator adds one increment for the set and one for each position missing before it, and wraps. -/
def Obligations.PhaseIncrementFollowsTheFrequency : Prop :=
  (∀ f : Nat, 47500 ≤ f → f ≤ 62500 →
    phaseIncrement f = (f * 4294967296 + 4800000) / 9600000 ∧ f * 4294967296 + 4800000 < 2 ^ 64 ∧
    2 * 9600000 * phaseIncrement f ≤ 2 * f * 4294967296 + 9600000 ∧
    2 * f * 4294967296 + 9600000 < 2 * 9600000 * (phaseIncrement f + 1) ∧
    21251140 ≤ phaseIncrement f ∧ phaseIncrement f ≤ 27962027 ∧ phaseIncrement f < phaseIncrement ((f + 1 : Nat) : Int)) ∧
  phaseIncrement 47500 = 21251140 ∧ phaseIncrement 50000 = 22369621 ∧ phaseIncrement 60000 = 26843546 ∧
  phaseIncrement 62500 = 27962027 ∧
  (∀ (d : Dev) (gap : Nat),
    (d.synthesise gap).increment = phaseIncrement (d.synthesise gap).fCmd ∧
    (d.synthesise gap).phase =
      (d.syu.phase + (if d.syu.firstStep = true then 1 else gap + 1) * (d.synthesise gap).increment) % 4294967296 ∧
    (d.syu.fNom : Int) - 2500 ≤ (d.synthesise gap).fCmd ∧ (d.synthesise gap).fCmd ≤ d.syu.fNom + 2500)

/-! ### Laws that every command keeps -/

/-- The machine after reset meets every law below. -/
def Obligations.ResetMeetsEveryLaw : Prop :=
  State.reset.interlocked ∧ State.reset.oneCoil ∧ State.reset.bounded ∧ State.reset.storeSound ∧ State.reset.meterSound ∧
    State.reset.noticesSound ∧ State.reset.repliesAnswered ∧ State.reset.memberSound ∧ State.reset.commandsBounded ∧
    State.reset.fullRests

/-- R73, R74: whatever the command, a cell never has both contactors out of OPEN, and no contactor has both coils energised. -/
def Obligations.ContactorsStayInterlocked : Prop :=
  ∀ s t : State, s.interlocked → s.oneCoil → step s = .next t → t.interlocked ∧ t.oneCoil

/-- R30, R34: whatever the command, the ramp offset, the joining offset and the steering voltage stay inside their bounds. R24, R28: so do the frequency command
and the voltage command whenever the run flag is set; from its setting to the first step after it they are free values inside those bounds (log entry 40). -/
def Obligations.OffsetsStayBounded : Prop :=
  (∀ s t : State, s.bounded → step s = .next t → t.bounded) ∧
    ∀ s t : State, s.commandsBounded → step s = .next t → t.commandsBounded

/-- R147 to R149, R158: whatever the command, the store's bytes keep their canonical form inside the 65 536 addresses, at most 16 entries are staged, and the
confirmed mark does not pass the newest number assigned. R156: while the store is FULL its engine is IDLE, over a page at the write position that is not erased,
page 0 of a USED sector included (log entry 51). -/
def Obligations.StoreStaysSound : Prop :=
  (∀ s t : State, s.storeSound → step s = .next t → t.storeSound) ∧ ∀ s t : State, s.fullRests → step s = .next t → t.fullRests

/-- R131, R142: whatever the command, less than one watt-hour stays in the residue, and at most two records wait in the pending holder. -/
def Obligations.MeterStaysSound : Prop := ∀ s t : State, s.meterSound → step s = .next t → t.meterSound

/-- R165, R166, R169, R171: whatever the command, a kind stands in the notice queue at most once, the counts saturate, and every place of the reply queue is filled. -/
def Obligations.NoticesAndRepliesStaySound : Prop :=
  ∀ s t : State, s.noticesSound → s.repliesAnswered → step s = .next t → t.noticesSound ∧ t.repliesAnswered

/-- R106, R110, R111, R117: whatever the command, a cell in a member state is joined to its assigned outlet by a CLOSED contactor, and a leave returns to no other state. -/
def Obligations.MembersAreJoinedToTheirOutlet : Prop := ∀ s t : State, s.memberSound → step s = .next t → t.memberSound
end

