-- ==== Sys2Proof/Laws/State.lean ====
section
/-! SUPPORT. One lemma for each field under each update of the part, true by definition, so that no proof unfolds a record update. -/

namespace Sys2Proof.Machine

@[simp] theorem State.onDev_dev (s : State) (f : Dev → Dev) : (s.onDev f).dev = f s.dev := (rfl)
@[simp] theorem State.onDev_pending (s : State) (f : Dev → Dev) : (s.onDev f).pending = s.pending := (rfl)

@[simp] theorem Dev.setRun_run (d : Dev) (x : RunState) : (d.setRun x).run = x := (rfl)
@[simp] theorem Dev.setRun_pins (d : Dev) (x : RunState) : (d.setRun x).pins = d.pins := (rfl)
@[simp] theorem Dev.setRun_cfg (d : Dev) (x : RunState) : (d.setRun x).cfg = d.cfg := (rfl)
@[simp] theorem Dev.setRun_lnk (d : Dev) (x : RunState) : (d.setRun x).lnk = d.lnk := (rfl)
@[simp] theorem Dev.setRun_ptb (d : Dev) (x : RunState) : (d.setRun x).ptb = d.ptb := (rfl)
@[simp] theorem Dev.setRun_msu (d : Dev) (x : RunState) : (d.setRun x).msu = d.msu := (rfl)
@[simp] theorem Dev.setRun_syu (d : Dev) (x : RunState) : (d.setRun x).syu = d.syu := (rfl)
@[simp] theorem Dev.setRun_ctc (d : Dev) (x : RunState) : (d.setRun x).ctc = d.ctc := (rfl)
@[simp] theorem Dev.setRun_syn (d : Dev) (x : RunState) : (d.setRun x).syn = d.syn := (rfl)
@[simp] theorem Dev.setRun_hoc (d : Dev) (x : RunState) : (d.setRun x).hoc = d.hoc := (rfl)
@[simp] theorem Dev.setRun_mtr (d : Dev) (x : RunState) : (d.setRun x).mtr = d.mtr := (rfl)
@[simp] theorem Dev.setRun_rst (d : Dev) (x : RunState) : (d.setRun x).rst = d.rst := (rfl)
@[simp] theorem Dev.setRun_ntu (d : Dev) (x : RunState) : (d.setRun x).ntu = d.ntu := (rfl)
@[simp] theorem Dev.setRun_freeIdx (d : Dev) (x : RunState) : (d.setRun x).freeIdx = d.freeIdx := (rfl)

@[simp] theorem Dev.setPins_run (d : Dev) (x : Pins) : (d.setPins x).run = d.run := (rfl)
@[simp] theorem Dev.setPins_pins (d : Dev) (x : Pins) : (d.setPins x).pins = x := (rfl)
@[simp] theorem Dev.setPins_cfg (d : Dev) (x : Pins) : (d.setPins x).cfg = d.cfg := (rfl)
@[simp] theorem Dev.setPins_lnk (d : Dev) (x : Pins) : (d.setPins x).lnk = d.lnk := (rfl)
@[simp] theorem Dev.setPins_ptb (d : Dev) (x : Pins) : (d.setPins x).ptb = d.ptb := (rfl)
@[simp] theorem Dev.setPins_msu (d : Dev) (x : Pins) : (d.setPins x).msu = d.msu := (rfl)
@[simp] theorem Dev.setPins_syu (d : Dev) (x : Pins) : (d.setPins x).syu = d.syu := (rfl)
@[simp] theorem Dev.setPins_ctc (d : Dev) (x : Pins) : (d.setPins x).ctc = d.ctc := (rfl)
@[simp] theorem Dev.setPins_syn (d : Dev) (x : Pins) : (d.setPins x).syn = d.syn := (rfl)
@[simp] theorem Dev.setPins_hoc (d : Dev) (x : Pins) : (d.setPins x).hoc = d.hoc := (rfl)
@[simp] theorem Dev.setPins_mtr (d : Dev) (x : Pins) : (d.setPins x).mtr = d.mtr := (rfl)
@[simp] theorem Dev.setPins_rst (d : Dev) (x : Pins) : (d.setPins x).rst = d.rst := (rfl)
@[simp] theorem Dev.setPins_ntu (d : Dev) (x : Pins) : (d.setPins x).ntu = d.ntu := (rfl)
@[simp] theorem Dev.setPins_freeIdx (d : Dev) (x : Pins) : (d.setPins x).freeIdx = d.freeIdx := (rfl)

@[simp] theorem Dev.setCfg_run (d : Dev) (x : Cfg) : (d.setCfg x).run = d.run := (rfl)
@[simp] theorem Dev.setCfg_pins (d : Dev) (x : Cfg) : (d.setCfg x).pins = d.pins := (rfl)
@[simp] theorem Dev.setCfg_cfg (d : Dev) (x : Cfg) : (d.setCfg x).cfg = x := (rfl)
@[simp] theorem Dev.setCfg_lnk (d : Dev) (x : Cfg) : (d.setCfg x).lnk = d.lnk := (rfl)
@[simp] theorem Dev.setCfg_ptb (d : Dev) (x : Cfg) : (d.setCfg x).ptb = d.ptb := (rfl)
@[simp] theorem Dev.setCfg_msu (d : Dev) (x : Cfg) : (d.setCfg x).msu = d.msu := (rfl)
@[simp] theorem Dev.setCfg_syu (d : Dev) (x : Cfg) : (d.setCfg x).syu = d.syu := (rfl)
@[simp] theorem Dev.setCfg_ctc (d : Dev) (x : Cfg) : (d.setCfg x).ctc = d.ctc := (rfl)
@[simp] theorem Dev.setCfg_syn (d : Dev) (x : Cfg) : (d.setCfg x).syn = d.syn := (rfl)
@[simp] theorem Dev.setCfg_hoc (d : Dev) (x : Cfg) : (d.setCfg x).hoc = d.hoc := (rfl)
@[simp] theorem Dev.setCfg_mtr (d : Dev) (x : Cfg) : (d.setCfg x).mtr = d.mtr := (rfl)
@[simp] theorem Dev.setCfg_rst (d : Dev) (x : Cfg) : (d.setCfg x).rst = d.rst := (rfl)
@[simp] theorem Dev.setCfg_ntu (d : Dev) (x : Cfg) : (d.setCfg x).ntu = d.ntu := (rfl)
@[simp] theorem Dev.setCfg_freeIdx (d : Dev) (x : Cfg) : (d.setCfg x).freeIdx = d.freeIdx := (rfl)

@[simp] theorem Dev.setLnk_run (d : Dev) (x : Lnk) : (d.setLnk x).run = d.run := (rfl)
@[simp] theorem Dev.setLnk_pins (d : Dev) (x : Lnk) : (d.setLnk x).pins = d.pins := (rfl)
@[simp] theorem Dev.setLnk_cfg (d : Dev) (x : Lnk) : (d.setLnk x).cfg = d.cfg := (rfl)
@[simp] theorem Dev.setLnk_lnk (d : Dev) (x : Lnk) : (d.setLnk x).lnk = x := (rfl)
@[simp] theorem Dev.setLnk_ptb (d : Dev) (x : Lnk) : (d.setLnk x).ptb = d.ptb := (rfl)
@[simp] theorem Dev.setLnk_msu (d : Dev) (x : Lnk) : (d.setLnk x).msu = d.msu := (rfl)
@[simp] theorem Dev.setLnk_syu (d : Dev) (x : Lnk) : (d.setLnk x).syu = d.syu := (rfl)
@[simp] theorem Dev.setLnk_ctc (d : Dev) (x : Lnk) : (d.setLnk x).ctc = d.ctc := (rfl)
@[simp] theorem Dev.setLnk_syn (d : Dev) (x : Lnk) : (d.setLnk x).syn = d.syn := (rfl)
@[simp] theorem Dev.setLnk_hoc (d : Dev) (x : Lnk) : (d.setLnk x).hoc = d.hoc := (rfl)
@[simp] theorem Dev.setLnk_mtr (d : Dev) (x : Lnk) : (d.setLnk x).mtr = d.mtr := (rfl)
@[simp] theorem Dev.setLnk_rst (d : Dev) (x : Lnk) : (d.setLnk x).rst = d.rst := (rfl)
@[simp] theorem Dev.setLnk_ntu (d : Dev) (x : Lnk) : (d.setLnk x).ntu = d.ntu := (rfl)
@[simp] theorem Dev.setLnk_freeIdx (d : Dev) (x : Lnk) : (d.setLnk x).freeIdx = d.freeIdx := (rfl)

@[simp] theorem Dev.setPtb_run (d : Dev) (x : Ptb) : (d.setPtb x).run = d.run := (rfl)
@[simp] theorem Dev.setPtb_pins (d : Dev) (x : Ptb) : (d.setPtb x).pins = d.pins := (rfl)
@[simp] theorem Dev.setPtb_cfg (d : Dev) (x : Ptb) : (d.setPtb x).cfg = d.cfg := (rfl)
@[simp] theorem Dev.setPtb_lnk (d : Dev) (x : Ptb) : (d.setPtb x).lnk = d.lnk := (rfl)
@[simp] theorem Dev.setPtb_ptb (d : Dev) (x : Ptb) : (d.setPtb x).ptb = x := (rfl)
@[simp] theorem Dev.setPtb_msu (d : Dev) (x : Ptb) : (d.setPtb x).msu = d.msu := (rfl)
@[simp] theorem Dev.setPtb_syu (d : Dev) (x : Ptb) : (d.setPtb x).syu = d.syu := (rfl)
@[simp] theorem Dev.setPtb_ctc (d : Dev) (x : Ptb) : (d.setPtb x).ctc = d.ctc := (rfl)
@[simp] theorem Dev.setPtb_syn (d : Dev) (x : Ptb) : (d.setPtb x).syn = d.syn := (rfl)
@[simp] theorem Dev.setPtb_hoc (d : Dev) (x : Ptb) : (d.setPtb x).hoc = d.hoc := (rfl)
@[simp] theorem Dev.setPtb_mtr (d : Dev) (x : Ptb) : (d.setPtb x).mtr = d.mtr := (rfl)
@[simp] theorem Dev.setPtb_rst (d : Dev) (x : Ptb) : (d.setPtb x).rst = d.rst := (rfl)
@[simp] theorem Dev.setPtb_ntu (d : Dev) (x : Ptb) : (d.setPtb x).ntu = d.ntu := (rfl)
@[simp] theorem Dev.setPtb_freeIdx (d : Dev) (x : Ptb) : (d.setPtb x).freeIdx = d.freeIdx := (rfl)

@[simp] theorem Dev.setMsu_run (d : Dev) (x : Msu) : (d.setMsu x).run = d.run := (rfl)
@[simp] theorem Dev.setMsu_pins (d : Dev) (x : Msu) : (d.setMsu x).pins = d.pins := (rfl)
@[simp] theorem Dev.setMsu_cfg (d : Dev) (x : Msu) : (d.setMsu x).cfg = d.cfg := (rfl)
@[simp] theorem Dev.setMsu_lnk (d : Dev) (x : Msu) : (d.setMsu x).lnk = d.lnk := (rfl)
@[simp] theorem Dev.setMsu_ptb (d : Dev) (x : Msu) : (d.setMsu x).ptb = d.ptb := (rfl)
@[simp] theorem Dev.setMsu_msu (d : Dev) (x : Msu) : (d.setMsu x).msu = x := (rfl)
@[simp] theorem Dev.setMsu_syu (d : Dev) (x : Msu) : (d.setMsu x).syu = d.syu := (rfl)
@[simp] theorem Dev.setMsu_ctc (d : Dev) (x : Msu) : (d.setMsu x).ctc = d.ctc := (rfl)
@[simp] theorem Dev.setMsu_syn (d : Dev) (x : Msu) : (d.setMsu x).syn = d.syn := (rfl)
@[simp] theorem Dev.setMsu_hoc (d : Dev) (x : Msu) : (d.setMsu x).hoc = d.hoc := (rfl)
@[simp] theorem Dev.setMsu_mtr (d : Dev) (x : Msu) : (d.setMsu x).mtr = d.mtr := (rfl)
@[simp] theorem Dev.setMsu_rst (d : Dev) (x : Msu) : (d.setMsu x).rst = d.rst := (rfl)
@[simp] theorem Dev.setMsu_ntu (d : Dev) (x : Msu) : (d.setMsu x).ntu = d.ntu := (rfl)
@[simp] theorem Dev.setMsu_freeIdx (d : Dev) (x : Msu) : (d.setMsu x).freeIdx = d.freeIdx := (rfl)

@[simp] theorem Dev.setSyu_run (d : Dev) (x : Syu) : (d.setSyu x).run = d.run := (rfl)
@[simp] theorem Dev.setSyu_pins (d : Dev) (x : Syu) : (d.setSyu x).pins = d.pins := (rfl)
@[simp] theorem Dev.setSyu_cfg (d : Dev) (x : Syu) : (d.setSyu x).cfg = d.cfg := (rfl)
@[simp] theorem Dev.setSyu_lnk (d : Dev) (x : Syu) : (d.setSyu x).lnk = d.lnk := (rfl)
@[simp] theorem Dev.setSyu_ptb (d : Dev) (x : Syu) : (d.setSyu x).ptb = d.ptb := (rfl)
@[simp] theorem Dev.setSyu_msu (d : Dev) (x : Syu) : (d.setSyu x).msu = d.msu := (rfl)
@[simp] theorem Dev.setSyu_syu (d : Dev) (x : Syu) : (d.setSyu x).syu = x := (rfl)
@[simp] theorem Dev.setSyu_ctc (d : Dev) (x : Syu) : (d.setSyu x).ctc = d.ctc := (rfl)
@[simp] theorem Dev.setSyu_syn (d : Dev) (x : Syu) : (d.setSyu x).syn = d.syn := (rfl)
@[simp] theorem Dev.setSyu_hoc (d : Dev) (x : Syu) : (d.setSyu x).hoc = d.hoc := (rfl)
@[simp] theorem Dev.setSyu_mtr (d : Dev) (x : Syu) : (d.setSyu x).mtr = d.mtr := (rfl)
@[simp] theorem Dev.setSyu_rst (d : Dev) (x : Syu) : (d.setSyu x).rst = d.rst := (rfl)
@[simp] theorem Dev.setSyu_ntu (d : Dev) (x : Syu) : (d.setSyu x).ntu = d.ntu := (rfl)
@[simp] theorem Dev.setSyu_freeIdx (d : Dev) (x : Syu) : (d.setSyu x).freeIdx = d.freeIdx := (rfl)

@[simp] theorem Dev.setCtc_run (d : Dev) (x : Ctc) : (d.setCtc x).run = d.run := (rfl)
@[simp] theorem Dev.setCtc_pins (d : Dev) (x : Ctc) : (d.setCtc x).pins = d.pins := (rfl)
@[simp] theorem Dev.setCtc_cfg (d : Dev) (x : Ctc) : (d.setCtc x).cfg = d.cfg := (rfl)
@[simp] theorem Dev.setCtc_lnk (d : Dev) (x : Ctc) : (d.setCtc x).lnk = d.lnk := (rfl)
@[simp] theorem Dev.setCtc_ptb (d : Dev) (x : Ctc) : (d.setCtc x).ptb = d.ptb := (rfl)
@[simp] theorem Dev.setCtc_msu (d : Dev) (x : Ctc) : (d.setCtc x).msu = d.msu := (rfl)
@[simp] theorem Dev.setCtc_syu (d : Dev) (x : Ctc) : (d.setCtc x).syu = d.syu := (rfl)
@[simp] theorem Dev.setCtc_ctc (d : Dev) (x : Ctc) : (d.setCtc x).ctc = x := (rfl)
@[simp] theorem Dev.setCtc_syn (d : Dev) (x : Ctc) : (d.setCtc x).syn = d.syn := (rfl)
@[simp] theorem Dev.setCtc_hoc (d : Dev) (x : Ctc) : (d.setCtc x).hoc = d.hoc := (rfl)
@[simp] theorem Dev.setCtc_mtr (d : Dev) (x : Ctc) : (d.setCtc x).mtr = d.mtr := (rfl)
@[simp] theorem Dev.setCtc_rst (d : Dev) (x : Ctc) : (d.setCtc x).rst = d.rst := (rfl)
@[simp] theorem Dev.setCtc_ntu (d : Dev) (x : Ctc) : (d.setCtc x).ntu = d.ntu := (rfl)
@[simp] theorem Dev.setCtc_freeIdx (d : Dev) (x : Ctc) : (d.setCtc x).freeIdx = d.freeIdx := (rfl)

@[simp] theorem Dev.setSyn_run (d : Dev) (x : Syn) : (d.setSyn x).run = d.run := (rfl)
@[simp] theorem Dev.setSyn_pins (d : Dev) (x : Syn) : (d.setSyn x).pins = d.pins := (rfl)
@[simp] theorem Dev.setSyn_cfg (d : Dev) (x : Syn) : (d.setSyn x).cfg = d.cfg := (rfl)
@[simp] theorem Dev.setSyn_lnk (d : Dev) (x : Syn) : (d.setSyn x).lnk = d.lnk := (rfl)
@[simp] theorem Dev.setSyn_ptb (d : Dev) (x : Syn) : (d.setSyn x).ptb = d.ptb := (rfl)
@[simp] theorem Dev.setSyn_msu (d : Dev) (x : Syn) : (d.setSyn x).msu = d.msu := (rfl)
@[simp] theorem Dev.setSyn_syu (d : Dev) (x : Syn) : (d.setSyn x).syu = d.syu := (rfl)
@[simp] theorem Dev.setSyn_ctc (d : Dev) (x : Syn) : (d.setSyn x).ctc = d.ctc := (rfl)
@[simp] theorem Dev.setSyn_syn (d : Dev) (x : Syn) : (d.setSyn x).syn = x := (rfl)
@[simp] theorem Dev.setSyn_hoc (d : Dev) (x : Syn) : (d.setSyn x).hoc = d.hoc := (rfl)
@[simp] theorem Dev.setSyn_mtr (d : Dev) (x : Syn) : (d.setSyn x).mtr = d.mtr := (rfl)
@[simp] theorem Dev.setSyn_rst (d : Dev) (x : Syn) : (d.setSyn x).rst = d.rst := (rfl)
@[simp] theorem Dev.setSyn_ntu (d : Dev) (x : Syn) : (d.setSyn x).ntu = d.ntu := (rfl)
@[simp] theorem Dev.setSyn_freeIdx (d : Dev) (x : Syn) : (d.setSyn x).freeIdx = d.freeIdx := (rfl)

@[simp] theorem Dev.setHoc_run (d : Dev) (x : Hoc) : (d.setHoc x).run = d.run := (rfl)
@[simp] theorem Dev.setHoc_pins (d : Dev) (x : Hoc) : (d.setHoc x).pins = d.pins := (rfl)
@[simp] theorem Dev.setHoc_cfg (d : Dev) (x : Hoc) : (d.setHoc x).cfg = d.cfg := (rfl)
@[simp] theorem Dev.setHoc_lnk (d : Dev) (x : Hoc) : (d.setHoc x).lnk = d.lnk := (rfl)
@[simp] theorem Dev.setHoc_ptb (d : Dev) (x : Hoc) : (d.setHoc x).ptb = d.ptb := (rfl)
@[simp] theorem Dev.setHoc_msu (d : Dev) (x : Hoc) : (d.setHoc x).msu = d.msu := (rfl)
@[simp] theorem Dev.setHoc_syu (d : Dev) (x : Hoc) : (d.setHoc x).syu = d.syu := (rfl)
@[simp] theorem Dev.setHoc_ctc (d : Dev) (x : Hoc) : (d.setHoc x).ctc = d.ctc := (rfl)
@[simp] theorem Dev.setHoc_syn (d : Dev) (x : Hoc) : (d.setHoc x).syn = d.syn := (rfl)
@[simp] theorem Dev.setHoc_hoc (d : Dev) (x : Hoc) : (d.setHoc x).hoc = x := (rfl)
@[simp] theorem Dev.setHoc_mtr (d : Dev) (x : Hoc) : (d.setHoc x).mtr = d.mtr := (rfl)
@[simp] theorem Dev.setHoc_rst (d : Dev) (x : Hoc) : (d.setHoc x).rst = d.rst := (rfl)
@[simp] theorem Dev.setHoc_ntu (d : Dev) (x : Hoc) : (d.setHoc x).ntu = d.ntu := (rfl)
@[simp] theorem Dev.setHoc_freeIdx (d : Dev) (x : Hoc) : (d.setHoc x).freeIdx = d.freeIdx := (rfl)

@[simp] theorem Dev.setMtr_run (d : Dev) (x : Mtr) : (d.setMtr x).run = d.run := (rfl)
@[simp] theorem Dev.setMtr_pins (d : Dev) (x : Mtr) : (d.setMtr x).pins = d.pins := (rfl)
@[simp] theorem Dev.setMtr_cfg (d : Dev) (x : Mtr) : (d.setMtr x).cfg = d.cfg := (rfl)
@[simp] theorem Dev.setMtr_lnk (d : Dev) (x : Mtr) : (d.setMtr x).lnk = d.lnk := (rfl)
@[simp] theorem Dev.setMtr_ptb (d : Dev) (x : Mtr) : (d.setMtr x).ptb = d.ptb := (rfl)
@[simp] theorem Dev.setMtr_msu (d : Dev) (x : Mtr) : (d.setMtr x).msu = d.msu := (rfl)
@[simp] theorem Dev.setMtr_syu (d : Dev) (x : Mtr) : (d.setMtr x).syu = d.syu := (rfl)
@[simp] theorem Dev.setMtr_ctc (d : Dev) (x : Mtr) : (d.setMtr x).ctc = d.ctc := (rfl)
@[simp] theorem Dev.setMtr_syn (d : Dev) (x : Mtr) : (d.setMtr x).syn = d.syn := (rfl)
@[simp] theorem Dev.setMtr_hoc (d : Dev) (x : Mtr) : (d.setMtr x).hoc = d.hoc := (rfl)
@[simp] theorem Dev.setMtr_mtr (d : Dev) (x : Mtr) : (d.setMtr x).mtr = x := (rfl)
@[simp] theorem Dev.setMtr_rst (d : Dev) (x : Mtr) : (d.setMtr x).rst = d.rst := (rfl)
@[simp] theorem Dev.setMtr_ntu (d : Dev) (x : Mtr) : (d.setMtr x).ntu = d.ntu := (rfl)
@[simp] theorem Dev.setMtr_freeIdx (d : Dev) (x : Mtr) : (d.setMtr x).freeIdx = d.freeIdx := (rfl)

@[simp] theorem Dev.setRst_run (d : Dev) (x : Rst) : (d.setRst x).run = d.run := (rfl)
@[simp] theorem Dev.setRst_pins (d : Dev) (x : Rst) : (d.setRst x).pins = d.pins := (rfl)
@[simp] theorem Dev.setRst_cfg (d : Dev) (x : Rst) : (d.setRst x).cfg = d.cfg := (rfl)
@[simp] theorem Dev.setRst_lnk (d : Dev) (x : Rst) : (d.setRst x).lnk = d.lnk := (rfl)
@[simp] theorem Dev.setRst_ptb (d : Dev) (x : Rst) : (d.setRst x).ptb = d.ptb := (rfl)
@[simp] theorem Dev.setRst_msu (d : Dev) (x : Rst) : (d.setRst x).msu = d.msu := (rfl)
@[simp] theorem Dev.setRst_syu (d : Dev) (x : Rst) : (d.setRst x).syu = d.syu := (rfl)
@[simp] theorem Dev.setRst_ctc (d : Dev) (x : Rst) : (d.setRst x).ctc = d.ctc := (rfl)
@[simp] theorem Dev.setRst_syn (d : Dev) (x : Rst) : (d.setRst x).syn = d.syn := (rfl)
@[simp] theorem Dev.setRst_hoc (d : Dev) (x : Rst) : (d.setRst x).hoc = d.hoc := (rfl)
@[simp] theorem Dev.setRst_mtr (d : Dev) (x : Rst) : (d.setRst x).mtr = d.mtr := (rfl)
@[simp] theorem Dev.setRst_rst (d : Dev) (x : Rst) : (d.setRst x).rst = x := (rfl)
@[simp] theorem Dev.setRst_ntu (d : Dev) (x : Rst) : (d.setRst x).ntu = d.ntu := (rfl)
@[simp] theorem Dev.setRst_freeIdx (d : Dev) (x : Rst) : (d.setRst x).freeIdx = d.freeIdx := (rfl)

@[simp] theorem Dev.setNtu_run (d : Dev) (x : Ntu) : (d.setNtu x).run = d.run := (rfl)
@[simp] theorem Dev.setNtu_pins (d : Dev) (x : Ntu) : (d.setNtu x).pins = d.pins := (rfl)
@[simp] theorem Dev.setNtu_cfg (d : Dev) (x : Ntu) : (d.setNtu x).cfg = d.cfg := (rfl)
@[simp] theorem Dev.setNtu_lnk (d : Dev) (x : Ntu) : (d.setNtu x).lnk = d.lnk := (rfl)
@[simp] theorem Dev.setNtu_ptb (d : Dev) (x : Ntu) : (d.setNtu x).ptb = d.ptb := (rfl)
@[simp] theorem Dev.setNtu_msu (d : Dev) (x : Ntu) : (d.setNtu x).msu = d.msu := (rfl)
@[simp] theorem Dev.setNtu_syu (d : Dev) (x : Ntu) : (d.setNtu x).syu = d.syu := (rfl)
@[simp] theorem Dev.setNtu_ctc (d : Dev) (x : Ntu) : (d.setNtu x).ctc = d.ctc := (rfl)
@[simp] theorem Dev.setNtu_syn (d : Dev) (x : Ntu) : (d.setNtu x).syn = d.syn := (rfl)
@[simp] theorem Dev.setNtu_hoc (d : Dev) (x : Ntu) : (d.setNtu x).hoc = d.hoc := (rfl)
@[simp] theorem Dev.setNtu_mtr (d : Dev) (x : Ntu) : (d.setNtu x).mtr = d.mtr := (rfl)
@[simp] theorem Dev.setNtu_rst (d : Dev) (x : Ntu) : (d.setNtu x).rst = d.rst := (rfl)
@[simp] theorem Dev.setNtu_ntu (d : Dev) (x : Ntu) : (d.setNtu x).ntu = x := (rfl)
@[simp] theorem Dev.setNtu_freeIdx (d : Dev) (x : Ntu) : (d.setNtu x).freeIdx = d.freeIdx := (rfl)

@[simp] theorem Dev.setFreeIdx_run (d : Dev) (x : Nat) : (d.setFreeIdx x).run = d.run := (rfl)
@[simp] theorem Dev.setFreeIdx_pins (d : Dev) (x : Nat) : (d.setFreeIdx x).pins = d.pins := (rfl)
@[simp] theorem Dev.setFreeIdx_cfg (d : Dev) (x : Nat) : (d.setFreeIdx x).cfg = d.cfg := (rfl)
@[simp] theorem Dev.setFreeIdx_lnk (d : Dev) (x : Nat) : (d.setFreeIdx x).lnk = d.lnk := (rfl)
@[simp] theorem Dev.setFreeIdx_ptb (d : Dev) (x : Nat) : (d.setFreeIdx x).ptb = d.ptb := (rfl)
@[simp] theorem Dev.setFreeIdx_msu (d : Dev) (x : Nat) : (d.setFreeIdx x).msu = d.msu := (rfl)
@[simp] theorem Dev.setFreeIdx_syu (d : Dev) (x : Nat) : (d.setFreeIdx x).syu = d.syu := (rfl)
@[simp] theorem Dev.setFreeIdx_ctc (d : Dev) (x : Nat) : (d.setFreeIdx x).ctc = d.ctc := (rfl)
@[simp] theorem Dev.setFreeIdx_syn (d : Dev) (x : Nat) : (d.setFreeIdx x).syn = d.syn := (rfl)
@[simp] theorem Dev.setFreeIdx_hoc (d : Dev) (x : Nat) : (d.setFreeIdx x).hoc = d.hoc := (rfl)
@[simp] theorem Dev.setFreeIdx_mtr (d : Dev) (x : Nat) : (d.setFreeIdx x).mtr = d.mtr := (rfl)
@[simp] theorem Dev.setFreeIdx_rst (d : Dev) (x : Nat) : (d.setFreeIdx x).rst = d.rst := (rfl)
@[simp] theorem Dev.setFreeIdx_ntu (d : Dev) (x : Nat) : (d.setFreeIdx x).ntu = d.ntu := (rfl)
@[simp] theorem Dev.setFreeIdx_freeIdx (d : Dev) (x : Nat) : (d.setFreeIdx x).freeIdx = x := (rfl)

/-! ### The two session records, the two contactor records and the two channels -/

@[simp] theorem Ctc.get_a (c : Ctc) : c.get .a = c.a := (rfl)
@[simp] theorem Ctc.get_b (c : Ctc) : c.get .b = c.b := (rfl)
@[simp] theorem Ctc.set_a (c : Ctc) (v : Contactor) : c.set .a v = { c with a := v } := (rfl)
@[simp] theorem Ctc.set_b (c : Ctc) (v : Contactor) : c.set .b v = { c with b := v } := (rfl)
theorem Ctc.get_set_same (c : Ctc) (x : Outlet) (v : Contactor) : (c.set x v).get x = v := by cases x <;> rfl
theorem Ctc.get_set_other (c : Ctc) (x : Outlet) (v : Contactor) : (c.set x v).get (otherOutlet x) = c.get (otherOutlet x) := by
  cases x <;> rfl
theorem Hoc.session_setSession_same (h : Hoc) (x : Outlet) (v : Option Session) : (h.setSession x v).session x = v := by
  cases x <;> rfl
theorem Hoc.session_setSession_other (h : Hoc) (x : Outlet) (v : Option Session) :
    (h.setSession x v).session (otherOutlet x) = h.session (otherOutlet x) := by cases x <;> rfl
theorem Hoc.setSession_state (h : Hoc) (x : Outlet) (v : Option Session) : (h.setSession x v).state = h.state := by
  cases x <;> rfl
theorem Hoc.setSession_assignment (h : Hoc) (x : Outlet) (v : Option Session) :
    (h.setSession x v).assignment = h.assignment := by cases x <;> rfl
@[simp] theorem Dev.setCon_dev (d : Dev) (x : Outlet) (c : Contactor) : (d.setCon x c).ctc = d.ctc.set x c := (rfl)
@[simp] theorem Dev.setCellCh_syn (d : Dev) (c : Channel) : (d.setCellCh c).syn = { d.syn with cell := c } := (rfl)
@[simp] theorem Dev.setShipCh_syn (d : Dev) (c : Channel) : (d.setShipCh c).syn = { d.syn with ship := c } := (rfl)

end Sys2Proof.Machine
end

