-- ==== Sys2Proof/Laws/Frames.lean ====
section
/-! SUPPORT. What each shared operation leaves alone: one lemma for each part of the device that it does not write. -/

namespace Sys2Proof.Machine

/-! ### Notices and free choices -/

@[simp] theorem Dev.spend_frame (d : Dev) :
    d.spend.run = d.run ∧ d.spend.pins = d.pins ∧ d.spend.cfg = d.cfg ∧
    d.spend.lnk = d.lnk ∧ d.spend.ptb = d.ptb ∧ d.spend.msu = d.msu ∧
    d.spend.syu = d.syu ∧ d.spend.ctc = d.ctc ∧ d.spend.syn = d.syn ∧
    d.spend.hoc = d.hoc ∧ d.spend.mtr = d.mtr ∧ d.spend.rst = d.rst ∧
    d.spend.ntu = d.ntu := by
  simp [Dev.spend]

@[simp] theorem Dev.raise_frame (d : Dev) (k : NoticeKind) :
    (d.raise k).run = d.run ∧ (d.raise k).pins = d.pins ∧ (d.raise k).cfg = d.cfg ∧
    (d.raise k).lnk = d.lnk ∧ (d.raise k).ptb = d.ptb ∧ (d.raise k).msu = d.msu ∧
    (d.raise k).syu = d.syu ∧ (d.raise k).ctc = d.ctc ∧ (d.raise k).syn = d.syn ∧
    (d.raise k).hoc = d.hoc ∧ (d.raise k).mtr = d.mtr ∧ (d.raise k).rst = d.rst ∧
    (d.raise k).freeIdx = d.freeIdx := by
  simp only [Dev.raise]
  simp

@[simp] theorem Dev.raiseIf_frame (d : Dev) (c : Bool) (k : NoticeKind) :
    (d.raiseIf c k).run = d.run ∧ (d.raiseIf c k).pins = d.pins ∧ (d.raiseIf c k).cfg = d.cfg ∧
    (d.raiseIf c k).lnk = d.lnk ∧ (d.raiseIf c k).ptb = d.ptb ∧ (d.raiseIf c k).msu = d.msu ∧
    (d.raiseIf c k).syu = d.syu ∧ (d.raiseIf c k).ctc = d.ctc ∧ (d.raiseIf c k).syn = d.syn ∧
    (d.raiseIf c k).hoc = d.hoc ∧ (d.raiseIf c k).mtr = d.mtr ∧ (d.raiseIf c k).rst = d.rst ∧
    (d.raiseIf c k).freeIdx = d.freeIdx := by
  simp only [Dev.raiseIf]
  (repeat' split) <;> simp

/-! ### The record store -/

@[simp] theorem Dev.readLoop_run (n : Nat) (j : Job) (d : Dev) : (Dev.readLoop n j d).run = d.run := by
  induction n generalizing d with
  | zero => rfl
  | succ n ih =>
    simp only [Dev.readLoop]
    split
    · rfl
    · rw [ih]; rfl
@[simp] theorem Dev.readLoop_pins (n : Nat) (j : Job) (d : Dev) : (Dev.readLoop n j d).pins = d.pins := by
  induction n generalizing d with
  | zero => rfl
  | succ n ih =>
    simp only [Dev.readLoop]
    split
    · rfl
    · rw [ih]; rfl
@[simp] theorem Dev.readLoop_cfg (n : Nat) (j : Job) (d : Dev) : (Dev.readLoop n j d).cfg = d.cfg := by
  induction n generalizing d with
  | zero => rfl
  | succ n ih =>
    simp only [Dev.readLoop]
    split
    · rfl
    · rw [ih]; rfl
@[simp] theorem Dev.readLoop_lnk (n : Nat) (j : Job) (d : Dev) : (Dev.readLoop n j d).lnk = d.lnk := by
  induction n generalizing d with
  | zero => rfl
  | succ n ih =>
    simp only [Dev.readLoop]
    split
    · rfl
    · rw [ih]; rfl
@[simp] theorem Dev.readLoop_ptb (n : Nat) (j : Job) (d : Dev) : (Dev.readLoop n j d).ptb = d.ptb := by
  induction n generalizing d with
  | zero => rfl
  | succ n ih =>
    simp only [Dev.readLoop]
    split
    · rfl
    · rw [ih]; rfl
@[simp] theorem Dev.readLoop_msu (n : Nat) (j : Job) (d : Dev) : (Dev.readLoop n j d).msu = d.msu := by
  induction n generalizing d with
  | zero => rfl
  | succ n ih =>
    simp only [Dev.readLoop]
    split
    · rfl
    · rw [ih]; rfl
@[simp] theorem Dev.readLoop_syu (n : Nat) (j : Job) (d : Dev) : (Dev.readLoop n j d).syu = d.syu := by
  induction n generalizing d with
  | zero => rfl
  | succ n ih =>
    simp only [Dev.readLoop]
    split
    · rfl
    · rw [ih]; rfl
@[simp] theorem Dev.readLoop_ctc (n : Nat) (j : Job) (d : Dev) : (Dev.readLoop n j d).ctc = d.ctc := by
  induction n generalizing d with
  | zero => rfl
  | succ n ih =>
    simp only [Dev.readLoop]
    split
    · rfl
    · rw [ih]; rfl
@[simp] theorem Dev.readLoop_syn (n : Nat) (j : Job) (d : Dev) : (Dev.readLoop n j d).syn = d.syn := by
  induction n generalizing d with
  | zero => rfl
  | succ n ih =>
    simp only [Dev.readLoop]
    split
    · rfl
    · rw [ih]; rfl
@[simp] theorem Dev.readLoop_hoc (n : Nat) (j : Job) (d : Dev) : (Dev.readLoop n j d).hoc = d.hoc := by
  induction n generalizing d with
  | zero => rfl
  | succ n ih =>
    simp only [Dev.readLoop]
    split
    · rfl
    · rw [ih]; rfl
@[simp] theorem Dev.readLoop_mtr (n : Nat) (j : Job) (d : Dev) : (Dev.readLoop n j d).mtr = d.mtr := by
  induction n generalizing d with
  | zero => rfl
  | succ n ih =>
    simp only [Dev.readLoop]
    split
    · rfl
    · rw [ih]; rfl
@[simp] theorem Dev.readLoop_freeIdx (n : Nat) (j : Job) (d : Dev) : (Dev.readLoop n j d).freeIdx = d.freeIdx := by
  induction n generalizing d with
  | zero => rfl
  | succ n ih =>
    simp only [Dev.readLoop]
    split
    · rfl
    · rw [ih]; rfl
@[simp] theorem Dev.collectionRead_frame (d : Dev) :
    d.collectionRead.run = d.run ∧ d.collectionRead.pins = d.pins ∧ d.collectionRead.cfg = d.cfg ∧
    d.collectionRead.lnk = d.lnk ∧ d.collectionRead.ptb = d.ptb ∧ d.collectionRead.msu = d.msu ∧
    d.collectionRead.syu = d.syu ∧ d.collectionRead.ctc = d.ctc ∧ d.collectionRead.syn = d.syn ∧
    d.collectionRead.hoc = d.hoc ∧ d.collectionRead.mtr = d.mtr ∧ d.collectionRead.freeIdx = d.freeIdx := by
  simp only [Dev.collectionRead]
  (repeat' split) <;> simp

@[simp] theorem Dev.engineWork_frame (d : Dev) :
    d.engineWork.run = d.run ∧ d.engineWork.pins = d.pins ∧ d.engineWork.cfg = d.cfg ∧
    d.engineWork.lnk = d.lnk ∧ d.engineWork.ptb = d.ptb ∧ d.engineWork.msu = d.msu ∧
    d.engineWork.syu = d.syu ∧ d.engineWork.ctc = d.ctc ∧ d.engineWork.syn = d.syn ∧
    d.engineWork.hoc = d.hoc ∧ d.engineWork.mtr = d.mtr ∧ d.engineWork.freeIdx = d.freeIdx := by
  simp only [Dev.engineWork]
  (repeat' split) <;> simp

@[simp] theorem Dev.engineChoice_frame (d : Dev) :
    d.engineChoice.run = d.run ∧ d.engineChoice.pins = d.pins ∧ d.engineChoice.cfg = d.cfg ∧
    d.engineChoice.lnk = d.lnk ∧ d.engineChoice.ptb = d.ptb ∧ d.engineChoice.msu = d.msu ∧
    d.engineChoice.syu = d.syu ∧ d.engineChoice.ctc = d.ctc ∧ d.engineChoice.syn = d.syn ∧
    d.engineChoice.hoc = d.hoc ∧ d.engineChoice.mtr = d.mtr ∧ d.engineChoice.freeIdx = d.freeIdx := by
  simp only [Dev.engineChoice]
  (repeat' split) <;> simp

@[simp] theorem Dev.availableTest_frame (d : Dev) (c : Bool) :
    (d.availableTest c).run = d.run ∧ (d.availableTest c).pins = d.pins ∧ (d.availableTest c).cfg = d.cfg ∧
    (d.availableTest c).lnk = d.lnk ∧ (d.availableTest c).ptb = d.ptb ∧ (d.availableTest c).msu = d.msu ∧
    (d.availableTest c).syu = d.syu ∧ (d.availableTest c).ctc = d.ctc ∧ (d.availableTest c).syn = d.syn ∧
    (d.availableTest c).hoc = d.hoc ∧ (d.availableTest c).mtr = d.mtr ∧ (d.availableTest c).freeIdx = d.freeIdx := by
  simp only [Dev.availableTest]
  simp

@[simp] theorem Dev.stage_frame (d : Dev) (r : Rec) :
    (d.stage r).run = d.run ∧ (d.stage r).pins = d.pins ∧ (d.stage r).cfg = d.cfg ∧
    (d.stage r).lnk = d.lnk ∧ (d.stage r).ptb = d.ptb ∧ (d.stage r).msu = d.msu ∧
    (d.stage r).syu = d.syu ∧ (d.stage r).ctc = d.ctc ∧ (d.stage r).syn = d.syn ∧
    (d.stage r).hoc = d.hoc ∧ (d.stage r).mtr = d.mtr ∧ (d.stage r).freeIdx = d.freeIdx := by
  simp only [Dev.stage]
  (repeat' split) <;> simp

@[simp] theorem Dev.drainDemand_frame (d : Dev) :
    d.drainDemand.run = d.run ∧ d.drainDemand.pins = d.pins ∧ d.drainDemand.cfg = d.cfg ∧
    d.drainDemand.lnk = d.lnk ∧ d.drainDemand.ptb = d.ptb ∧ d.drainDemand.msu = d.msu ∧
    d.drainDemand.syu = d.syu ∧ d.drainDemand.ctc = d.ctc ∧ d.drainDemand.syn = d.syn ∧
    d.drainDemand.hoc = d.hoc ∧ d.drainDemand.mtr = d.mtr ∧ d.drainDemand.freeIdx = d.freeIdx := by
  simp only [Dev.drainDemand]
  simp

@[simp] theorem Dev.confirmTo_frame (d : Dev) (n : Nat) :
    (d.confirmTo n).run = d.run ∧ (d.confirmTo n).pins = d.pins ∧ (d.confirmTo n).cfg = d.cfg ∧
    (d.confirmTo n).lnk = d.lnk ∧ (d.confirmTo n).ptb = d.ptb ∧ (d.confirmTo n).msu = d.msu ∧
    (d.confirmTo n).syu = d.syu ∧ (d.confirmTo n).ctc = d.ctc ∧ (d.confirmTo n).syn = d.syn ∧
    (d.confirmTo n).hoc = d.hoc ∧ (d.confirmTo n).mtr = d.mtr ∧ (d.confirmTo n).freeIdx = d.freeIdx := by
  simp only [Dev.confirmTo]
  (repeat' split) <;> simp

@[simp] theorem Dev.openJob_frame (d : Dev) (q s n : Nat) :
    (d.openJob q s n).run = d.run ∧ (d.openJob q s n).pins = d.pins ∧ (d.openJob q s n).cfg = d.cfg ∧
    (d.openJob q s n).lnk = d.lnk ∧ (d.openJob q s n).ptb = d.ptb ∧ (d.openJob q s n).msu = d.msu ∧
    (d.openJob q s n).syu = d.syu ∧ (d.openJob q s n).ctc = d.ctc ∧ (d.openJob q s n).syn = d.syn ∧
    (d.openJob q s n).hoc = d.hoc ∧ (d.openJob q s n).mtr = d.mtr ∧ (d.openJob q s n).freeIdx = d.freeIdx := by
  simp only [Dev.openJob]
  simp

@[simp] theorem Dev.itemGranted_frame (d : Dev) :
    d.itemGranted.run = d.run ∧ d.itemGranted.pins = d.pins ∧ d.itemGranted.cfg = d.cfg ∧
    d.itemGranted.lnk = d.lnk ∧ d.itemGranted.ptb = d.ptb ∧ d.itemGranted.msu = d.msu ∧
    d.itemGranted.syu = d.syu ∧ d.itemGranted.ctc = d.ctc ∧ d.itemGranted.syn = d.syn ∧
    d.itemGranted.hoc = d.hoc ∧ d.itemGranted.mtr = d.mtr ∧ d.itemGranted.freeIdx = d.freeIdx := by
  simp only [Dev.itemGranted]
  (repeat' split) <;> simp

@[simp] theorem Dev.scan_frame (d : Dev) :
    d.scan.run = d.run ∧ d.scan.pins = d.pins ∧ d.scan.cfg = d.cfg ∧
    d.scan.lnk = d.lnk ∧ d.scan.ptb = d.ptb ∧ d.scan.msu = d.msu ∧
    d.scan.syu = d.syu ∧ d.scan.ctc = d.ctc ∧ d.scan.syn = d.syn ∧
    d.scan.hoc = d.hoc ∧ d.scan.mtr = d.mtr ∧ d.scan.freeIdx = d.freeIdx := by
  simp only [Dev.scan]
  simp

/-! ### The meter -/

@[simp] theorem Dev.requestSession_frame (d : Dev) (r : Rec) :
    (d.requestSession r).run = d.run ∧ (d.requestSession r).pins = d.pins ∧ (d.requestSession r).cfg = d.cfg ∧
    (d.requestSession r).lnk = d.lnk ∧ (d.requestSession r).ptb = d.ptb ∧ (d.requestSession r).msu = d.msu ∧
    (d.requestSession r).syu = d.syu ∧ (d.requestSession r).ctc = d.ctc ∧ (d.requestSession r).syn = d.syn ∧
    (d.requestSession r).hoc = d.hoc ∧ (d.requestSession r).freeIdx = d.freeIdx := by
  simp only [Dev.requestSession]
  (repeat' split) <;> simp

@[simp] theorem Dev.requestEvent_frame (d : Dev) (e : EventRec) :
    (d.requestEvent e).run = d.run ∧ (d.requestEvent e).pins = d.pins ∧ (d.requestEvent e).cfg = d.cfg ∧
    (d.requestEvent e).lnk = d.lnk ∧ (d.requestEvent e).ptb = d.ptb ∧ (d.requestEvent e).msu = d.msu ∧
    (d.requestEvent e).syu = d.syu ∧ (d.requestEvent e).ctc = d.ctc ∧ (d.requestEvent e).syn = d.syn ∧
    (d.requestEvent e).hoc = d.hoc ∧ (d.requestEvent e).freeIdx = d.freeIdx := by
  simp only [Dev.requestEvent]
  (repeat' split) <;> simp

@[simp] theorem Dev.joinOnly_frame (d : Dev) (r : Rec) :
    (d.joinOnly r).run = d.run ∧ (d.joinOnly r).pins = d.pins ∧ (d.joinOnly r).cfg = d.cfg ∧
    (d.joinOnly r).lnk = d.lnk ∧ (d.joinOnly r).ptb = d.ptb ∧ (d.joinOnly r).msu = d.msu ∧
    (d.joinOnly r).syu = d.syu ∧ (d.joinOnly r).ctc = d.ctc ∧ (d.joinOnly r).syn = d.syn ∧
    (d.joinOnly r).hoc = d.hoc ∧ (d.joinOnly r).mtr = d.mtr ∧ (d.joinOnly r).ntu = d.ntu ∧
    (d.joinOnly r).freeIdx = d.freeIdx := by
  simp only [Dev.joinOnly]
  simp

@[simp] theorem Dev.stageHeldFrom_run (l : List Rec) (d : Dev) : (Dev.stageHeldFrom l d).run = d.run := by
  induction l generalizing d with
  | nil => rfl
  | cons r l ih =>
    simp only [Dev.stageHeldFrom]
    split
    · rfl
    · rw [ih]; rfl
@[simp] theorem Dev.stageHeldFrom_pins (l : List Rec) (d : Dev) : (Dev.stageHeldFrom l d).pins = d.pins := by
  induction l generalizing d with
  | nil => rfl
  | cons r l ih =>
    simp only [Dev.stageHeldFrom]
    split
    · rfl
    · rw [ih]; rfl
@[simp] theorem Dev.stageHeldFrom_cfg (l : List Rec) (d : Dev) : (Dev.stageHeldFrom l d).cfg = d.cfg := by
  induction l generalizing d with
  | nil => rfl
  | cons r l ih =>
    simp only [Dev.stageHeldFrom]
    split
    · rfl
    · rw [ih]; rfl
@[simp] theorem Dev.stageHeldFrom_lnk (l : List Rec) (d : Dev) : (Dev.stageHeldFrom l d).lnk = d.lnk := by
  induction l generalizing d with
  | nil => rfl
  | cons r l ih =>
    simp only [Dev.stageHeldFrom]
    split
    · rfl
    · rw [ih]; rfl
@[simp] theorem Dev.stageHeldFrom_ptb (l : List Rec) (d : Dev) : (Dev.stageHeldFrom l d).ptb = d.ptb := by
  induction l generalizing d with
  | nil => rfl
  | cons r l ih =>
    simp only [Dev.stageHeldFrom]
    split
    · rfl
    · rw [ih]; rfl
@[simp] theorem Dev.stageHeldFrom_msu (l : List Rec) (d : Dev) : (Dev.stageHeldFrom l d).msu = d.msu := by
  induction l generalizing d with
  | nil => rfl
  | cons r l ih =>
    simp only [Dev.stageHeldFrom]
    split
    · rfl
    · rw [ih]; rfl
@[simp] theorem Dev.stageHeldFrom_syu (l : List Rec) (d : Dev) : (Dev.stageHeldFrom l d).syu = d.syu := by
  induction l generalizing d with
  | nil => rfl
  | cons r l ih =>
    simp only [Dev.stageHeldFrom]
    split
    · rfl
    · rw [ih]; rfl
@[simp] theorem Dev.stageHeldFrom_ctc (l : List Rec) (d : Dev) : (Dev.stageHeldFrom l d).ctc = d.ctc := by
  induction l generalizing d with
  | nil => rfl
  | cons r l ih =>
    simp only [Dev.stageHeldFrom]
    split
    · rfl
    · rw [ih]; rfl
@[simp] theorem Dev.stageHeldFrom_syn (l : List Rec) (d : Dev) : (Dev.stageHeldFrom l d).syn = d.syn := by
  induction l generalizing d with
  | nil => rfl
  | cons r l ih =>
    simp only [Dev.stageHeldFrom]
    split
    · rfl
    · rw [ih]; rfl
@[simp] theorem Dev.stageHeldFrom_hoc (l : List Rec) (d : Dev) : (Dev.stageHeldFrom l d).hoc = d.hoc := by
  induction l generalizing d with
  | nil => rfl
  | cons r l ih =>
    simp only [Dev.stageHeldFrom]
    split
    · rfl
    · rw [ih]; rfl
@[simp] theorem Dev.stageHeldFrom_ntu (l : List Rec) (d : Dev) : (Dev.stageHeldFrom l d).ntu = d.ntu := by
  induction l generalizing d with
  | nil => rfl
  | cons r l ih =>
    simp only [Dev.stageHeldFrom]
    split
    · rfl
    · rw [ih]; rfl
@[simp] theorem Dev.stageHeldFrom_freeIdx (l : List Rec) (d : Dev) : (Dev.stageHeldFrom l d).freeIdx = d.freeIdx := by
  induction l generalizing d with
  | nil => rfl
  | cons r l ih =>
    simp only [Dev.stageHeldFrom]
    split
    · rfl
    · rw [ih]; rfl
@[simp] theorem Dev.stageHeld_frame (d : Dev) :
    d.stageHeld.run = d.run ∧ d.stageHeld.pins = d.pins ∧ d.stageHeld.cfg = d.cfg ∧
    d.stageHeld.lnk = d.lnk ∧ d.stageHeld.ptb = d.ptb ∧ d.stageHeld.msu = d.msu ∧
    d.stageHeld.syu = d.syu ∧ d.stageHeld.ctc = d.ctc ∧ d.stageHeld.syn = d.syn ∧
    d.stageHeld.hoc = d.hoc ∧ d.stageHeld.ntu = d.ntu ∧ d.stageHeld.freeIdx = d.freeIdx := by
  simp only [Dev.stageHeld]
  simp

@[simp] theorem Dev.beginMembership_frame (d : Dev) (x : Outlet) (v : Session) :
    (d.beginMembership x v).run = d.run ∧ (d.beginMembership x v).pins = d.pins ∧ (d.beginMembership x v).cfg = d.cfg ∧
    (d.beginMembership x v).lnk = d.lnk ∧ (d.beginMembership x v).ptb = d.ptb ∧ (d.beginMembership x v).msu = d.msu ∧
    (d.beginMembership x v).syu = d.syu ∧ (d.beginMembership x v).ctc = d.ctc ∧ (d.beginMembership x v).syn = d.syn ∧
    (d.beginMembership x v).hoc = d.hoc ∧ (d.beginMembership x v).freeIdx = d.freeIdx := by
  simp only [Dev.beginMembership]
  simp

@[simp] theorem Dev.closePartial_frame (d : Dev) :
    d.closePartial.run = d.run ∧ d.closePartial.pins = d.pins ∧ d.closePartial.cfg = d.cfg ∧
    d.closePartial.lnk = d.lnk ∧ d.closePartial.ptb = d.ptb ∧ d.closePartial.msu = d.msu ∧
    d.closePartial.syu = d.syu ∧ d.closePartial.ctc = d.ctc ∧ d.closePartial.syn = d.syn ∧
    d.closePartial.hoc = d.hoc ∧ d.closePartial.freeIdx = d.freeIdx := by
  simp only [Dev.closePartial]
  (repeat' split) <;> simp

@[simp] theorem Dev.membershipGone_frame (d : Dev) :
    d.membershipGone.run = d.run ∧ d.membershipGone.pins = d.pins ∧ d.membershipGone.cfg = d.cfg ∧
    d.membershipGone.lnk = d.lnk ∧ d.membershipGone.ptb = d.ptb ∧ d.membershipGone.msu = d.msu ∧
    d.membershipGone.syu = d.syu ∧ d.membershipGone.ctc = d.ctc ∧ d.membershipGone.syn = d.syn ∧
    d.membershipGone.hoc = d.hoc ∧ d.membershipGone.rst = d.rst ∧ d.membershipGone.ntu = d.ntu ∧
    d.membershipGone.freeIdx = d.freeIdx := by
  simp only [Dev.membershipGone]
  simp

@[simp] theorem Dev.endMembership_frame (d : Dev) (c : LeaveCause) :
    (d.endMembership c).run = d.run ∧ (d.endMembership c).pins = d.pins ∧ (d.endMembership c).cfg = d.cfg ∧
    (d.endMembership c).lnk = d.lnk ∧ (d.endMembership c).ptb = d.ptb ∧ (d.endMembership c).msu = d.msu ∧
    (d.endMembership c).syu = d.syu ∧ (d.endMembership c).ctc = d.ctc ∧ (d.endMembership c).syn = d.syn ∧
    (d.endMembership c).hoc = d.hoc ∧ (d.endMembership c).freeIdx = d.freeIdx := by
  simp only [Dev.endMembership]
  (repeat' split) <;> simp

@[simp] theorem Dev.meterSet_frame (d : Dev) (p : Int) :
    (d.meterSet p).run = d.run ∧ (d.meterSet p).pins = d.pins ∧ (d.meterSet p).cfg = d.cfg ∧
    (d.meterSet p).lnk = d.lnk ∧ (d.meterSet p).ptb = d.ptb ∧ (d.meterSet p).msu = d.msu ∧
    (d.meterSet p).syu = d.syu ∧ (d.meterSet p).ctc = d.ctc ∧ (d.meterSet p).syn = d.syn ∧
    (d.meterSet p).hoc = d.hoc ∧ (d.meterSet p).freeIdx = d.freeIdx := by
  simp only [Dev.meterSet]
  (repeat' split) <;> simp

@[simp] theorem Dev.secondClose_frame (d : Dev) :
    d.secondClose.run = d.run ∧ d.secondClose.pins = d.pins ∧ d.secondClose.cfg = d.cfg ∧
    d.secondClose.lnk = d.lnk ∧ d.secondClose.ptb = d.ptb ∧ d.secondClose.syu = d.syu ∧
    d.secondClose.ctc = d.ctc ∧ d.secondClose.syn = d.syn ∧ d.secondClose.hoc = d.hoc ∧
    d.secondClose.rst = d.rst ∧ d.secondClose.ntu = d.ntu ∧ d.secondClose.freeIdx = d.freeIdx := by
  simp only [Dev.secondClose]
  simp

@[simp] theorem Dev.boundary_frame (d : Dev) (i : Option Nat) :
    (d.boundary i).run = d.run ∧ (d.boundary i).pins = d.pins ∧ (d.boundary i).cfg = d.cfg ∧
    (d.boundary i).lnk = d.lnk ∧ (d.boundary i).ptb = d.ptb ∧ (d.boundary i).msu = d.msu ∧
    (d.boundary i).syu = d.syu ∧ (d.boundary i).ctc = d.ctc ∧ (d.boundary i).syn = d.syn ∧
    (d.boundary i).hoc = d.hoc ∧ (d.boundary i).freeIdx = d.freeIdx := by
  simp only [Dev.boundary]
  (repeat' split) <;> simp

@[simp] theorem Dev.advanceSecond_frame (d : Dev) :
    d.advanceSecond.run = d.run ∧ d.advanceSecond.pins = d.pins ∧ d.advanceSecond.cfg = d.cfg ∧
    d.advanceSecond.lnk = d.lnk ∧ d.advanceSecond.ptb = d.ptb ∧ d.advanceSecond.syu = d.syu ∧
    d.advanceSecond.ctc = d.ctc ∧ d.advanceSecond.syn = d.syn ∧ d.advanceSecond.hoc = d.hoc ∧
    d.advanceSecond.freeIdx = d.freeIdx := by
  simp only [Dev.advanceSecond]
  (repeat' split) <;> simp

@[simp] theorem Dev.adoptTime_frame (d : Dev) (t : TimeBody) :
    (d.adoptTime t).run = d.run ∧ (d.adoptTime t).pins = d.pins ∧ (d.adoptTime t).cfg = d.cfg ∧
    (d.adoptTime t).lnk = d.lnk ∧ (d.adoptTime t).ptb = d.ptb ∧ (d.adoptTime t).syu = d.syu ∧
    (d.adoptTime t).ctc = d.ctc ∧ (d.adoptTime t).syn = d.syn ∧ (d.adoptTime t).hoc = d.hoc ∧
    (d.adoptTime t).freeIdx = d.freeIdx := by
  simp only [Dev.adoptTime]
  (repeat' split) <;> simp

@[simp] theorem Dev.interruption_frame (d : Dev) (c : Bool) :
    (d.interruption c).run = d.run ∧ (d.interruption c).pins = d.pins ∧ (d.interruption c).cfg = d.cfg ∧
    (d.interruption c).lnk = d.lnk ∧ (d.interruption c).ptb = d.ptb ∧ (d.interruption c).msu = d.msu ∧
    (d.interruption c).syu = d.syu ∧ (d.interruption c).ctc = d.ctc ∧ (d.interruption c).syn = d.syn ∧
    (d.interruption c).hoc = d.hoc ∧ (d.interruption c).freeIdx = d.freeIdx := by
  simp only [Dev.interruption]
  (repeat' split) <;> simp

/-! ### The synthesis unit -/

@[simp] theorem Dev.synthesisSet_frame (d : Dev) (g : Nat) :
    (d.synthesisSet g).run = d.run ∧ (d.synthesisSet g).pins = d.pins ∧ (d.synthesisSet g).cfg = d.cfg ∧
    (d.synthesisSet g).lnk = d.lnk ∧ (d.synthesisSet g).ptb = d.ptb ∧ (d.synthesisSet g).msu = d.msu ∧
    (d.synthesisSet g).ctc = d.ctc ∧ (d.synthesisSet g).syn = d.syn ∧ (d.synthesisSet g).hoc = d.hoc ∧
    (d.synthesisSet g).mtr = d.mtr ∧ (d.synthesisSet g).rst = d.rst ∧ (d.synthesisSet g).ntu = d.ntu ∧
    (d.synthesisSet g).freeIdx = d.freeIdx := by
  simp only [Dev.synthesisSet]
  (repeat' split) <;> simp

@[simp] theorem Dev.rampBy_frame (d : Dev) (w : Writer) (v : Int) :
    (d.rampBy w v).run = d.run ∧ (d.rampBy w v).pins = d.pins ∧ (d.rampBy w v).cfg = d.cfg ∧
    (d.rampBy w v).lnk = d.lnk ∧ (d.rampBy w v).ptb = d.ptb ∧ (d.rampBy w v).msu = d.msu ∧
    (d.rampBy w v).ctc = d.ctc ∧ (d.rampBy w v).syn = d.syn ∧ (d.rampBy w v).hoc = d.hoc ∧
    (d.rampBy w v).mtr = d.mtr ∧ (d.rampBy w v).rst = d.rst ∧ (d.rampBy w v).ntu = d.ntu ∧
    (d.rampBy w v).freeIdx = d.freeIdx := by
  simp only [Dev.rampBy]
  (repeat' split) <;> simp

@[simp] theorem Dev.rampTo_frame (d : Dev) (v : Int) :
    (d.rampTo v).run = d.run ∧ (d.rampTo v).pins = d.pins ∧ (d.rampTo v).cfg = d.cfg ∧
    (d.rampTo v).lnk = d.lnk ∧ (d.rampTo v).ptb = d.ptb ∧ (d.rampTo v).msu = d.msu ∧
    (d.rampTo v).ctc = d.ctc ∧ (d.rampTo v).syn = d.syn ∧ (d.rampTo v).hoc = d.hoc ∧
    (d.rampTo v).mtr = d.mtr ∧ (d.rampTo v).rst = d.rst ∧ (d.rampTo v).ntu = d.ntu ∧
    (d.rampTo v).freeIdx = d.freeIdx := by
  simp only [Dev.rampTo]
  simp

@[simp] theorem Dev.joinBy_frame (d : Dev) (v : Int) :
    (d.joinBy v).run = d.run ∧ (d.joinBy v).pins = d.pins ∧ (d.joinBy v).cfg = d.cfg ∧
    (d.joinBy v).lnk = d.lnk ∧ (d.joinBy v).ptb = d.ptb ∧ (d.joinBy v).msu = d.msu ∧
    (d.joinBy v).ctc = d.ctc ∧ (d.joinBy v).syn = d.syn ∧ (d.joinBy v).hoc = d.hoc ∧
    (d.joinBy v).mtr = d.mtr ∧ (d.joinBy v).rst = d.rst ∧ (d.joinBy v).ntu = d.ntu ∧
    (d.joinBy v).freeIdx = d.freeIdx := by
  simp only [Dev.joinBy]
  (repeat' split) <;> simp

@[simp] theorem Dev.steerVoltageBy_frame (d : Dev) (v : Int) :
    (d.steerVoltageBy v).run = d.run ∧ (d.steerVoltageBy v).pins = d.pins ∧ (d.steerVoltageBy v).cfg = d.cfg ∧
    (d.steerVoltageBy v).lnk = d.lnk ∧ (d.steerVoltageBy v).ptb = d.ptb ∧ (d.steerVoltageBy v).msu = d.msu ∧
    (d.steerVoltageBy v).ctc = d.ctc ∧ (d.steerVoltageBy v).syn = d.syn ∧ (d.steerVoltageBy v).hoc = d.hoc ∧
    (d.steerVoltageBy v).mtr = d.mtr ∧ (d.steerVoltageBy v).rst = d.rst ∧ (d.steerVoltageBy v).ntu = d.ntu ∧
    (d.steerVoltageBy v).freeIdx = d.freeIdx := by
  simp only [Dev.steerVoltageBy]
  (repeat' split) <;> simp

@[simp] theorem Dev.restore_frame (d : Dev) :
    d.restore.run = d.run ∧ d.restore.pins = d.pins ∧ d.restore.cfg = d.cfg ∧
    d.restore.lnk = d.lnk ∧ d.restore.ptb = d.ptb ∧ d.restore.msu = d.msu ∧
    d.restore.ctc = d.ctc ∧ d.restore.syn = d.syn ∧ d.restore.hoc = d.hoc ∧
    d.restore.mtr = d.mtr ∧ d.restore.rst = d.rst ∧ d.restore.ntu = d.ntu ∧
    d.restore.freeIdx = d.freeIdx := by
  simp only [Dev.restore]
  (repeat' split) <;> simp

/-! ### The synchroniser -/

@[simp] theorem Dev.setCellCh_frame (d : Dev) (c : Channel) :
    (d.setCellCh c).run = d.run ∧ (d.setCellCh c).pins = d.pins ∧ (d.setCellCh c).cfg = d.cfg ∧
    (d.setCellCh c).lnk = d.lnk ∧ (d.setCellCh c).ptb = d.ptb ∧ (d.setCellCh c).msu = d.msu ∧
    (d.setCellCh c).syu = d.syu ∧ (d.setCellCh c).ctc = d.ctc ∧ (d.setCellCh c).hoc = d.hoc ∧
    (d.setCellCh c).mtr = d.mtr ∧ (d.setCellCh c).rst = d.rst ∧ (d.setCellCh c).ntu = d.ntu ∧
    (d.setCellCh c).freeIdx = d.freeIdx := by
  simp only [Dev.setCellCh]
  simp

@[simp] theorem Dev.setShipCh_frame (d : Dev) (c : Channel) :
    (d.setShipCh c).run = d.run ∧ (d.setShipCh c).pins = d.pins ∧ (d.setShipCh c).cfg = d.cfg ∧
    (d.setShipCh c).lnk = d.lnk ∧ (d.setShipCh c).ptb = d.ptb ∧ (d.setShipCh c).msu = d.msu ∧
    (d.setShipCh c).syu = d.syu ∧ (d.setShipCh c).ctc = d.ctc ∧ (d.setShipCh c).hoc = d.hoc ∧
    (d.setShipCh c).mtr = d.mtr ∧ (d.setShipCh c).rst = d.rst ∧ (d.setShipCh c).ntu = d.ntu ∧
    (d.setShipCh c).freeIdx = d.freeIdx := by
  simp only [Dev.setShipCh]
  simp

@[simp] theorem Dev.steerCell_frame (d : Dev) :
    d.steerCell.run = d.run ∧ d.steerCell.pins = d.pins ∧ d.steerCell.cfg = d.cfg ∧
    d.steerCell.lnk = d.lnk ∧ d.steerCell.ptb = d.ptb ∧ d.steerCell.msu = d.msu ∧
    d.steerCell.ctc = d.ctc ∧ d.steerCell.syn = d.syn ∧ d.steerCell.hoc = d.hoc ∧
    d.steerCell.mtr = d.mtr ∧ d.steerCell.rst = d.rst ∧ d.steerCell.ntu = d.ntu ∧
    d.steerCell.freeIdx = d.freeIdx := by
  simp only [Dev.steerCell]
  (repeat' split) <;> simp

@[simp] theorem Dev.steerVoltage_frame (d : Dev) :
    d.steerVoltage.run = d.run ∧ d.steerVoltage.pins = d.pins ∧ d.steerVoltage.cfg = d.cfg ∧
    d.steerVoltage.lnk = d.lnk ∧ d.steerVoltage.ptb = d.ptb ∧ d.steerVoltage.msu = d.msu ∧
    d.steerVoltage.ctc = d.ctc ∧ d.steerVoltage.syn = d.syn ∧ d.steerVoltage.hoc = d.hoc ∧
    d.steerVoltage.mtr = d.mtr ∧ d.steerVoltage.rst = d.rst ∧ d.steerVoltage.ntu = d.ntu ∧
    d.steerVoltage.freeIdx = d.freeIdx := by
  simp only [Dev.steerVoltage]
  (repeat' split) <;> simp

@[simp] theorem Dev.steerShip_frame (d : Dev) :
    d.steerShip.run = d.run ∧ d.steerShip.pins = d.pins ∧ d.steerShip.cfg = d.cfg ∧
    d.steerShip.lnk = d.lnk ∧ d.steerShip.ptb = d.ptb ∧ d.steerShip.msu = d.msu ∧
    d.steerShip.ctc = d.ctc ∧ d.steerShip.syn = d.syn ∧ d.steerShip.hoc = d.hoc ∧
    d.steerShip.mtr = d.mtr ∧ d.steerShip.rst = d.rst ∧ d.steerShip.ntu = d.ntu ∧
    d.steerShip.freeIdx = d.freeIdx := by
  simp only [Dev.steerShip]
  (repeat' split) <;> simp

@[simp] theorem Dev.watchExpiry_frame (d : Dev) (c : ChannelId) :
    (d.watchExpiry c).run = d.run ∧ (d.watchExpiry c).pins = d.pins ∧ (d.watchExpiry c).cfg = d.cfg ∧
    (d.watchExpiry c).lnk = d.lnk ∧ (d.watchExpiry c).ptb = d.ptb ∧ (d.watchExpiry c).msu = d.msu ∧
    (d.watchExpiry c).syu = d.syu ∧ (d.watchExpiry c).ctc = d.ctc ∧ (d.watchExpiry c).hoc = d.hoc ∧
    (d.watchExpiry c).mtr = d.mtr ∧ (d.watchExpiry c).rst = d.rst ∧ (d.watchExpiry c).ntu = d.ntu ∧
    (d.watchExpiry c).freeIdx = d.freeIdx := by
  simp only [Dev.watchExpiry]
  (repeat' split) <;> simp

@[simp] theorem Dev.watchTie_frame (d : Dev) (c : ChannelId) (due : Bool) :
    (d.watchTie c due).run = d.run ∧ (d.watchTie c due).pins = d.pins ∧ (d.watchTie c due).cfg = d.cfg ∧
    (d.watchTie c due).lnk = d.lnk ∧ (d.watchTie c due).ptb = d.ptb ∧ (d.watchTie c due).msu = d.msu ∧
    (d.watchTie c due).syu = d.syu ∧ (d.watchTie c due).ctc = d.ctc ∧ (d.watchTie c due).hoc = d.hoc ∧
    (d.watchTie c due).mtr = d.mtr ∧ (d.watchTie c due).rst = d.rst ∧ (d.watchTie c due).ntu = d.ntu := by
  simp only [Dev.watchTie]
  (repeat' split) <;> simp

@[simp] theorem Dev.shipCrossing_frame (d : Dev) :
    d.shipCrossing.run = d.run ∧ d.shipCrossing.pins = d.pins ∧ d.shipCrossing.cfg = d.cfg ∧
    d.shipCrossing.lnk = d.lnk ∧ d.shipCrossing.ptb = d.ptb ∧ d.shipCrossing.msu = d.msu ∧
    d.shipCrossing.ctc = d.ctc ∧ d.shipCrossing.hoc = d.hoc ∧ d.shipCrossing.mtr = d.mtr ∧
    d.shipCrossing.rst = d.rst ∧ d.shipCrossing.ntu = d.ntu := by
  simp only [Dev.shipCrossing]
  (repeat' split) <;> simp

@[simp] theorem Dev.cellCrossing_frame (d : Dev) :
    d.cellCrossing.run = d.run ∧ d.cellCrossing.pins = d.pins ∧ d.cellCrossing.cfg = d.cfg ∧
    d.cellCrossing.lnk = d.lnk ∧ d.cellCrossing.ptb = d.ptb ∧ d.cellCrossing.msu = d.msu ∧
    d.cellCrossing.ctc = d.ctc ∧ d.cellCrossing.hoc = d.hoc ∧ d.cellCrossing.mtr = d.mtr ∧
    d.cellCrossing.rst = d.rst ∧ d.cellCrossing.ntu = d.ntu := by
  simp only [Dev.cellCrossing]
  (repeat' split) <;> simp

/-! ### The handover controller -/

@[simp] theorem Dev.move_frame (d : Dev) (st : HState) :
    (d.move st).run = d.run ∧ (d.move st).pins = d.pins ∧ (d.move st).cfg = d.cfg ∧
    (d.move st).lnk = d.lnk ∧ (d.move st).ptb = d.ptb ∧ (d.move st).msu = d.msu ∧
    (d.move st).ctc = d.ctc ∧ (d.move st).mtr = d.mtr ∧ (d.move st).rst = d.rst ∧
    (d.move st).ntu = d.ntu ∧ (d.move st).freeIdx = d.freeIdx := by
  simp only [Dev.move]
  simp

@[simp] theorem Dev.enter_frame (d : Dev) (st : HState) :
    (d.enter st).run = d.run ∧ (d.enter st).pins = d.pins ∧ (d.enter st).cfg = d.cfg ∧
    (d.enter st).lnk = d.lnk ∧ (d.enter st).ptb = d.ptb ∧ (d.enter st).msu = d.msu ∧
    (d.enter st).ctc = d.ctc ∧ (d.enter st).mtr = d.mtr ∧ (d.enter st).rst = d.rst ∧
    (d.enter st).ntu = d.ntu ∧ (d.enter st).freeIdx = d.freeIdx := by
  simp only [Dev.enter]
  (repeat' split) <;> simp

@[simp] theorem Dev.energise_frame (d : Dev) :
    d.energise.run = d.run ∧ d.energise.pins = d.pins ∧ d.energise.cfg = d.cfg ∧
    d.energise.lnk = d.lnk ∧ d.energise.ptb = d.ptb ∧ d.energise.msu = d.msu ∧
    d.energise.ctc = d.ctc ∧ d.energise.mtr = d.mtr ∧ d.energise.rst = d.rst ∧
    d.energise.ntu = d.ntu ∧ d.energise.freeIdx = d.freeIdx := by
  simp only [Dev.energise]
  (repeat' split) <;> simp

@[simp] theorem Dev.toAssigned_frame (d : Dev) :
    d.toAssigned.run = d.run ∧ d.toAssigned.pins = d.pins ∧ d.toAssigned.cfg = d.cfg ∧
    d.toAssigned.lnk = d.lnk ∧ d.toAssigned.ptb = d.ptb ∧ d.toAssigned.msu = d.msu ∧
    d.toAssigned.ctc = d.ctc ∧ d.toAssigned.mtr = d.mtr ∧ d.toAssigned.rst = d.rst ∧
    d.toAssigned.ntu = d.ntu ∧ d.toAssigned.freeIdx = d.freeIdx := by
  simp only [Dev.toAssigned]
  simp

@[simp] theorem Dev.reconsider_frame (d : Dev) :
    d.reconsider.run = d.run ∧ d.reconsider.pins = d.pins ∧ d.reconsider.cfg = d.cfg ∧
    d.reconsider.lnk = d.lnk ∧ d.reconsider.ptb = d.ptb ∧ d.reconsider.msu = d.msu ∧
    d.reconsider.ctc = d.ctc ∧ d.reconsider.mtr = d.mtr ∧ d.reconsider.rst = d.rst ∧
    d.reconsider.ntu = d.ntu ∧ d.reconsider.freeIdx = d.freeIdx := by
  simp only [Dev.reconsider]
  (repeat' split) <;> simp

@[simp] theorem Dev.setBusCond_frame (d : Dev) (c : BusCond) :
    (d.setBusCond c).run = d.run ∧ (d.setBusCond c).pins = d.pins ∧ (d.setBusCond c).cfg = d.cfg ∧
    (d.setBusCond c).lnk = d.lnk ∧ (d.setBusCond c).ptb = d.ptb ∧ (d.setBusCond c).ctc = d.ctc ∧
    (d.setBusCond c).mtr = d.mtr ∧ (d.setBusCond c).rst = d.rst ∧ (d.setBusCond c).ntu = d.ntu ∧
    (d.setBusCond c).freeIdx = d.freeIdx := by
  simp only [Dev.setBusCond]
  (repeat' split) <;> simp

@[simp] theorem Dev.reassign_frame (d : Dev) (x : Option Outlet) :
    (d.reassign x).run = d.run ∧ (d.reassign x).pins = d.pins ∧ (d.reassign x).cfg = d.cfg ∧
    (d.reassign x).lnk = d.lnk ∧ (d.reassign x).ptb = d.ptb ∧ (d.reassign x).syu = d.syu ∧
    (d.reassign x).ctc = d.ctc ∧ (d.reassign x).mtr = d.mtr ∧ (d.reassign x).rst = d.rst ∧
    (d.reassign x).ntu = d.ntu ∧ (d.reassign x).freeIdx = d.freeIdx := by
  simp only [Dev.reassign]
  (repeat' split) <;> simp

@[simp] theorem Dev.applyDestination_frame (d : Dev) (x : Option Outlet) :
    (d.applyDestination x).run = d.run ∧ (d.applyDestination x).pins = d.pins ∧ (d.applyDestination x).cfg = d.cfg ∧
    (d.applyDestination x).lnk = d.lnk ∧ (d.applyDestination x).ptb = d.ptb ∧ (d.applyDestination x).ctc = d.ctc ∧
    (d.applyDestination x).mtr = d.mtr ∧ (d.applyDestination x).rst = d.rst ∧ (d.applyDestination x).ntu = d.ntu ∧
    (d.applyDestination x).freeIdx = d.freeIdx := by
  simp only [Dev.applyDestination]
  (repeat' split) <;> simp

@[simp] theorem Dev.completeLeave_frame (d : Dev) :
    d.completeLeave.run = d.run ∧ d.completeLeave.pins = d.pins ∧ d.completeLeave.cfg = d.cfg ∧
    d.completeLeave.lnk = d.lnk ∧ d.completeLeave.ptb = d.ptb ∧ d.completeLeave.ctc = d.ctc ∧
    d.completeLeave.mtr = d.mtr ∧ d.completeLeave.rst = d.rst ∧ d.completeLeave.ntu = d.ntu ∧
    d.completeLeave.freeIdx = d.freeIdx := by
  simp only [Dev.completeLeave]
  simp

@[simp] theorem Dev.cellTimeout_frame (d : Dev) :
    d.cellTimeout.run = d.run ∧ d.cellTimeout.pins = d.pins ∧ d.cellTimeout.cfg = d.cfg ∧
    d.cellTimeout.lnk = d.lnk ∧ d.cellTimeout.ptb = d.ptb ∧ d.cellTimeout.msu = d.msu ∧
    d.cellTimeout.ctc = d.ctc ∧ d.cellTimeout.mtr = d.mtr ∧ d.cellTimeout.rst = d.rst ∧
    d.cellTimeout.freeIdx = d.freeIdx := by
  simp only [Dev.cellTimeout]
  (repeat' split) <;> simp

@[simp] theorem Dev.seekAfresh_frame (d : Dev) :
    d.seekAfresh.run = d.run ∧ d.seekAfresh.pins = d.pins ∧ d.seekAfresh.cfg = d.cfg ∧
    d.seekAfresh.lnk = d.lnk ∧ d.seekAfresh.ptb = d.ptb ∧ d.seekAfresh.msu = d.msu ∧
    d.seekAfresh.ctc = d.ctc ∧ d.seekAfresh.mtr = d.mtr ∧ d.seekAfresh.rst = d.rst ∧
    d.seekAfresh.freeIdx = d.freeIdx := by
  simp only [Dev.seekAfresh]
  (repeat' split) <;> simp

@[simp] theorem Dev.assignedClosed_frame (d : Dev) (x : Outlet) :
    (d.assignedClosed x).run = d.run ∧ (d.assignedClosed x).pins = d.pins ∧ (d.assignedClosed x).cfg = d.cfg ∧
    (d.assignedClosed x).lnk = d.lnk ∧ (d.assignedClosed x).ptb = d.ptb ∧ (d.assignedClosed x).msu = d.msu ∧
    (d.assignedClosed x).ctc = d.ctc ∧ (d.assignedClosed x).mtr = d.mtr ∧ (d.assignedClosed x).rst = d.rst ∧
    (d.assignedClosed x).ntu = d.ntu ∧ (d.assignedClosed x).freeIdx = d.freeIdx := by
  simp only [Dev.assignedClosed]
  (repeat' split) <;> simp

@[simp] theorem Dev.assignedLeftClosed_frame (d : Dev) :
    d.assignedLeftClosed.run = d.run ∧ d.assignedLeftClosed.pins = d.pins ∧ d.assignedLeftClosed.cfg = d.cfg ∧
    d.assignedLeftClosed.lnk = d.lnk ∧ d.assignedLeftClosed.ptb = d.ptb ∧ d.assignedLeftClosed.msu = d.msu ∧
    d.assignedLeftClosed.ctc = d.ctc ∧ d.assignedLeftClosed.mtr = d.mtr ∧ d.assignedLeftClosed.rst = d.rst ∧
    d.assignedLeftClosed.ntu = d.ntu ∧ d.assignedLeftClosed.freeIdx = d.freeIdx := by
  simp only [Dev.assignedLeftClosed]
  (repeat' split) <;> simp

@[simp] theorem Dev.assignedOpened_frame (d : Dev) (c : CState) :
    (d.assignedOpened c).run = d.run ∧ (d.assignedOpened c).pins = d.pins ∧ (d.assignedOpened c).cfg = d.cfg ∧
    (d.assignedOpened c).lnk = d.lnk ∧ (d.assignedOpened c).ptb = d.ptb ∧ (d.assignedOpened c).ctc = d.ctc ∧
    (d.assignedOpened c).mtr = d.mtr ∧ (d.assignedOpened c).rst = d.rst ∧ (d.assignedOpened c).freeIdx = d.freeIdx := by
  simp only [Dev.assignedOpened]
  (repeat' split) <;> simp

@[simp] theorem Dev.assignedChanged_frame (d : Dev) (x : Outlet) (o n : CState) :
    (d.assignedChanged x o n).run = d.run ∧ (d.assignedChanged x o n).pins = d.pins ∧ (d.assignedChanged x o n).cfg = d.cfg ∧
    (d.assignedChanged x o n).lnk = d.lnk ∧ (d.assignedChanged x o n).ptb = d.ptb ∧ (d.assignedChanged x o n).ctc = d.ctc ∧
    (d.assignedChanged x o n).mtr = d.mtr ∧ (d.assignedChanged x o n).rst = d.rst ∧ (d.assignedChanged x o n).freeIdx = d.freeIdx := by
  simp only [Dev.assignedChanged]
  (repeat' split) <;> simp

@[simp] theorem Dev.leftClosed_frame (d : Dev) (o : Origin) :
    (d.leftClosed o).run = d.run ∧ (d.leftClosed o).pins = d.pins ∧ (d.leftClosed o).cfg = d.cfg ∧
    (d.leftClosed o).lnk = d.lnk ∧ (d.leftClosed o).ptb = d.ptb ∧ (d.leftClosed o).msu = d.msu ∧
    (d.leftClosed o).ctc = d.ctc ∧ (d.leftClosed o).syn = d.syn ∧ (d.leftClosed o).hoc = d.hoc ∧
    (d.leftClosed o).freeIdx = d.freeIdx := by
  simp only [Dev.leftClosed]
  simp

@[simp] theorem Dev.conChanged_frame (d : Dev) (x : Outlet) (c : CState) (o : Origin) :
    (d.conChanged x c o).run = d.run ∧ (d.conChanged x c o).pins = d.pins ∧ (d.conChanged x c o).cfg = d.cfg ∧
    (d.conChanged x c o).lnk = d.lnk ∧ (d.conChanged x c o).ptb = d.ptb ∧ (d.conChanged x c o).ctc = d.ctc ∧
    (d.conChanged x c o).freeIdx = d.freeIdx := by
  simp only [Dev.conChanged]
  (repeat' split) <;> simp

@[simp] theorem Dev.backToOnBus_frame (d : Dev) :
    d.backToOnBus.run = d.run ∧ d.backToOnBus.pins = d.pins ∧ d.backToOnBus.cfg = d.cfg ∧
    d.backToOnBus.lnk = d.lnk ∧ d.backToOnBus.ptb = d.ptb ∧ d.backToOnBus.msu = d.msu ∧
    d.backToOnBus.ctc = d.ctc ∧ d.backToOnBus.mtr = d.mtr ∧ d.backToOnBus.rst = d.rst ∧
    d.backToOnBus.ntu = d.ntu ∧ d.backToOnBus.freeIdx = d.freeIdx := by
  simp only [Dev.backToOnBus]
  simp

@[simp] theorem Dev.breakerCloses_frame (d : Dev) (n : Nat) :
    (d.breakerCloses n).run = d.run ∧ (d.breakerCloses n).pins = d.pins ∧ (d.breakerCloses n).cfg = d.cfg ∧
    (d.breakerCloses n).lnk = d.lnk ∧ (d.breakerCloses n).ptb = d.ptb ∧ (d.breakerCloses n).msu = d.msu ∧
    (d.breakerCloses n).ctc = d.ctc ∧ (d.breakerCloses n).mtr = d.mtr ∧ (d.breakerCloses n).rst = d.rst ∧
    (d.breakerCloses n).freeIdx = d.freeIdx := by
  simp only [Dev.breakerCloses]
  (repeat' split) <;> simp

@[simp] theorem Dev.breakerOpens_frame (d : Dev) :
    d.breakerOpens.run = d.run ∧ d.breakerOpens.pins = d.pins ∧ d.breakerOpens.cfg = d.cfg ∧
    d.breakerOpens.lnk = d.lnk ∧ d.breakerOpens.ptb = d.ptb ∧ d.breakerOpens.msu = d.msu ∧
    d.breakerOpens.ctc = d.ctc ∧ d.breakerOpens.mtr = d.mtr ∧ d.breakerOpens.rst = d.rst ∧
    d.breakerOpens.freeIdx = d.freeIdx := by
  simp only [Dev.breakerOpens]
  (repeat' split) <;> simp

@[simp] theorem Dev.generatorEvent_frame (d : Dev) (n : Nat) :
    (d.generatorEvent n).run = d.run ∧ (d.generatorEvent n).pins = d.pins ∧ (d.generatorEvent n).cfg = d.cfg ∧
    (d.generatorEvent n).lnk = d.lnk ∧ (d.generatorEvent n).ptb = d.ptb ∧ (d.generatorEvent n).msu = d.msu ∧
    (d.generatorEvent n).ctc = d.ctc ∧ (d.generatorEvent n).mtr = d.mtr ∧ (d.generatorEvent n).rst = d.rst ∧
    (d.generatorEvent n).ntu = d.ntu ∧ (d.generatorEvent n).freeIdx = d.freeIdx := by
  simp only [Dev.generatorEvent]
  (repeat' split) <;> simp

@[simp] theorem Dev.shipEvents_frame (d : Dev) (u v : ShipFacts) :
    (d.shipEvents u v).run = d.run ∧ (d.shipEvents u v).pins = d.pins ∧ (d.shipEvents u v).cfg = d.cfg ∧
    (d.shipEvents u v).lnk = d.lnk ∧ (d.shipEvents u v).ptb = d.ptb ∧ (d.shipEvents u v).msu = d.msu ∧
    (d.shipEvents u v).ctc = d.ctc ∧ (d.shipEvents u v).mtr = d.mtr ∧ (d.shipEvents u v).rst = d.rst ∧
    (d.shipEvents u v).freeIdx = d.freeIdx := by
  simp only [Dev.shipEvents]
  (repeat' split) <;> simp

@[simp] theorem Dev.takeView_frame (d : Dev) :
    d.takeView.run = d.run ∧ d.takeView.pins = d.pins ∧ d.takeView.cfg = d.cfg ∧
    d.takeView.lnk = d.lnk ∧ d.takeView.ptb = d.ptb ∧ d.takeView.msu = d.msu ∧
    d.takeView.ctc = d.ctc ∧ d.takeView.mtr = d.mtr ∧ d.takeView.rst = d.rst ∧
    d.takeView.freeIdx = d.freeIdx := by
  simp only [Dev.takeView]
  (repeat' split) <;> simp

@[simp] theorem Dev.shipNotice_frame (d : Dev) :
    d.shipNotice.run = d.run ∧ d.shipNotice.pins = d.pins ∧ d.shipNotice.cfg = d.cfg ∧
    d.shipNotice.lnk = d.lnk ∧ d.shipNotice.ptb = d.ptb ∧ d.shipNotice.msu = d.msu ∧
    d.shipNotice.ctc = d.ctc ∧ d.shipNotice.mtr = d.mtr ∧ d.shipNotice.rst = d.rst ∧
    d.shipNotice.freeIdx = d.freeIdx := by
  simp only [Dev.shipNotice]
  (repeat' split) <;> simp

/-! ### The contactor controller -/

@[simp] theorem Dev.setCon_frame (d : Dev) (x : Outlet) (c : Contactor) :
    (d.setCon x c).run = d.run ∧ (d.setCon x c).pins = d.pins ∧ (d.setCon x c).cfg = d.cfg ∧
    (d.setCon x c).lnk = d.lnk ∧ (d.setCon x c).ptb = d.ptb ∧ (d.setCon x c).msu = d.msu ∧
    (d.setCon x c).syu = d.syu ∧ (d.setCon x c).syn = d.syn ∧ (d.setCon x c).hoc = d.hoc ∧
    (d.setCon x c).mtr = d.mtr ∧ (d.setCon x c).rst = d.rst ∧ (d.setCon x c).ntu = d.ntu ∧
    (d.setCon x c).freeIdx = d.freeIdx := by
  simp only [Dev.setCon]
  simp

@[simp] theorem Dev.changeCon_frame (d : Dev) (x : Outlet) (c : Contactor) (o : Origin) :
    (d.changeCon x c o).run = d.run ∧ (d.changeCon x c o).pins = d.pins ∧ (d.changeCon x c o).cfg = d.cfg ∧
    (d.changeCon x c o).lnk = d.lnk ∧ (d.changeCon x c o).ptb = d.ptb ∧ (d.changeCon x c o).freeIdx = d.freeIdx := by
  simp only [Dev.changeCon]
  simp

@[simp] theorem Dev.startClose_frame (d : Dev) (x : Outlet) :
    (d.startClose x).run = d.run ∧ (d.startClose x).pins = d.pins ∧ (d.startClose x).cfg = d.cfg ∧
    (d.startClose x).lnk = d.lnk ∧ (d.startClose x).ptb = d.ptb ∧ (d.startClose x).freeIdx = d.freeIdx := by
  simp only [Dev.startClose]
  simp

@[simp] theorem Dev.openRequest_frame (d : Dev) (x : Outlet) (o : Origin) :
    (d.openRequest x o).run = d.run ∧ (d.openRequest x o).pins = d.pins ∧ (d.openRequest x o).cfg = d.cfg ∧
    (d.openRequest x o).lnk = d.lnk ∧ (d.openRequest x o).ptb = d.ptb ∧ (d.openRequest x o).freeIdx = d.freeIdx := by
  simp only [Dev.openRequest]
  simp

@[simp] theorem Dev.takeHeld_frame (d : Dev) (x : Outlet) :
    (d.takeHeld x).run = d.run ∧ (d.takeHeld x).pins = d.pins ∧ (d.takeHeld x).cfg = d.cfg ∧
    (d.takeHeld x).lnk = d.lnk ∧ (d.takeHeld x).ptb = d.ptb ∧ (d.takeHeld x).freeIdx = d.freeIdx := by
  simp only [Dev.takeHeld]
  (repeat' split) <;> simp

@[simp] theorem Dev.becomeOpen_frame (d : Dev) (x : Outlet) (o : Origin) :
    (d.becomeOpen x o).run = d.run ∧ (d.becomeOpen x o).pins = d.pins ∧ (d.becomeOpen x o).cfg = d.cfg ∧
    (d.becomeOpen x o).lnk = d.lnk ∧ (d.becomeOpen x o).ptb = d.ptb ∧ (d.becomeOpen x o).freeIdx = d.freeIdx := by
  simp only [Dev.becomeOpen]
  simp

@[simp] theorem Dev.becomeClosed_frame (d : Dev) (x : Outlet) :
    (d.becomeClosed x).run = d.run ∧ (d.becomeClosed x).pins = d.pins ∧ (d.becomeClosed x).cfg = d.cfg ∧
    (d.becomeClosed x).lnk = d.lnk ∧ (d.becomeClosed x).ptb = d.ptb ∧ (d.becomeClosed x).freeIdx = d.freeIdx := by
  simp only [Dev.becomeClosed]
  simp

@[simp] theorem Dev.hocTrip_frame (d : Dev) :
    d.hocTrip.run = d.run ∧ d.hocTrip.pins = d.pins ∧ d.hocTrip.cfg = d.cfg ∧
    d.hocTrip.lnk = d.lnk ∧ d.hocTrip.ptb = d.ptb ∧ d.hocTrip.msu = d.msu ∧
    d.hocTrip.ctc = d.ctc ∧ d.hocTrip.mtr = d.mtr ∧ d.hocTrip.rst = d.rst ∧
    d.hocTrip.ntu = d.ntu ∧ d.hocTrip.freeIdx = d.freeIdx := by
  simp only [Dev.hocTrip]
  simp

@[simp] theorem Dev.raiseTrip_frame (d : Dev) (c : TripCause) :
    (d.raiseTrip c).run = d.run ∧ (d.raiseTrip c).pins = d.pins ∧ (d.raiseTrip c).cfg = d.cfg ∧
    (d.raiseTrip c).lnk = d.lnk ∧ (d.raiseTrip c).ptb = d.ptb ∧ (d.raiseTrip c).msu = d.msu ∧
    (d.raiseTrip c).syu = d.syu ∧ (d.raiseTrip c).ctc = d.ctc ∧ (d.raiseTrip c).syn = d.syn ∧
    (d.raiseTrip c).hoc = d.hoc ∧ (d.raiseTrip c).mtr = d.mtr ∧ (d.raiseTrip c).rst = d.rst ∧
    (d.raiseTrip c).freeIdx = d.freeIdx := by
  simp only [Dev.raiseTrip]
  (repeat' split) <;> simp

@[simp] theorem Dev.bothChanged_frame (d : Dev) (p q : CState) (o : Origin) :
    (d.bothChanged p q o).run = d.run ∧ (d.bothChanged p q o).pins = d.pins ∧ (d.bothChanged p q o).cfg = d.cfg ∧
    (d.bothChanged p q o).lnk = d.lnk ∧ (d.bothChanged p q o).ptb = d.ptb ∧ (d.bothChanged p q o).ctc = d.ctc ∧
    (d.bothChanged p q o).freeIdx = d.freeIdx := by
  simp only [Dev.bothChanged]
  simp

@[simp] theorem Dev.trip_frame (d : Dev) (c : TripCause) (x : Option Outlet) :
    (d.trip c x).run = d.run ∧ (d.trip c x).pins = d.pins ∧ (d.trip c x).cfg = d.cfg ∧
    (d.trip c x).lnk = d.lnk ∧ (d.trip c x).ptb = d.ptb := by
  simp only [Dev.trip]
  (repeat' split) <;> simp

@[simp] theorem Dev.closeFailed_frame (d : Dev) (x : Outlet) :
    (d.closeFailed x).run = d.run ∧ (d.closeFailed x).pins = d.pins ∧ (d.closeFailed x).cfg = d.cfg ∧
    (d.closeFailed x).lnk = d.lnk ∧ (d.closeFailed x).ptb = d.ptb ∧ (d.closeFailed x).freeIdx = d.freeIdx := by
  simp only [Dev.closeFailed]
  simp

@[simp] theorem Dev.openFailed_frame (d : Dev) (x : Outlet) :
    (d.openFailed x).run = d.run ∧ (d.openFailed x).pins = d.pins ∧ (d.openFailed x).cfg = d.cfg ∧
    (d.openFailed x).lnk = d.lnk ∧ (d.openFailed x).ptb = d.ptb := by
  simp only [Dev.openFailed]
  simp

@[simp] theorem Dev.pulseEnd_frame (d : Dev) (x : Outlet) :
    (d.pulseEnd x).run = d.run ∧ (d.pulseEnd x).pins = d.pins ∧ (d.pulseEnd x).cfg = d.cfg ∧
    (d.pulseEnd x).lnk = d.lnk ∧ (d.pulseEnd x).ptb = d.ptb := by
  simp only [Dev.pulseEnd]
  (repeat' split) <;> simp

@[simp] theorem Dev.confirmEnd_frame (d : Dev) (x : Outlet) :
    (d.confirmEnd x).run = d.run ∧ (d.confirmEnd x).pins = d.pins ∧ (d.confirmEnd x).cfg = d.cfg ∧
    (d.confirmEnd x).lnk = d.lnk ∧ (d.confirmEnd x).ptb = d.ptb := by
  simp only [Dev.confirmEnd]
  (repeat' split) <;> simp

@[simp] theorem Dev.gapEnd_frame (d : Dev) (x : Outlet) :
    (d.gapEnd x).run = d.run ∧ (d.gapEnd x).pins = d.pins ∧ (d.gapEnd x).cfg = d.cfg ∧
    (d.gapEnd x).lnk = d.lnk ∧ (d.gapEnd x).ptb = d.ptb ∧ (d.gapEnd x).msu = d.msu ∧
    (d.gapEnd x).syu = d.syu ∧ (d.gapEnd x).syn = d.syn ∧ (d.gapEnd x).hoc = d.hoc ∧
    (d.gapEnd x).mtr = d.mtr ∧ (d.gapEnd x).rst = d.rst ∧ (d.gapEnd x).ntu = d.ntu ∧
    (d.gapEnd x).freeIdx = d.freeIdx := by
  simp only [Dev.gapEnd]
  (repeat' split) <;> simp

@[simp] theorem Dev.unexpectedClosure_frame (d : Dev) (x : Outlet) :
    (d.unexpectedClosure x).run = d.run ∧ (d.unexpectedClosure x).pins = d.pins ∧ (d.unexpectedClosure x).cfg = d.cfg ∧
    (d.unexpectedClosure x).lnk = d.lnk ∧ (d.unexpectedClosure x).ptb = d.ptb := by
  simp only [Dev.unexpectedClosure]
  simp

@[simp] theorem Dev.setAux_frame (d : Dev) (x : Outlet) (c : Bool) :
    (d.setAux x c).run = d.run ∧ (d.setAux x c).cfg = d.cfg ∧ (d.setAux x c).lnk = d.lnk ∧
    (d.setAux x c).ptb = d.ptb ∧ (d.setAux x c).msu = d.msu ∧ (d.setAux x c).syu = d.syu ∧
    (d.setAux x c).syn = d.syn ∧ (d.setAux x c).hoc = d.hoc ∧ (d.setAux x c).mtr = d.mtr ∧
    (d.setAux x c).rst = d.rst ∧ (d.setAux x c).ntu = d.ntu ∧ (d.setAux x c).freeIdx = d.freeIdx := by
  simp only [Dev.setAux]
  (repeat' split) <;> simp

@[simp] theorem Dev.auxEffect_frame (d : Dev) (x : Outlet) (c : Bool) :
    (d.auxEffect x c).run = d.run ∧ (d.auxEffect x c).pins = d.pins ∧ (d.auxEffect x c).cfg = d.cfg ∧
    (d.auxEffect x c).lnk = d.lnk ∧ (d.auxEffect x c).ptb = d.ptb := by
  simp only [Dev.auxEffect]
  (repeat' split) <;> simp

@[simp] theorem Dev.auxLevel_frame (d : Dev) (x : Outlet) (c : Bool) :
    (d.auxLevel x c).run = d.run ∧ (d.auxLevel x c).cfg = d.cfg ∧ (d.auxLevel x c).lnk = d.lnk ∧
    (d.auxLevel x c).ptb = d.ptb := by
  simp only [Dev.auxLevel]
  (repeat' split) <;> simp

/-! ### Cycle beginnings, boundaries, timers -/

@[simp] theorem Dev.takeMet_frame (d : Dev) :
    d.takeMet.run = d.run ∧ d.takeMet.pins = d.pins ∧ d.takeMet.cfg = d.cfg ∧
    d.takeMet.lnk = d.lnk ∧ d.takeMet.ptb = d.ptb ∧ d.takeMet.freeIdx = d.freeIdx := by
  simp only [Dev.takeMet]
  (repeat' split) <;> simp

@[simp] theorem Dev.busCrossing_frame (d : Dev) :
    d.busCrossing.run = d.run ∧ d.busCrossing.pins = d.pins ∧ d.busCrossing.cfg = d.cfg ∧
    d.busCrossing.lnk = d.lnk ∧ d.busCrossing.ptb = d.ptb := by
  simp only [Dev.busCrossing]
  (repeat' split) <;> simp

@[simp] theorem Dev.formingClose_frame (d : Dev) (x : Outlet) :
    (d.formingClose x).run = d.run ∧ (d.formingClose x).pins = d.pins ∧ (d.formingClose x).cfg = d.cfg ∧
    (d.formingClose x).lnk = d.lnk ∧ (d.formingClose x).ptb = d.ptb ∧ (d.formingClose x).freeIdx = d.freeIdx := by
  simp only [Dev.formingClose]
  (repeat' split) <;> simp

@[simp] theorem Dev.judgeForming_frame (d : Dev) :
    d.judgeForming.run = d.run ∧ d.judgeForming.pins = d.pins ∧ d.judgeForming.cfg = d.cfg ∧
    d.judgeForming.lnk = d.lnk ∧ d.judgeForming.ptb = d.ptb ∧ d.judgeForming.freeIdx = d.freeIdx := by
  simp only [Dev.judgeForming]
  (repeat' split) <;> simp

@[simp] theorem Dev.judgeLead_frame (d : Dev) :
    d.judgeLead.run = d.run ∧ d.judgeLead.pins = d.pins ∧ d.judgeLead.cfg = d.cfg ∧
    d.judgeLead.lnk = d.lnk ∧ d.judgeLead.ptb = d.ptb ∧ d.judgeLead.msu = d.msu ∧
    d.judgeLead.syu = d.syu ∧ d.judgeLead.ctc = d.ctc ∧ d.judgeLead.syn = d.syn ∧
    d.judgeLead.mtr = d.mtr ∧ d.judgeLead.rst = d.rst ∧ d.judgeLead.ntu = d.ntu ∧
    d.judgeLead.freeIdx = d.freeIdx := by
  simp only [Dev.judgeLead]
  (repeat' split) <;> simp

@[simp] theorem Dev.follow_frame (d : Dev) :
    d.follow.run = d.run ∧ d.follow.pins = d.pins ∧ d.follow.cfg = d.cfg ∧
    d.follow.lnk = d.lnk ∧ d.follow.ptb = d.ptb ∧ d.follow.msu = d.msu ∧
    d.follow.ctc = d.ctc ∧ d.follow.mtr = d.mtr ∧ d.follow.rst = d.rst ∧
    d.follow.ntu = d.ntu ∧ d.follow.freeIdx = d.freeIdx := by
  simp only [Dev.follow]
  (repeat' split) <;> simp

@[simp] theorem Dev.energiseDead_frame (d : Dev) :
    d.energiseDead.run = d.run ∧ d.energiseDead.pins = d.pins ∧ d.energiseDead.cfg = d.cfg ∧
    d.energiseDead.lnk = d.lnk ∧ d.energiseDead.ptb = d.ptb ∧ d.energiseDead.msu = d.msu ∧
    d.energiseDead.ctc = d.ctc ∧ d.energiseDead.mtr = d.mtr ∧ d.energiseDead.rst = d.rst ∧
    d.energiseDead.ntu = d.ntu ∧ d.energiseDead.freeIdx = d.freeIdx := by
  simp only [Dev.energiseDead]
  (repeat' split) <;> simp

@[simp] theorem Dev.hocCycle_frame (d : Dev) :
    d.hocCycle.run = d.run ∧ d.hocCycle.pins = d.pins ∧ d.hocCycle.cfg = d.cfg ∧
    d.hocCycle.lnk = d.lnk ∧ d.hocCycle.ptb = d.ptb ∧ d.hocCycle.freeIdx = d.freeIdx := by
  simp only [Dev.hocCycle]
  simp

@[simp] theorem Dev.leavingStep_frame (d : Dev) :
    d.leavingStep.run = d.run ∧ d.leavingStep.pins = d.pins ∧ d.leavingStep.cfg = d.cfg ∧
    d.leavingStep.lnk = d.lnk ∧ d.leavingStep.ptb = d.ptb ∧ d.leavingStep.msu = d.msu ∧
    d.leavingStep.ctc = d.ctc ∧ d.leavingStep.syn = d.syn ∧ d.leavingStep.mtr = d.mtr ∧
    d.leavingStep.rst = d.rst ∧ d.leavingStep.ntu = d.ntu ∧ d.leavingStep.freeIdx = d.freeIdx := by
  simp only [Dev.leavingStep]
  (repeat' split) <;> simp

@[simp] theorem Dev.upStep_frame (d : Dev) (v : ShipFacts) :
    (d.upStep v).run = d.run ∧ (d.upStep v).pins = d.pins ∧ (d.upStep v).cfg = d.cfg ∧
    (d.upStep v).lnk = d.lnk ∧ (d.upStep v).ptb = d.ptb ∧ (d.upStep v).msu = d.msu ∧
    (d.upStep v).ctc = d.ctc ∧ (d.upStep v).syn = d.syn ∧ (d.upStep v).hoc = d.hoc ∧
    (d.upStep v).mtr = d.mtr ∧ (d.upStep v).rst = d.rst ∧ (d.upStep v).ntu = d.ntu ∧
    (d.upStep v).freeIdx = d.freeIdx := by
  simp only [Dev.upStep]
  (repeat' split) <;> simp

@[simp] theorem Dev.upBoundary_frame (d : Dev) :
    d.upBoundary.run = d.run ∧ d.upBoundary.pins = d.pins ∧ d.upBoundary.cfg = d.cfg ∧
    d.upBoundary.lnk = d.lnk ∧ d.upBoundary.ptb = d.ptb ∧ d.upBoundary.msu = d.msu ∧
    d.upBoundary.ctc = d.ctc ∧ d.upBoundary.syn = d.syn ∧ d.upBoundary.mtr = d.mtr ∧
    d.upBoundary.rst = d.rst ∧ d.upBoundary.ntu = d.ntu ∧ d.upBoundary.freeIdx = d.freeIdx := by
  simp only [Dev.upBoundary]
  (repeat' split) <;> simp

@[simp] theorem Dev.shedBoundary_frame (d : Dev) :
    d.shedBoundary.run = d.run ∧ d.shedBoundary.pins = d.pins ∧ d.shedBoundary.cfg = d.cfg ∧
    d.shedBoundary.lnk = d.lnk ∧ d.shedBoundary.ptb = d.ptb ∧ d.shedBoundary.msu = d.msu ∧
    d.shedBoundary.syu = d.syu ∧ d.shedBoundary.ctc = d.ctc ∧ d.shedBoundary.syn = d.syn ∧
    d.shedBoundary.mtr = d.mtr ∧ d.shedBoundary.rst = d.rst ∧ d.shedBoundary.ntu = d.ntu ∧
    d.shedBoundary.freeIdx = d.freeIdx := by
  simp only [Dev.shedBoundary]
  (repeat' split) <;> simp

@[simp] theorem Dev.downBoundary_frame (d : Dev) :
    d.downBoundary.run = d.run ∧ d.downBoundary.pins = d.pins ∧ d.downBoundary.cfg = d.cfg ∧
    d.downBoundary.lnk = d.lnk ∧ d.downBoundary.ptb = d.ptb ∧ d.downBoundary.msu = d.msu ∧
    d.downBoundary.ctc = d.ctc ∧ d.downBoundary.syn = d.syn ∧ d.downBoundary.mtr = d.mtr ∧
    d.downBoundary.rst = d.rst ∧ d.downBoundary.ntu = d.ntu ∧ d.downBoundary.freeIdx = d.freeIdx := by
  simp only [Dev.downBoundary]
  (repeat' split) <;> simp

@[simp] theorem Dev.hocBoundary_frame (d : Dev) :
    d.hocBoundary.run = d.run ∧ d.hocBoundary.pins = d.pins ∧ d.hocBoundary.cfg = d.cfg ∧
    d.hocBoundary.lnk = d.lnk ∧ d.hocBoundary.ptb = d.ptb ∧ d.hocBoundary.msu = d.msu ∧
    d.hocBoundary.ctc = d.ctc ∧ d.hocBoundary.syn = d.syn ∧ d.hocBoundary.mtr = d.mtr ∧
    d.hocBoundary.rst = d.rst ∧ d.hocBoundary.ntu = d.ntu ∧ d.hocBoundary.freeIdx = d.freeIdx := by
  simp only [Dev.hocBoundary]
  (repeat' split) <;> simp

@[simp] theorem Dev.superframe_frame (d : Dev) :
    d.superframe.run = d.run ∧ d.superframe.pins = d.pins ∧ d.superframe.cfg = d.cfg ∧
    d.superframe.lnk = d.lnk ∧ d.superframe.ptb = d.ptb ∧ d.superframe.msu = d.msu ∧
    d.superframe.ctc = d.ctc ∧ d.superframe.syn = d.syn ∧ d.superframe.mtr = d.mtr ∧
    d.superframe.rst = d.rst ∧ d.superframe.ntu = d.ntu := by
  simp only [Dev.superframe]
  (repeat' split) <;> simp

@[simp] theorem Dev.rampStall_frame (d : Dev) :
    d.rampStall.run = d.run ∧ d.rampStall.pins = d.pins ∧ d.rampStall.cfg = d.cfg ∧
    d.rampStall.lnk = d.lnk ∧ d.rampStall.ptb = d.ptb ∧ d.rampStall.msu = d.msu ∧
    d.rampStall.ctc = d.ctc ∧ d.rampStall.mtr = d.mtr ∧ d.rampStall.rst = d.rst ∧
    d.rampStall.freeIdx = d.freeIdx := by
  simp only [Dev.rampStall]
  simp

@[simp] theorem Dev.progressExpiry_frame (d : Dev) :
    d.progressExpiry.run = d.run ∧ d.progressExpiry.pins = d.pins ∧ d.progressExpiry.cfg = d.cfg ∧
    d.progressExpiry.lnk = d.lnk ∧ d.progressExpiry.ptb = d.ptb ∧ d.progressExpiry.msu = d.msu ∧
    d.progressExpiry.ctc = d.ctc ∧ d.progressExpiry.mtr = d.mtr ∧ d.progressExpiry.rst = d.rst ∧
    d.progressExpiry.freeIdx = d.freeIdx := by
  simp only [Dev.progressExpiry]
  (repeat' split) <;> simp

@[simp] theorem Dev.absoluteExpiry_frame (d : Dev) :
    d.absoluteExpiry.run = d.run ∧ d.absoluteExpiry.pins = d.pins ∧ d.absoluteExpiry.cfg = d.cfg ∧
    d.absoluteExpiry.lnk = d.lnk ∧ d.absoluteExpiry.ptb = d.ptb ∧ d.absoluteExpiry.msu = d.msu ∧
    d.absoluteExpiry.ctc = d.ctc ∧ d.absoluteExpiry.mtr = d.mtr ∧ d.absoluteExpiry.rst = d.rst ∧
    d.absoluteExpiry.freeIdx = d.freeIdx := by
  simp only [Dev.absoluteExpiry]
  (repeat' split) <;> simp

@[simp] theorem Dev.lowGenExpiry_frame (d : Dev) :
    d.lowGenExpiry.run = d.run ∧ d.lowGenExpiry.pins = d.pins ∧ d.lowGenExpiry.cfg = d.cfg ∧
    d.lowGenExpiry.lnk = d.lnk ∧ d.lowGenExpiry.ptb = d.ptb ∧ d.lowGenExpiry.msu = d.msu ∧
    d.lowGenExpiry.syu = d.syu ∧ d.lowGenExpiry.ctc = d.ctc ∧ d.lowGenExpiry.syn = d.syn ∧
    d.lowGenExpiry.mtr = d.mtr ∧ d.lowGenExpiry.rst = d.rst ∧ d.lowGenExpiry.ntu = d.ntu ∧
    d.lowGenExpiry.freeIdx = d.freeIdx := by
  simp only [Dev.lowGenExpiry]
  (repeat' split) <;> simp

@[simp] theorem Dev.releaseExpiry_frame (d : Dev) :
    d.releaseExpiry.run = d.run ∧ d.releaseExpiry.pins = d.pins ∧ d.releaseExpiry.cfg = d.cfg ∧
    d.releaseExpiry.lnk = d.lnk ∧ d.releaseExpiry.ptb = d.ptb ∧ d.releaseExpiry.msu = d.msu ∧
    d.releaseExpiry.ctc = d.ctc ∧ d.releaseExpiry.mtr = d.mtr ∧ d.releaseExpiry.rst = d.rst ∧
    d.releaseExpiry.ntu = d.ntu ∧ d.releaseExpiry.freeIdx = d.freeIdx := by
  simp only [Dev.releaseExpiry]
  (repeat' split) <;> simp

@[simp] theorem Dev.releaseWaitExpiry_frame (d : Dev) :
    d.releaseWaitExpiry.run = d.run ∧ d.releaseWaitExpiry.pins = d.pins ∧ d.releaseWaitExpiry.cfg = d.cfg ∧
    d.releaseWaitExpiry.lnk = d.lnk ∧ d.releaseWaitExpiry.ptb = d.ptb ∧ d.releaseWaitExpiry.msu = d.msu ∧
    d.releaseWaitExpiry.ctc = d.ctc ∧ d.releaseWaitExpiry.mtr = d.mtr ∧ d.releaseWaitExpiry.rst = d.rst ∧
    d.releaseWaitExpiry.freeIdx = d.freeIdx := by
  simp only [Dev.releaseWaitExpiry]
  (repeat' split) <;> simp

@[simp] theorem Dev.openOwn_frame (d : Dev) :
    d.openOwn.run = d.run ∧ d.openOwn.pins = d.pins ∧ d.openOwn.cfg = d.cfg ∧
    d.openOwn.lnk = d.lnk ∧ d.openOwn.ptb = d.ptb ∧ d.openOwn.freeIdx = d.freeIdx := by
  simp only [Dev.openOwn]
  (repeat' split) <;> simp

@[simp] theorem Dev.lowLoadExpiry_frame (d : Dev) :
    d.lowLoadExpiry.run = d.run ∧ d.lowLoadExpiry.pins = d.pins ∧ d.lowLoadExpiry.cfg = d.cfg ∧
    d.lowLoadExpiry.lnk = d.lnk ∧ d.lowLoadExpiry.ptb = d.ptb ∧ d.lowLoadExpiry.freeIdx = d.freeIdx := by
  simp only [Dev.lowLoadExpiry]
  (repeat' split) <;> simp

@[simp] theorem Dev.leaveStalled_frame (d : Dev) (st : HState) :
    (d.leaveStalled st).run = d.run ∧ (d.leaveStalled st).pins = d.pins ∧ (d.leaveStalled st).cfg = d.cfg ∧
    (d.leaveStalled st).lnk = d.lnk ∧ (d.leaveStalled st).ptb = d.ptb ∧ (d.leaveStalled st).msu = d.msu ∧
    (d.leaveStalled st).ctc = d.ctc ∧ (d.leaveStalled st).mtr = d.mtr ∧ (d.leaveStalled st).rst = d.rst ∧
    (d.leaveStalled st).freeIdx = d.freeIdx := by
  simp only [Dev.leaveStalled]
  simp

@[simp] theorem Dev.leaveStallExpiry_frame (d : Dev) :
    d.leaveStallExpiry.run = d.run ∧ d.leaveStallExpiry.pins = d.pins ∧ d.leaveStallExpiry.cfg = d.cfg ∧
    d.leaveStallExpiry.lnk = d.lnk ∧ d.leaveStallExpiry.ptb = d.ptb ∧ d.leaveStallExpiry.msu = d.msu ∧
    d.leaveStallExpiry.ctc = d.ctc ∧ d.leaveStallExpiry.mtr = d.mtr ∧ d.leaveStallExpiry.rst = d.rst ∧
    d.leaveStallExpiry.freeIdx = d.freeIdx := by
  simp only [Dev.leaveStallExpiry]
  (repeat' split) <;> simp

@[simp] theorem Dev.joinSecond_frame (d : Dev) :
    d.joinSecond.run = d.run ∧ d.joinSecond.pins = d.pins ∧ d.joinSecond.cfg = d.cfg ∧
    d.joinSecond.lnk = d.lnk ∧ d.joinSecond.ptb = d.ptb ∧ d.joinSecond.msu = d.msu ∧
    d.joinSecond.syu = d.syu ∧ d.joinSecond.ctc = d.ctc ∧ d.joinSecond.syn = d.syn ∧
    d.joinSecond.mtr = d.mtr ∧ d.joinSecond.rst = d.rst ∧ d.joinSecond.ntu = d.ntu ∧
    d.joinSecond.freeIdx = d.freeIdx := by
  simp only [Dev.joinSecond]
  (repeat' split) <;> simp

@[simp] theorem Dev.joinTick_frame (d : Dev) :
    d.joinTick.run = d.run ∧ d.joinTick.pins = d.pins ∧ d.joinTick.cfg = d.cfg ∧
    d.joinTick.lnk = d.lnk ∧ d.joinTick.ptb = d.ptb ∧ d.joinTick.msu = d.msu ∧
    d.joinTick.syu = d.syu ∧ d.joinTick.ctc = d.ctc ∧ d.joinTick.syn = d.syn ∧
    d.joinTick.mtr = d.mtr ∧ d.joinTick.rst = d.rst ∧ d.joinTick.ntu = d.ntu ∧
    d.joinTick.freeIdx = d.freeIdx := by
  simp only [Dev.joinTick]
  (repeat' split) <;> simp

@[simp] theorem Dev.cellTimeoutExpiry_frame (d : Dev) :
    d.cellTimeoutExpiry.run = d.run ∧ d.cellTimeoutExpiry.pins = d.pins ∧ d.cellTimeoutExpiry.cfg = d.cfg ∧
    d.cellTimeoutExpiry.lnk = d.lnk ∧ d.cellTimeoutExpiry.ptb = d.ptb ∧ d.cellTimeoutExpiry.msu = d.msu ∧
    d.cellTimeoutExpiry.ctc = d.ctc ∧ d.cellTimeoutExpiry.mtr = d.mtr ∧ d.cellTimeoutExpiry.rst = d.rst ∧
    d.cellTimeoutExpiry.freeIdx = d.freeIdx := by
  simp only [Dev.cellTimeoutExpiry]
  (repeat' split) <;> simp

@[simp] theorem Dev.shipTimeoutExpiry_frame (d : Dev) :
    d.shipTimeoutExpiry.run = d.run ∧ d.shipTimeoutExpiry.pins = d.pins ∧ d.shipTimeoutExpiry.cfg = d.cfg ∧
    d.shipTimeoutExpiry.lnk = d.lnk ∧ d.shipTimeoutExpiry.ptb = d.ptb ∧ d.shipTimeoutExpiry.msu = d.msu ∧
    d.shipTimeoutExpiry.ctc = d.ctc ∧ d.shipTimeoutExpiry.mtr = d.mtr ∧ d.shipTimeoutExpiry.rst = d.rst ∧
    d.shipTimeoutExpiry.freeIdx = d.freeIdx := by
  simp only [Dev.shipTimeoutExpiry]
  (repeat' split) <;> simp

@[simp] theorem Dev.backOffExpiry_frame (d : Dev) :
    d.backOffExpiry.run = d.run ∧ d.backOffExpiry.pins = d.pins ∧ d.backOffExpiry.cfg = d.cfg ∧
    d.backOffExpiry.lnk = d.lnk ∧ d.backOffExpiry.ptb = d.ptb ∧ d.backOffExpiry.msu = d.msu ∧
    d.backOffExpiry.ctc = d.ctc ∧ d.backOffExpiry.mtr = d.mtr ∧ d.backOffExpiry.rst = d.rst ∧
    d.backOffExpiry.ntu = d.ntu ∧ d.backOffExpiry.freeIdx = d.freeIdx := by
  simp only [Dev.backOffExpiry]
  (repeat' split) <;> simp

@[simp] theorem Dev.hocMuted_frame (d : Dev) :
    d.hocMuted.run = d.run ∧ d.hocMuted.pins = d.pins ∧ d.hocMuted.cfg = d.cfg ∧
    d.hocMuted.lnk = d.lnk ∧ d.hocMuted.ptb = d.ptb ∧ d.hocMuted.msu = d.msu ∧
    d.hocMuted.ctc = d.ctc ∧ d.hocMuted.mtr = d.mtr ∧ d.hocMuted.rst = d.rst ∧
    d.hocMuted.ntu = d.ntu ∧ d.hocMuted.freeIdx = d.freeIdx := by
  simp only [Dev.hocMuted]
  (repeat' split) <;> simp

@[simp] theorem Dev.ctcMuted_frame (d : Dev) (c : Bool) :
    (d.ctcMuted c).run = d.run ∧ (d.ctcMuted c).pins = d.pins ∧ (d.ctcMuted c).cfg = d.cfg ∧
    (d.ctcMuted c).lnk = d.lnk ∧ (d.ctcMuted c).ptb = d.ptb := by
  simp only [Dev.ctcMuted]
  (repeat' split) <;> simp

@[simp] theorem Dev.enterMuted_frame (d : Dev) :
    d.enterMuted.run = d.run ∧ d.enterMuted.pins = d.pins ∧ d.enterMuted.cfg = d.cfg ∧
    d.enterMuted.ptb = d.ptb := by
  simp only [Dev.enterMuted]
  (repeat' split) <;> simp

@[simp] theorem Dev.becomeAligned_frame (d : Dev) :
    d.becomeAligned.run = d.run ∧ d.becomeAligned.pins = d.pins ∧ d.becomeAligned.cfg = d.cfg ∧
    d.becomeAligned.ptb = d.ptb ∧ d.becomeAligned.msu = d.msu ∧ d.becomeAligned.ctc = d.ctc ∧
    d.becomeAligned.mtr = d.mtr ∧ d.becomeAligned.rst = d.rst ∧ d.becomeAligned.ntu = d.ntu ∧
    d.becomeAligned.freeIdx = d.freeIdx := by
  simp only [Dev.becomeAligned]
  simp

@[simp] theorem Dev.syuWarning_frame (d : Dev) :
    d.syuWarning.run = d.run ∧ d.syuWarning.pins = d.pins ∧ d.syuWarning.cfg = d.cfg ∧
    d.syuWarning.lnk = d.lnk ∧ d.syuWarning.ptb = d.ptb ∧ d.syuWarning.msu = d.msu ∧
    d.syuWarning.ctc = d.ctc ∧ d.syuWarning.syn = d.syn ∧ d.syuWarning.hoc = d.hoc ∧
    d.syuWarning.mtr = d.mtr ∧ d.syuWarning.rst = d.rst ∧ d.syuWarning.ntu = d.ntu ∧
    d.syuWarning.freeIdx = d.freeIdx := by
  simp only [Dev.syuWarning]
  simp

@[simp] theorem Dev.synWarning_frame (d : Dev) :
    d.synWarning.run = d.run ∧ d.synWarning.pins = d.pins ∧ d.synWarning.cfg = d.cfg ∧
    d.synWarning.lnk = d.lnk ∧ d.synWarning.ptb = d.ptb ∧ d.synWarning.msu = d.msu ∧
    d.synWarning.syu = d.syu ∧ d.synWarning.ctc = d.ctc ∧ d.synWarning.hoc = d.hoc ∧
    d.synWarning.mtr = d.mtr ∧ d.synWarning.rst = d.rst ∧ d.synWarning.ntu = d.ntu ∧
    d.synWarning.freeIdx = d.freeIdx := by
  simp only [Dev.synWarning]
  simp

@[simp] theorem Dev.hocWarning_frame (d : Dev) :
    d.hocWarning.run = d.run ∧ d.hocWarning.pins = d.pins ∧ d.hocWarning.cfg = d.cfg ∧
    d.hocWarning.lnk = d.lnk ∧ d.hocWarning.ptb = d.ptb ∧ d.hocWarning.msu = d.msu ∧
    d.hocWarning.ctc = d.ctc ∧ d.hocWarning.mtr = d.mtr ∧ d.hocWarning.rst = d.rst ∧
    d.hocWarning.ntu = d.ntu ∧ d.hocWarning.freeIdx = d.freeIdx := by
  simp only [Dev.hocWarning]
  (repeat' split) <;> simp

@[simp] theorem Dev.ctcWarning_frame (d : Dev) :
    d.ctcWarning.run = d.run ∧ d.ctcWarning.pins = d.pins ∧ d.ctcWarning.cfg = d.cfg ∧
    d.ctcWarning.lnk = d.lnk ∧ d.ctcWarning.ptb = d.ptb ∧ d.ctcWarning.freeIdx = d.freeIdx := by
  simp only [Dev.ctcWarning]
  simp

@[simp] theorem Dev.mtrWarning_frame (d : Dev) :
    d.mtrWarning.run = d.run ∧ d.mtrWarning.pins = d.pins ∧ d.mtrWarning.cfg = d.cfg ∧
    d.mtrWarning.lnk = d.lnk ∧ d.mtrWarning.ptb = d.ptb ∧ d.mtrWarning.msu = d.msu ∧
    d.mtrWarning.syu = d.syu ∧ d.mtrWarning.ctc = d.ctc ∧ d.mtrWarning.syn = d.syn ∧
    d.mtrWarning.hoc = d.hoc ∧ d.mtrWarning.freeIdx = d.freeIdx := by
  simp only [Dev.mtrWarning]
  simp

@[simp] theorem Dev.rstWarning_frame (d : Dev) :
    d.rstWarning.run = d.run ∧ d.rstWarning.pins = d.pins ∧ d.rstWarning.cfg = d.cfg ∧
    d.rstWarning.lnk = d.lnk ∧ d.rstWarning.ptb = d.ptb ∧ d.rstWarning.msu = d.msu ∧
    d.rstWarning.syu = d.syu ∧ d.rstWarning.ctc = d.ctc ∧ d.rstWarning.syn = d.syn ∧
    d.rstWarning.hoc = d.hoc ∧ d.rstWarning.mtr = d.mtr ∧ d.rstWarning.freeIdx = d.freeIdx := by
  simp only [Dev.rstWarning]
  simp

@[simp] theorem Dev.blocksWarned_frame (d : Dev) :
    d.blocksWarned.run = d.run ∧ d.blocksWarned.pins = d.pins ∧ d.blocksWarned.cfg = d.cfg ∧
    d.blocksWarned.lnk = d.lnk ∧ d.blocksWarned.ptb = d.ptb ∧ d.blocksWarned.freeIdx = d.freeIdx := by
  simp only [Dev.blocksWarned]
  simp

@[simp] theorem Dev.warn_frame (d : Dev) :
    d.warn.pins = d.pins ∧ d.warn.cfg = d.cfg ∧ d.warn.lnk = d.lnk ∧
    d.warn.ptb = d.ptb := by
  simp only [Dev.warn]
  (repeat' split) <;> simp

/-! ### Sample sets -/

@[simp] theorem Dev.watchesBy_frame (d : Dev) (n : Nat) :
    (d.watchesBy n).run = d.run ∧ (d.watchesBy n).pins = d.pins ∧ (d.watchesBy n).cfg = d.cfg ∧
    (d.watchesBy n).lnk = d.lnk ∧ (d.watchesBy n).ptb = d.ptb ∧ (d.watchesBy n).msu = d.msu ∧
    (d.watchesBy n).syu = d.syu ∧ (d.watchesBy n).ctc = d.ctc ∧ (d.watchesBy n).hoc = d.hoc ∧
    (d.watchesBy n).mtr = d.mtr ∧ (d.watchesBy n).rst = d.rst ∧ (d.watchesBy n).ntu = d.ntu ∧
    (d.watchesBy n).freeIdx = d.freeIdx := by
  simp only [Dev.watchesBy]
  simp

@[simp] theorem Dev.overTrip_frame (d : Dev) (c : Bool) :
    (d.overTrip c).run = d.run ∧ (d.overTrip c).pins = d.pins ∧ (d.overTrip c).cfg = d.cfg ∧
    (d.overTrip c).lnk = d.lnk ∧ (d.overTrip c).ptb = d.ptb := by
  simp only [Dev.overTrip]
  (repeat' split) <;> simp

@[simp] theorem Dev.takeCond_frame (d : Dev) (c : Option BusCond) :
    (d.takeCond c).run = d.run ∧ (d.takeCond c).pins = d.pins ∧ (d.takeCond c).cfg = d.cfg ∧
    (d.takeCond c).lnk = d.lnk ∧ (d.takeCond c).ptb = d.ptb ∧ (d.takeCond c).ctc = d.ctc ∧
    (d.takeCond c).mtr = d.mtr ∧ (d.takeCond c).rst = d.rst ∧ (d.takeCond c).ntu = d.ntu ∧
    (d.takeCond c).freeIdx = d.freeIdx := by
  simp only [Dev.takeCond]
  (repeat' split) <;> simp

@[simp] theorem Dev.takeCrossings_frame (d : Dev) (p q : Bool) :
    (d.takeCrossings p q).run = d.run ∧ (d.takeCrossings p q).pins = d.pins ∧ (d.takeCrossings p q).cfg = d.cfg ∧
    (d.takeCrossings p q).lnk = d.lnk ∧ (d.takeCrossings p q).ptb = d.ptb := by
  simp only [Dev.takeCrossings]
  (repeat' split) <;> simp

@[simp] theorem Dev.admitSet_frame (d : Dev) (q : Byte) (g : Nat) (c : Channels) :
    (d.admitSet q g c).run = d.run ∧ (d.admitSet q g c).pins = d.pins ∧ (d.admitSet q g c).cfg = d.cfg ∧
    (d.admitSet q g c).lnk = d.lnk ∧ (d.admitSet q g c).ptb = d.ptb := by
  simp only [Dev.admitSet]
  simp

@[simp] theorem Dev.sampleSet_frame (d : Dev) (r : RawSet) :
    (d.sampleSet r).run = d.run ∧ (d.sampleSet r).pins = d.pins ∧ (d.sampleSet r).cfg = d.cfg ∧
    (d.sampleSet r).lnk = d.lnk ∧ (d.sampleSet r).ptb = d.ptb := by
  simp only [Dev.sampleSet]
  (repeat' split) <;> simp

@[simp] theorem Dev.watchTimerExpiry_frame (d : Dev) :
    d.watchTimerExpiry.run = d.run ∧ d.watchTimerExpiry.pins = d.pins ∧ d.watchTimerExpiry.cfg = d.cfg ∧
    d.watchTimerExpiry.lnk = d.lnk ∧ d.watchTimerExpiry.ptb = d.ptb := by
  simp only [Dev.watchTimerExpiry]
  (repeat' split) <;> simp

@[simp] theorem Dev.fallbackClose_frame (d : Dev) (t : TrackerId) :
    (d.fallbackClose t).run = d.run ∧ (d.fallbackClose t).pins = d.pins ∧ (d.fallbackClose t).cfg = d.cfg ∧
    (d.fallbackClose t).lnk = d.lnk ∧ (d.fallbackClose t).ptb = d.ptb ∧ (d.fallbackClose t).ctc = d.ctc ∧
    (d.fallbackClose t).mtr = d.mtr ∧ (d.fallbackClose t).rst = d.rst ∧ (d.fallbackClose t).ntu = d.ntu ∧
    (d.fallbackClose t).freeIdx = d.freeIdx := by
  simp only [Dev.fallbackClose]
  (repeat' split) <;> simp

@[simp] theorem Dev.overloadExpiry_frame (d : Dev) :
    d.overloadExpiry.run = d.run ∧ d.overloadExpiry.pins = d.pins ∧ d.overloadExpiry.cfg = d.cfg ∧
    d.overloadExpiry.lnk = d.lnk ∧ d.overloadExpiry.ptb = d.ptb := by
  simp only [Dev.overloadExpiry]
  (repeat' split) <;> simp

/-! ### The beginning of a cycle -/

@[simp] theorem Dev.claimForgotten_frame (d : Dev) :
    d.claimForgotten.run = d.run ∧ d.claimForgotten.pins = d.pins ∧ d.claimForgotten.cfg = d.cfg ∧
    d.claimForgotten.ptb = d.ptb ∧ d.claimForgotten.msu = d.msu ∧ d.claimForgotten.syu = d.syu ∧
    d.claimForgotten.ctc = d.ctc ∧ d.claimForgotten.syn = d.syn ∧ d.claimForgotten.lnk = d.lnk ∧
    d.claimForgotten.mtr = d.mtr ∧ d.claimForgotten.rst = d.rst ∧ d.claimForgotten.ntu = d.ntu ∧
    d.claimForgotten.freeIdx = d.freeIdx := by
  simp only [Dev.claimForgotten]
  simp

@[simp] theorem Dev.beginCycle_frame (d : Dev) (n : Nat) :
    (d.beginCycle n).run = d.run ∧ (d.beginCycle n).pins = d.pins ∧ (d.beginCycle n).cfg = d.cfg ∧
    (d.beginCycle n).ptb = d.ptb := by
  simp only [Dev.beginCycle]
  (repeat' split) <;> simp

@[simp] theorem Dev.cycleExpiry_frame (d : Dev) :
    d.cycleExpiry.run = d.run ∧ d.cycleExpiry.pins = d.pins ∧ d.cycleExpiry.cfg = d.cfg ∧
    d.cycleExpiry.ptb = d.ptb := by
  simp only [Dev.cycleExpiry]
  simp

@[simp] theorem Dev.loneExpiry_frame (d : Dev) :
    d.loneExpiry.run = d.run ∧ d.loneExpiry.pins = d.pins ∧ d.loneExpiry.cfg = d.cfg ∧
    d.loneExpiry.ptb = d.ptb ∧ d.loneExpiry.msu = d.msu ∧ d.loneExpiry.syu = d.syu ∧
    d.loneExpiry.ctc = d.ctc ∧ d.loneExpiry.syn = d.syn ∧ d.loneExpiry.hoc = d.hoc ∧
    d.loneExpiry.mtr = d.mtr ∧ d.loneExpiry.rst = d.rst ∧ d.loneExpiry.freeIdx = d.freeIdx := by
  simp only [Dev.loneExpiry]
  (repeat' split) <;> simp

@[simp] theorem Dev.sendMark_frame (d : Dev) :
    d.sendMark.run = d.run ∧ d.sendMark.pins = d.pins ∧ d.sendMark.cfg = d.cfg ∧
    d.sendMark.ptb = d.ptb ∧ d.sendMark.msu = d.msu ∧ d.sendMark.syu = d.syu ∧
    d.sendMark.ctc = d.ctc ∧ d.sendMark.syn = d.syn ∧ d.sendMark.hoc = d.hoc ∧
    d.sendMark.mtr = d.mtr ∧ d.sendMark.rst = d.rst ∧ d.sendMark.freeIdx = d.freeIdx := by
  simp only [Dev.sendMark]
  (repeat' split) <;> simp

/-! ### Orders -/

@[simp] theorem Dev.accept_frame (d : Dev) :
    d.accept.1.run = d.run ∧ d.accept.1.pins = d.pins ∧ d.accept.1.cfg = d.cfg ∧
    d.accept.1.lnk = d.lnk ∧ d.accept.1.ptb = d.ptb ∧ d.accept.1.msu = d.msu ∧
    d.accept.1.syu = d.syu ∧ d.accept.1.ctc = d.ctc ∧ d.accept.1.syn = d.syn ∧
    d.accept.1.hoc = d.hoc ∧ d.accept.1.mtr = d.mtr ∧ d.accept.1.rst = d.rst ∧
    d.accept.1.ntu = d.ntu ∧ d.accept.1.freeIdx = d.freeIdx := by
  simp only [Dev.accept]
  simp

@[simp] theorem Dev.refuse_frame (d : Dev) (r : Reason) :
    (d.refuse r).1.run = d.run ∧ (d.refuse r).1.pins = d.pins ∧ (d.refuse r).1.cfg = d.cfg ∧
    (d.refuse r).1.lnk = d.lnk ∧ (d.refuse r).1.ptb = d.ptb ∧ (d.refuse r).1.msu = d.msu ∧
    (d.refuse r).1.syu = d.syu ∧ (d.refuse r).1.ctc = d.ctc ∧ (d.refuse r).1.syn = d.syn ∧
    (d.refuse r).1.hoc = d.hoc ∧ (d.refuse r).1.mtr = d.mtr ∧ (d.refuse r).1.rst = d.rst ∧
    (d.refuse r).1.ntu = d.ntu ∧ (d.refuse r).1.freeIdx = d.freeIdx := by
  simp only [Dev.refuse]
  simp

@[simp] theorem Dev.abandonClose_frame (d : Dev) :
    d.abandonClose.run = d.run ∧ d.abandonClose.pins = d.pins ∧ d.abandonClose.cfg = d.cfg ∧
    d.abandonClose.lnk = d.lnk ∧ d.abandonClose.ptb = d.ptb ∧ d.abandonClose.freeIdx = d.freeIdx := by
  simp only [Dev.abandonClose]
  (repeat' split) <;> simp

@[simp] theorem Dev.enterLeaving_frame (d : Dev) (x : Option Outlet) :
    (d.enterLeaving x).run = d.run ∧ (d.enterLeaving x).pins = d.pins ∧ (d.enterLeaving x).cfg = d.cfg ∧
    (d.enterLeaving x).lnk = d.lnk ∧ (d.enterLeaving x).ptb = d.ptb ∧ (d.enterLeaving x).msu = d.msu ∧
    (d.enterLeaving x).ctc = d.ctc ∧ (d.enterLeaving x).mtr = d.mtr ∧ (d.enterLeaving x).rst = d.rst ∧
    (d.enterLeaving x).ntu = d.ntu ∧ (d.enterLeaving x).freeIdx = d.freeIdx := by
  simp only [Dev.enterLeaving]
  simp

@[simp] theorem Dev.leaveLoaded_frame (d : Dev) (x : Option Outlet) :
    (d.leaveLoaded x).1.run = d.run ∧ (d.leaveLoaded x).1.pins = d.pins ∧ (d.leaveLoaded x).1.cfg = d.cfg ∧
    (d.leaveLoaded x).1.lnk = d.lnk ∧ (d.leaveLoaded x).1.ptb = d.ptb ∧ (d.leaveLoaded x).1.msu = d.msu ∧
    (d.leaveLoaded x).1.ctc = d.ctc ∧ (d.leaveLoaded x).1.mtr = d.mtr ∧ (d.leaveLoaded x).1.rst = d.rst ∧
    (d.leaveLoaded x).1.ntu = d.ntu ∧ (d.leaveLoaded x).1.freeIdx = d.freeIdx := by
  simp only [Dev.leaveLoaded]
  (repeat' split) <;> simp

@[simp] theorem Dev.redirect_frame (d : Dev) (x : Option Outlet) :
    (d.redirect x).run = d.run ∧ (d.redirect x).pins = d.pins ∧ (d.redirect x).cfg = d.cfg ∧
    (d.redirect x).lnk = d.lnk ∧ (d.redirect x).ptb = d.ptb ∧ (d.redirect x).msu = d.msu ∧
    (d.redirect x).syu = d.syu ∧ (d.redirect x).ctc = d.ctc ∧ (d.redirect x).syn = d.syn ∧
    (d.redirect x).mtr = d.mtr ∧ (d.redirect x).rst = d.rst ∧ (d.redirect x).ntu = d.ntu ∧
    (d.redirect x).freeIdx = d.freeIdx := by
  simp only [Dev.redirect]
  simp

@[simp] theorem Dev.takeLeave_frame (d : Dev) (x : Option Outlet) :
    (d.takeLeave x).1.run = d.run ∧ (d.takeLeave x).1.pins = d.pins ∧ (d.takeLeave x).1.cfg = d.cfg ∧
    (d.takeLeave x).1.lnk = d.lnk ∧ (d.takeLeave x).1.ptb = d.ptb ∧ (d.takeLeave x).1.freeIdx = d.freeIdx := by
  simp only [Dev.takeLeave]
  (repeat' split) <;> simp

@[simp] theorem Dev.assignTo_frame (d : Dev) (x : Outlet) :
    (d.assignTo x).1.run = d.run ∧ (d.assignTo x).1.pins = d.pins ∧ (d.assignTo x).1.cfg = d.cfg ∧
    (d.assignTo x).1.lnk = d.lnk ∧ (d.assignTo x).1.ptb = d.ptb ∧ (d.assignTo x).1.freeIdx = d.freeIdx := by
  simp only [Dev.assignTo]
  (repeat' split) <;> simp

@[simp] theorem Dev.assign_frame (d : Dev) (c : Byte) :
    (d.assign c).1.run = d.run ∧ (d.assign c).1.pins = d.pins ∧ (d.assign c).1.cfg = d.cfg ∧
    (d.assign c).1.lnk = d.lnk ∧ (d.assign c).1.ptb = d.ptb ∧ (d.assign c).1.freeIdx = d.freeIdx := by
  simp only [Dev.assign]
  (repeat' split) <;> simp

@[simp] theorem Dev.sessionChanged_frame (d : Dev) (x : Outlet) :
    (d.sessionChanged x).run = d.run ∧ (d.sessionChanged x).pins = d.pins ∧ (d.sessionChanged x).cfg = d.cfg ∧
    (d.sessionChanged x).lnk = d.lnk ∧ (d.sessionChanged x).ptb = d.ptb ∧ (d.sessionChanged x).ctc = d.ctc ∧
    (d.sessionChanged x).mtr = d.mtr ∧ (d.sessionChanged x).rst = d.rst ∧ (d.sessionChanged x).ntu = d.ntu ∧
    (d.sessionChanged x).freeIdx = d.freeIdx := by
  simp only [Dev.sessionChanged]
  (repeat' split) <;> simp

@[simp] theorem Dev.openSession_frame (d : Dev) (x : Outlet) (f : SessionFields) :
    (d.openSession x f).run = d.run ∧ (d.openSession x f).pins = d.pins ∧ (d.openSession x f).cfg = d.cfg ∧
    (d.openSession x f).lnk = d.lnk ∧ (d.openSession x f).ptb = d.ptb ∧ (d.openSession x f).ctc = d.ctc ∧
    (d.openSession x f).mtr = d.mtr ∧ (d.openSession x f).rst = d.rst ∧ (d.openSession x f).ntu = d.ntu ∧
    (d.openSession x f).freeIdx = d.freeIdx := by
  simp only [Dev.openSession]
  simp

@[simp] theorem Dev.sessionOpen_frame (d : Dev) (f : SessionFields) :
    (d.sessionOpen f).1.run = d.run ∧ (d.sessionOpen f).1.pins = d.pins ∧ (d.sessionOpen f).1.cfg = d.cfg ∧
    (d.sessionOpen f).1.lnk = d.lnk ∧ (d.sessionOpen f).1.ptb = d.ptb ∧ (d.sessionOpen f).1.ctc = d.ctc ∧
    (d.sessionOpen f).1.mtr = d.mtr ∧ (d.sessionOpen f).1.rst = d.rst ∧ (d.sessionOpen f).1.ntu = d.ntu ∧
    (d.sessionOpen f).1.freeIdx = d.freeIdx := by
  simp only [Dev.sessionOpen]
  (repeat' split) <;> simp

@[simp] theorem Dev.sessionGone_frame (d : Dev) :
    d.sessionGone.run = d.run ∧ d.sessionGone.pins = d.pins ∧ d.sessionGone.cfg = d.cfg ∧
    d.sessionGone.lnk = d.lnk ∧ d.sessionGone.ptb = d.ptb ∧ d.sessionGone.freeIdx = d.freeIdx := by
  simp only [Dev.sessionGone]
  (repeat' split) <;> simp

@[simp] theorem Dev.closeSession_frame (d : Dev) (x : Outlet) :
    (d.closeSession x).run = d.run ∧ (d.closeSession x).pins = d.pins ∧ (d.closeSession x).cfg = d.cfg ∧
    (d.closeSession x).lnk = d.lnk ∧ (d.closeSession x).ptb = d.ptb ∧ (d.closeSession x).freeIdx = d.freeIdx := by
  simp only [Dev.closeSession]
  (repeat' split) <;> simp

@[simp] theorem Dev.sessionClose_frame (d : Dev) (c : Byte) (n : Nat) :
    (d.sessionClose c n).1.run = d.run ∧ (d.sessionClose c n).1.pins = d.pins ∧ (d.sessionClose c n).1.cfg = d.cfg ∧
    (d.sessionClose c n).1.lnk = d.lnk ∧ (d.sessionClose c n).1.ptb = d.ptb ∧ (d.sessionClose c n).1.freeIdx = d.freeIdx := by
  simp only [Dev.sessionClose]
  (repeat' split) <;> simp

@[simp] theorem Dev.leadTransfer_frame (d : Dev) :
    d.leadTransfer.1.run = d.run ∧ d.leadTransfer.1.pins = d.pins ∧ d.leadTransfer.1.cfg = d.cfg ∧
    d.leadTransfer.1.lnk = d.lnk ∧ d.leadTransfer.1.ptb = d.ptb ∧ d.leadTransfer.1.msu = d.msu ∧
    d.leadTransfer.1.ctc = d.ctc ∧ d.leadTransfer.1.mtr = d.mtr ∧ d.leadTransfer.1.rst = d.rst ∧
    d.leadTransfer.1.ntu = d.ntu ∧ d.leadTransfer.1.freeIdx = d.freeIdx := by
  simp only [Dev.leadTransfer]
  (repeat' split) <;> simp

@[simp] theorem Dev.leadDeparture_frame (d : Dev) :
    d.leadDeparture.1.run = d.run ∧ d.leadDeparture.1.pins = d.pins ∧ d.leadDeparture.1.cfg = d.cfg ∧
    d.leadDeparture.1.lnk = d.lnk ∧ d.leadDeparture.1.ptb = d.ptb ∧ d.leadDeparture.1.msu = d.msu ∧
    d.leadDeparture.1.ctc = d.ctc ∧ d.leadDeparture.1.mtr = d.mtr ∧ d.leadDeparture.1.rst = d.rst ∧
    d.leadDeparture.1.ntu = d.ntu ∧ d.leadDeparture.1.freeIdx = d.freeIdx := by
  simp only [Dev.leadDeparture]
  (repeat' split) <;> simp

@[simp] theorem Dev.clearTrip_frame (d : Dev) :
    d.clearTrip.1.run = d.run ∧ d.clearTrip.1.pins = d.pins ∧ d.clearTrip.1.cfg = d.cfg ∧
    d.clearTrip.1.lnk = d.lnk ∧ d.clearTrip.1.ptb = d.ptb ∧ d.clearTrip.1.msu = d.msu ∧
    d.clearTrip.1.ctc = d.ctc ∧ d.clearTrip.1.mtr = d.mtr ∧ d.clearTrip.1.rst = d.rst ∧
    d.clearTrip.1.ntu = d.ntu ∧ d.clearTrip.1.freeIdx = d.freeIdx := by
  simp only [Dev.clearTrip]
  (repeat' split) <;> simp

@[simp] theorem Dev.tariff_frame (d : Dev) (n : Byte) (g : List (BitVec 16 × Byte)) :
    (d.tariff n g).1.run = d.run ∧ (d.tariff n g).1.pins = d.pins ∧ (d.tariff n g).1.cfg = d.cfg ∧
    (d.tariff n g).1.lnk = d.lnk ∧ (d.tariff n g).1.ptb = d.ptb ∧ (d.tariff n g).1.msu = d.msu ∧
    (d.tariff n g).1.syu = d.syu ∧ (d.tariff n g).1.ctc = d.ctc ∧ (d.tariff n g).1.syn = d.syn ∧
    (d.tariff n g).1.hoc = d.hoc ∧ (d.tariff n g).1.rst = d.rst ∧ (d.tariff n g).1.ntu = d.ntu ∧
    (d.tariff n g).1.freeIdx = d.freeIdx := by
  simp only [Dev.tariff]
  (repeat' split) <;> simp

@[simp] theorem Dev.collect_frame (d : Dev) (q p n : Nat) :
    (d.collect q p n).1.run = d.run ∧ (d.collect q p n).1.pins = d.pins ∧ (d.collect q p n).1.cfg = d.cfg ∧
    (d.collect q p n).1.lnk = d.lnk ∧ (d.collect q p n).1.ptb = d.ptb ∧ (d.collect q p n).1.msu = d.msu ∧
    (d.collect q p n).1.syu = d.syu ∧ (d.collect q p n).1.ctc = d.ctc ∧ (d.collect q p n).1.syn = d.syn ∧
    (d.collect q p n).1.hoc = d.hoc ∧ (d.collect q p n).1.mtr = d.mtr ∧ (d.collect q p n).1.freeIdx = d.freeIdx := by
  simp only [Dev.collect]
  (repeat' split) <;> simp

@[simp] theorem Dev.acknowledge_frame (d : Dev) (k : NoticeKind) :
    (d.acknowledge k).run = d.run ∧ (d.acknowledge k).pins = d.pins ∧ (d.acknowledge k).cfg = d.cfg ∧
    (d.acknowledge k).lnk = d.lnk ∧ (d.acknowledge k).ptb = d.ptb ∧ (d.acknowledge k).msu = d.msu ∧
    (d.acknowledge k).syu = d.syu ∧ (d.acknowledge k).ctc = d.ctc ∧ (d.acknowledge k).syn = d.syn ∧
    (d.acknowledge k).hoc = d.hoc ∧ (d.acknowledge k).mtr = d.mtr ∧ (d.acknowledge k).rst = d.rst ∧
    (d.acknowledge k).freeIdx = d.freeIdx := by
  simp only [Dev.acknowledge]
  simp

@[simp] theorem Dev.acknowledgeNotices_frame (d : Dev) (n : Byte) (c : List Byte) :
    (d.acknowledgeNotices n c).1.run = d.run ∧ (d.acknowledgeNotices n c).1.pins = d.pins ∧ (d.acknowledgeNotices n c).1.cfg = d.cfg ∧
    (d.acknowledgeNotices n c).1.lnk = d.lnk ∧ (d.acknowledgeNotices n c).1.ptb = d.ptb ∧ (d.acknowledgeNotices n c).1.msu = d.msu ∧
    (d.acknowledgeNotices n c).1.syu = d.syu ∧ (d.acknowledgeNotices n c).1.ctc = d.ctc ∧ (d.acknowledgeNotices n c).1.syn = d.syn ∧
    (d.acknowledgeNotices n c).1.hoc = d.hoc ∧ (d.acknowledgeNotices n c).1.mtr = d.mtr ∧ (d.acknowledgeNotices n c).1.rst = d.rst ∧
    (d.acknowledgeNotices n c).1.freeIdx = d.freeIdx := by
  have hf : ∀ (l : List NoticeKind) (e : Dev), l.foldl Dev.acknowledge e = e.setNtu (l.foldl Dev.acknowledge e).ntu := by
    intro l
    induction l with
    | nil => intro e; rfl
    | cons k l ih => intro e; rw [List.foldl_cons, ih]; simp only [Dev.acknowledge, Dev.raiseIf]; split <;> rfl
  simp only [Dev.acknowledgeNotices]
  split
  · simp
  · simp only [Dev.accept]; rw [hf]; simp

/-! ### The link -/

@[simp] theorem Dev.faulty_frame (d : Dev) (i : Nat) :
    (d.faulty i).run = d.run ∧ (d.faulty i).pins = d.pins ∧ (d.faulty i).cfg = d.cfg ∧
    (d.faulty i).ptb = d.ptb := by
  simp only [Dev.faulty]
  (repeat' split) <;> simp

@[simp] theorem Dev.adoptMark_frame (d : Dev) (m q : Nat) (r : Int) :
    (d.adoptMark m q r).run = d.run ∧ (d.adoptMark m q r).pins = d.pins ∧ (d.adoptMark m q r).cfg = d.cfg ∧
    (d.adoptMark m q r).ptb = d.ptb ∧ (d.adoptMark m q r).msu = d.msu ∧ (d.adoptMark m q r).ctc = d.ctc ∧
    (d.adoptMark m q r).syn = d.syn ∧ (d.adoptMark m q r).mtr = d.mtr ∧ (d.adoptMark m q r).rst = d.rst ∧
    (d.adoptMark m q r).ntu = d.ntu := by
  simp only [Dev.adoptMark]
  (repeat' split) <;> simp

@[simp] theorem Dev.adoptOutside_frame (d : Dev) (m q : Nat) :
    (d.adoptOutside m q).run = d.run ∧ (d.adoptOutside m q).pins = d.pins ∧ (d.adoptOutside m q).cfg = d.cfg ∧
    (d.adoptOutside m q).ptb = d.ptb := by
  simp only [Dev.adoptOutside]
  simp

@[simp] theorem Dev.adoptEarly_frame (d : Dev) (m q : Nat) :
    (d.adoptEarly m q).run = d.run ∧ (d.adoptEarly m q).pins = d.pins ∧ (d.adoptEarly m q).cfg = d.cfg ∧
    (d.adoptEarly m q).ptb = d.ptb := by
  simp only [Dev.adoptEarly]
  simp

@[simp] theorem Dev.validMark_frame (d : Dev) (m q : Nat) (r : Int) :
    (d.validMark m q r).run = d.run ∧ (d.validMark m q r).pins = d.pins ∧ (d.validMark m q r).cfg = d.cfg ∧
    (d.validMark m q r).ptb = d.ptb := by
  simp only [Dev.validMark]
  (repeat' split) <;> simp

@[simp] theorem Dev.markCollision_frame (d : Dev) :
    d.markCollision.run = d.run ∧ d.markCollision.pins = d.pins ∧ d.markCollision.cfg = d.cfg ∧
    d.markCollision.ptb = d.ptb := by
  simp only [Dev.markCollision]
  (repeat' split) <;> simp

@[simp] theorem Dev.standDown_frame (d : Dev) (r : Int) :
    (d.standDown r).run = d.run ∧ (d.standDown r).pins = d.pins ∧ (d.standDown r).cfg = d.cfg ∧
    (d.standDown r).ptb = d.ptb ∧ (d.standDown r).msu = d.msu ∧ (d.standDown r).syu = d.syu ∧
    (d.standDown r).ctc = d.ctc ∧ (d.standDown r).syn = d.syn ∧ (d.standDown r).hoc = d.hoc ∧
    (d.standDown r).mtr = d.mtr ∧ (d.standDown r).rst = d.rst ∧ (d.standDown r).ntu = d.ntu ∧
    (d.standDown r).freeIdx = d.freeIdx := by
  simp only [Dev.standDown]
  (repeat' split) <;> simp

@[simp] theorem Dev.markHeard_frame (d : Dev) (b : List Byte) (r : Int) :
    (d.markHeard b r).run = d.run ∧ (d.markHeard b r).pins = d.pins ∧ (d.markHeard b r).cfg = d.cfg ∧
    (d.markHeard b r).ptb = d.ptb := by
  simp only [Dev.markHeard]
  (repeat' split) <;> simp

@[simp] theorem Dev.markReadBack_frame (d : Dev) (b : List Byte) (o : Bool) :
    (d.markReadBack b o).run = d.run ∧ (d.markReadBack b o).pins = d.pins ∧ (d.markReadBack b o).cfg = d.cfg ∧
    (d.markReadBack b o).ptb = d.ptb := by
  simp only [Dev.markReadBack]
  (repeat' split) <;> simp

@[simp] theorem Dev.markReceived_frame (d : Dev) (b : List Byte) (r : MarkHeard) :
    (d.markReceived b r).run = d.run ∧ (d.markReceived b r).pins = d.pins ∧ (d.markReceived b r).cfg = d.cfg ∧
    (d.markReceived b r).ptb = d.ptb := by
  simp only [Dev.markReceived]
  (repeat' split) <;> simp

@[simp] theorem Dev.windowClose_frame (d : Dev) :
    d.windowClose.run = d.run ∧ d.windowClose.pins = d.pins ∧ d.windowClose.cfg = d.cfg ∧
    d.windowClose.ptb = d.ptb ∧ d.windowClose.msu = d.msu ∧ d.windowClose.syu = d.syu ∧
    d.windowClose.ctc = d.ctc ∧ d.windowClose.syn = d.syn ∧ d.windowClose.hoc = d.hoc ∧
    d.windowClose.mtr = d.mtr ∧ d.windowClose.rst = d.rst ∧ d.windowClose.ntu = d.ntu ∧
    d.windowClose.freeIdx = d.freeIdx := by
  simp only [Dev.windowClose]
  (repeat' split) <;> simp

@[simp] theorem Dev.silenceExpiry_frame (d : Dev) :
    d.silenceExpiry.run = d.run ∧ d.silenceExpiry.pins = d.pins ∧ d.silenceExpiry.cfg = d.cfg ∧
    d.silenceExpiry.ptb = d.ptb ∧ d.silenceExpiry.msu = d.msu ∧ d.silenceExpiry.ctc = d.ctc ∧
    d.silenceExpiry.mtr = d.mtr ∧ d.silenceExpiry.rst = d.rst ∧ d.silenceExpiry.ntu = d.ntu ∧
    d.silenceExpiry.freeIdx = d.freeIdx := by
  simp only [Dev.silenceExpiry]
  (repeat' split) <;> simp

@[simp] theorem Dev.grant_frame (d : Dev) :
    d.grant.2.run = d.run ∧ d.grant.2.pins = d.pins ∧ d.grant.2.cfg = d.cfg ∧
    d.grant.2.lnk = d.lnk ∧ d.grant.2.ptb = d.ptb ∧ d.grant.2.msu = d.msu ∧
    d.grant.2.syu = d.syu ∧ d.grant.2.ctc = d.ctc ∧ d.grant.2.syn = d.syn ∧
    d.grant.2.hoc = d.hoc ∧ d.grant.2.mtr = d.mtr ∧ d.grant.2.freeIdx = d.freeIdx := by
  simp only [Dev.grant]
  (repeat' split) <;> simp

@[simp] theorem Dev.assemble_frame (d : Dev) :
    d.assemble.run = d.run ∧ d.assemble.pins = d.pins ∧ d.assemble.cfg = d.cfg ∧
    d.assemble.ptb = d.ptb ∧ d.assemble.msu = d.msu ∧ d.assemble.syu = d.syu ∧
    d.assemble.ctc = d.ctc ∧ d.assemble.syn = d.syn ∧ d.assemble.mtr = d.mtr ∧
    d.assemble.freeIdx = d.freeIdx := by
  simp only [Dev.assemble]
  (repeat' split) <;> simp

@[simp] theorem Dev.listenSlot_frame (d : Dev) :
    d.listenSlot.run = d.run ∧ d.listenSlot.pins = d.pins ∧ d.listenSlot.cfg = d.cfg ∧
    d.listenSlot.ptb = d.ptb := by
  simp only [Dev.listenSlot]
  (repeat' split) <;> simp

@[simp] theorem Dev.readBack_frame (d : Dev) (b : List Byte) (o : Bool) :
    (d.readBack b o).run = d.run ∧ (d.readBack b o).pins = d.pins ∧ (d.readBack b o).cfg = d.cfg ∧
    (d.readBack b o).ptb = d.ptb := by
  simp only [Dev.readBack]
  (repeat' split) <;> simp

@[simp] theorem Dev.slotWatched_frame (d : Dev) :
    d.slotWatched.run = d.run ∧ d.slotWatched.pins = d.pins ∧ d.slotWatched.cfg = d.cfg ∧
    d.slotWatched.ptb = d.ptb ∧ d.slotWatched.msu = d.msu ∧ d.slotWatched.syu = d.syu ∧
    d.slotWatched.ctc = d.ctc ∧ d.slotWatched.syn = d.syn ∧ d.slotWatched.hoc = d.hoc ∧
    d.slotWatched.mtr = d.mtr ∧ d.slotWatched.rst = d.rst ∧ d.slotWatched.ntu = d.ntu ∧
    d.slotWatched.freeIdx = d.freeIdx := by
  simp only [Dev.slotWatched]
  simp

@[simp] theorem Dev.ownSlotEnd_frame (d : Dev) (b : List Byte) (o : Bool) :
    (d.ownSlotEnd b o).run = d.run ∧ (d.ownSlotEnd b o).pins = d.pins ∧ (d.ownSlotEnd b o).cfg = d.cfg ∧
    (d.ownSlotEnd b o).ptb = d.ptb := by
  simp only [Dev.ownSlotEnd]
  (repeat' split) <;> simp

@[simp] theorem Dev.ownSlotCarrier_frame (d : Dev) (b : List Byte) (r : Int) :
    (d.ownSlotCarrier b r).run = d.run ∧ (d.ownSlotCarrier b r).pins = d.pins ∧ (d.ownSlotCarrier b r).cfg = d.cfg ∧
    (d.ownSlotCarrier b r).ptb = d.ptb ∧ (d.ownSlotCarrier b r).msu = d.msu ∧ (d.ownSlotCarrier b r).syu = d.syu ∧
    (d.ownSlotCarrier b r).ctc = d.ctc ∧ (d.ownSlotCarrier b r).syn = d.syn ∧ (d.ownSlotCarrier b r).hoc = d.hoc ∧
    (d.ownSlotCarrier b r).mtr = d.mtr ∧ (d.ownSlotCarrier b r).rst = d.rst ∧ (d.ownSlotCarrier b r).ntu = d.ntu ∧
    (d.ownSlotCarrier b r).freeIdx = d.freeIdx := by
  simp only [Dev.ownSlotCarrier]
  (repeat' split) <;> simp

@[simp] theorem Dev.checkBulletin_frame (d : Dev) (k : Nat) (b : List Byte) (r : Int) :
    (d.checkBulletin k b r).run = d.run ∧ (d.checkBulletin k b r).pins = d.pins ∧ (d.checkBulletin k b r).cfg = d.cfg ∧
    (d.checkBulletin k b r).ptb = d.ptb ∧ (d.checkBulletin k b r).msu = d.msu ∧ (d.checkBulletin k b r).syu = d.syu ∧
    (d.checkBulletin k b r).ctc = d.ctc ∧ (d.checkBulletin k b r).syn = d.syn ∧ (d.checkBulletin k b r).hoc = d.hoc ∧
    (d.checkBulletin k b r).mtr = d.mtr ∧ (d.checkBulletin k b r).rst = d.rst ∧ (d.checkBulletin k b r).freeIdx = d.freeIdx := by
  simp only [Dev.checkBulletin]
  (repeat' split) <;> simp

@[simp] theorem Dev.bulletinReceived_frame (d : Dev) (b : List Byte) (r : Int) :
    (d.bulletinReceived b r).run = d.run ∧ (d.bulletinReceived b r).pins = d.pins ∧ (d.bulletinReceived b r).cfg = d.cfg ∧
    (d.bulletinReceived b r).ptb = d.ptb ∧ (d.bulletinReceived b r).msu = d.msu ∧ (d.bulletinReceived b r).syu = d.syu ∧
    (d.bulletinReceived b r).ctc = d.ctc ∧ (d.bulletinReceived b r).syn = d.syn ∧ (d.bulletinReceived b r).hoc = d.hoc ∧
    (d.bulletinReceived b r).mtr = d.mtr ∧ (d.bulletinReceived b r).rst = d.rst ∧ (d.bulletinReceived b r).freeIdx = d.freeIdx := by
  simp only [Dev.bulletinReceived]
  (repeat' split) <;> simp

@[simp] theorem Dev.entryGone_frame (d : Dev) (k : Nat) (e : PeerEntry) :
    (d.entryGone k e).run = d.run ∧ (d.entryGone k e).pins = d.pins ∧ (d.entryGone k e).cfg = d.cfg ∧
    (d.entryGone k e).ptb = d.ptb ∧ (d.entryGone k e).msu = d.msu ∧ (d.entryGone k e).syu = d.syu ∧
    (d.entryGone k e).ctc = d.ctc ∧ (d.entryGone k e).syn = d.syn ∧ (d.entryGone k e).hoc = d.hoc ∧
    (d.entryGone k e).mtr = d.mtr ∧ (d.entryGone k e).rst = d.rst ∧ (d.entryGone k e).freeIdx = d.freeIdx := by
  simp only [Dev.entryGone]
  (repeat' split) <;> simp

@[simp] theorem Dev.missedSlot_frame (d : Dev) (k : Nat) :
    (d.missedSlot k).run = d.run ∧ (d.missedSlot k).pins = d.pins ∧ (d.missedSlot k).cfg = d.cfg ∧
    (d.missedSlot k).msu = d.msu ∧ (d.missedSlot k).syu = d.syu ∧ (d.missedSlot k).ctc = d.ctc ∧
    (d.missedSlot k).syn = d.syn ∧ (d.missedSlot k).hoc = d.hoc ∧ (d.missedSlot k).mtr = d.mtr ∧
    (d.missedSlot k).rst = d.rst ∧ (d.missedSlot k).freeIdx = d.freeIdx := by
  simp only [Dev.missedSlot]
  (repeat' split) <;> simp

@[simp] theorem Dev.storeBody_frame (d : Dev) (k : Nat) (b : PeerBody) :
    (d.storeBody k b).run = d.run ∧ (d.storeBody k b).pins = d.pins ∧ (d.storeBody k b).cfg = d.cfg ∧
    (d.storeBody k b).lnk = d.lnk ∧ (d.storeBody k b).msu = d.msu ∧ (d.storeBody k b).syu = d.syu ∧
    (d.storeBody k b).ctc = d.ctc ∧ (d.storeBody k b).syn = d.syn ∧ (d.storeBody k b).hoc = d.hoc ∧
    (d.storeBody k b).mtr = d.mtr ∧ (d.storeBody k b).rst = d.rst ∧ (d.storeBody k b).freeIdx = d.freeIdx := by
  simp only [Dev.storeBody]
  simp

@[simp] theorem Dev.takeBody_frame (d : Dev) (k : Nat) (o : Role) (b : List Byte) :
    (d.takeBody k o b).run = d.run ∧ (d.takeBody k o b).pins = d.pins ∧ (d.takeBody k o b).cfg = d.cfg ∧
    (d.takeBody k o b).msu = d.msu ∧ (d.takeBody k o b).syu = d.syu ∧ (d.takeBody k o b).ctc = d.ctc ∧
    (d.takeBody k o b).syn = d.syn ∧ (d.takeBody k o b).hoc = d.hoc ∧ (d.takeBody k o b).mtr = d.mtr ∧
    (d.takeBody k o b).rst = d.rst ∧ (d.takeBody k o b).freeIdx = d.freeIdx := by
  simp only [Dev.takeBody]
  (repeat' split) <;> simp

@[simp] theorem Dev.viewNotice_frame (d : Dev) (t : Ptb) (v : Bool) :
    (d.viewNotice t v).run = d.run ∧ (d.viewNotice t v).pins = d.pins ∧ (d.viewNotice t v).cfg = d.cfg ∧
    (d.viewNotice t v).lnk = d.lnk ∧ (d.viewNotice t v).ptb = d.ptb ∧ (d.viewNotice t v).msu = d.msu ∧
    (d.viewNotice t v).ctc = d.ctc ∧ (d.viewNotice t v).mtr = d.mtr ∧ (d.viewNotice t v).rst = d.rst ∧
    (d.viewNotice t v).freeIdx = d.freeIdx := by
  simp only [Dev.viewNotice]
  (repeat' split) <;> simp

@[simp] theorem Dev.timeHandOff_frame (d : Dev) (k : Nat) (b : List Byte) :
    (d.timeHandOff k b).run = d.run ∧ (d.timeHandOff k b).pins = d.pins ∧ (d.timeHandOff k b).cfg = d.cfg ∧
    (d.timeHandOff k b).lnk = d.lnk ∧ (d.timeHandOff k b).ptb = d.ptb ∧ (d.timeHandOff k b).syu = d.syu ∧
    (d.timeHandOff k b).ctc = d.ctc ∧ (d.timeHandOff k b).syn = d.syn ∧ (d.timeHandOff k b).hoc = d.hoc ∧
    (d.timeHandOff k b).freeIdx = d.freeIdx := by
  simp only [Dev.timeHandOff]
  (repeat' split) <;> simp

/-! ### Completions and due timers -/

@[simp] theorem Dev.secondAdvance_frame (d : Dev) :
    d.secondAdvance.run = d.run ∧ d.secondAdvance.pins = d.pins ∧ d.secondAdvance.cfg = d.cfg ∧
    d.secondAdvance.lnk = d.lnk ∧ d.secondAdvance.ptb = d.ptb ∧ d.secondAdvance.syu = d.syu ∧
    d.secondAdvance.ctc = d.ctc ∧ d.secondAdvance.syn = d.syn ∧ d.secondAdvance.hoc = d.hoc ∧
    d.secondAdvance.freeIdx = d.freeIdx := by
  simp only [Dev.secondAdvance]
  (repeat' split) <;> simp

@[simp] theorem Dev.packingExpiry_frame (d : Dev) :
    d.packingExpiry.run = d.run ∧ d.packingExpiry.pins = d.pins ∧ d.packingExpiry.cfg = d.cfg ∧
    d.packingExpiry.lnk = d.lnk ∧ d.packingExpiry.ptb = d.ptb ∧ d.packingExpiry.msu = d.msu ∧
    d.packingExpiry.syu = d.syu ∧ d.packingExpiry.ctc = d.ctc ∧ d.packingExpiry.syn = d.syn ∧
    d.packingExpiry.hoc = d.hoc ∧ d.packingExpiry.mtr = d.mtr ∧ d.packingExpiry.freeIdx = d.freeIdx := by
  simp only [Dev.packingExpiry]
  (repeat' split) <;> simp

@[simp] theorem Dev.storeAbsoluteExpiry_frame (d : Dev) :
    d.storeAbsoluteExpiry.run = d.run ∧ d.storeAbsoluteExpiry.pins = d.pins ∧ d.storeAbsoluteExpiry.cfg = d.cfg ∧
    d.storeAbsoluteExpiry.lnk = d.lnk ∧ d.storeAbsoluteExpiry.ptb = d.ptb ∧ d.storeAbsoluteExpiry.msu = d.msu ∧
    d.storeAbsoluteExpiry.syu = d.syu ∧ d.storeAbsoluteExpiry.ctc = d.ctc ∧ d.storeAbsoluteExpiry.syn = d.syn ∧
    d.storeAbsoluteExpiry.hoc = d.hoc ∧ d.storeAbsoluteExpiry.mtr = d.mtr ∧ d.storeAbsoluteExpiry.freeIdx = d.freeIdx := by
  simp only [Dev.storeAbsoluteExpiry]
  (repeat' split) <;> simp

@[simp] theorem Dev.programComplete_frame (d : Dev) :
    d.programComplete.run = d.run ∧ d.programComplete.pins = d.pins ∧ d.programComplete.cfg = d.cfg ∧
    d.programComplete.lnk = d.lnk ∧ d.programComplete.ptb = d.ptb ∧ d.programComplete.msu = d.msu ∧
    d.programComplete.syu = d.syu ∧ d.programComplete.ctc = d.ctc ∧ d.programComplete.syn = d.syn ∧
    d.programComplete.hoc = d.hoc ∧ d.programComplete.freeIdx = d.freeIdx := by
  simp only [Dev.programComplete]
  (repeat' split) <;> simp

@[simp] theorem Dev.eraseComplete_frame (d : Dev) :
    d.eraseComplete.run = d.run ∧ d.eraseComplete.pins = d.pins ∧ d.eraseComplete.cfg = d.cfg ∧
    d.eraseComplete.lnk = d.lnk ∧ d.eraseComplete.ptb = d.ptb ∧ d.eraseComplete.msu = d.msu ∧
    d.eraseComplete.syu = d.syu ∧ d.eraseComplete.ctc = d.ctc ∧ d.eraseComplete.syn = d.syn ∧
    d.eraseComplete.hoc = d.hoc ∧ d.eraseComplete.mtr = d.mtr ∧ d.eraseComplete.freeIdx = d.freeIdx := by
  simp only [Dev.eraseComplete]
  (repeat' split) <;> simp

end Sys2Proof.Machine
end

