-- ==== Sys2Proof/Laws/Contactors.lean ====
section
/-! SUPPORT. The contactor records after each operation of the contactor controller, said once. -/

namespace Sys2Proof.Machine

theorem Dev.changeCon_ctc (d : Dev) (x : Outlet) (c : Contactor) (o : Origin) : (d.changeCon x c o).ctc = d.ctc.set x c := by
  simp [Dev.changeCon]

theorem Dev.startClose_ctc (d : Dev) (x : Outlet) :
    (d.startClose x).ctc = d.ctc.set x ((d.ctc.get x).startClose d.cfg.closePulse) := d.changeCon_ctc _ _ _

theorem Dev.openRequest_ctc (d : Dev) (x : Outlet) (o : Origin) :
    (d.openRequest x o).ctc = d.ctc.set x ((d.ctc.get x).openRequested d.cfg.openPulse) := d.changeCon_ctc _ _ _

theorem Dev.becomeClosed_ctc (d : Dev) (x : Outlet) : (d.becomeClosed x).ctc = d.ctc.set x ((d.ctc.get x).rest .closed) :=
  d.changeCon_ctc _ _ _

/-- A held closure is taken when the record is OPEN with its level closed and the other record is OPEN; otherwise nothing. -/
theorem Dev.takeHeld_ctc (d : Dev) (x : Outlet) :
    (d.takeHeld x).ctc =
      if d.con x = .opened ∧ (d.ctc.get x).auxClosed = true ∧ d.con (otherOutlet x) = .opened then
        d.ctc.set x ((d.ctc.get x).startOpen d.cfg.openPulse)
      else d.ctc := by
  simp only [Dev.takeHeld]
  split
  · exact d.changeCon_ctc _ _ _
  · rfl

theorem Dev.becomeOpen_ctc (d : Dev) (x : Outlet) (o : Origin) :
    (d.becomeOpen x o).ctc =
      ((d.changeCon x ((d.ctc.get x).rest .opened) o).takeHeld (otherOutlet x)).ctc := rfl

/-- A trip leaves each record as an open request leaves it (R82). -/
theorem Dev.trip_ctc (d : Dev) (cause : TripCause) (on : Option Outlet) :
    (d.trip cause on).ctc = d.ctc.tripped d.cfg.openPulse := by
  simp only [Dev.trip]
  split <;> simp

/-- An open request changes the state to OPENING from CLOSING and CLOSED only (R77). -/
theorem Contactor.openRequested_state (c : Contactor) (w : Nat) :
    (c.openRequested w).state = if c.state = .closing ∨ c.state = .closed then .opening else c.state := by
  unfold Contactor.openRequested
  split <;> simp_all [Contactor.startOpen]

theorem Contactor.openRequested_opened (c : Contactor) (w : Nat) (h : c.state = .opened) : c.openRequested w = c := by
  simp [Contactor.openRequested, h]

end Sys2Proof.Machine
end

