-- ==== Sys2Proof/Laws/Notices.lean ====
section
/-! SUPPORT. The notice unit's operations, each said once: a raise, a clear, the reply place taken and filled. -/

namespace Sys2Proof.Machine

theorem NoticeKind.all_idx (k : NoticeKind) : NoticeKind.all[k.idx.val]? = some k := by cases k <;> rfl

theorem NoticeKind.idx_inj {j k : NoticeKind} (h : j.idx = k.idx) : j = k := by
  have hj := NoticeKind.all_idx j
  rw [h, NoticeKind.all_idx k] at hj
  exact (Option.some.inj hj).symm

/-- The record of a kind after the record of another was written. -/
theorem Ntu.entry_set (n : Ntu) (j k : NoticeKind) (r : KindRec) :
    ({ n with kinds := n.kinds.set k.idx r } : Ntu).entry j = if j = k then r else n.entry j := by
  unfold Ntu.entry
  by_cases h : j = k
  · subst h; simp
  · have hne : (k.idx : Nat) ≠ j.idx := fun e => h (NoticeKind.idx_inj (Fin.ext e.symm))
    simp [h, hne]

/-- A raise does what R165 says, and nothing else. -/
theorem Ntu.raise_raisedTo (n : Ntu) (e : Bool) (k : NoticeKind) : n.raisedTo e k (n.raise e k) := by
  refine ⟨?_, ?_, ?_, rfl, rfl⟩
  · exact (n.entry_set k k _).trans (if_pos rfl)
  · intro j hj
    exact (n.entry_set j k _).trans (if_neg hj)
  · simp [Ntu.raise]

theorem Dev.raise_onlyRaised (d : Dev) (k : NoticeKind) : d.onlyRaised k (d.raise k) :=
  ⟨rfl, Ntu.raise_raisedTo _ _ _⟩

/-- A kind that stands pending stays pending through any raise. -/
theorem Dev.raise_pending (d : Dev) (j k : NoticeKind) (h : j = k ∨ (d.ntu.entry j).pending = true) :
    ((d.raise k).ntu.entry j).pending = true := by
  obtain ⟨h1, h2, -⟩ := (d.raise_onlyRaised k).2
  by_cases hj : j = k
  · subst hj; rw [h1]
  · rw [h2 j hj]; exact h.resolve_left hj

/-- The order path's place, once taken behind filled ones, is the one its owner fills (R169). -/
theorem fillPlaces_taken {l : List ReplyPlace} (hl : ∀ p ∈ l, p.result ≠ none) (k : OrderKind) (tag : Byte) (q : Nat) (r : Result) :
    fillPlaces r (l ++ [⟨k, tag, q, none⟩]) = l ++ [⟨k, tag, q, some r⟩] := by
  induction l with
  | nil => simp [fillPlaces]
  | cons p l ih =>
    have hp : p.result ≠ none := hl p (List.mem_cons_self ..)
    simp only [List.cons_append, fillPlaces, hp, if_false]
    rw [ih (fun q hq => hl q (List.mem_cons_of_mem _ hq))]

/-- A taken place is filled with the owner's result. -/
theorem Ntu.fill_taken {n : Ntu} (h : n.answered) (k : OrderKind) (g : OrderHead) (r : Result) :
    (n.takePlace k g).fill r = { n with replies := n.replies ++ [⟨k, g.tag, g.sender, some r⟩] } := by
  simp [Ntu.fill, Ntu.takePlace, fillPlaces_taken h.2]

/-- A clear takes a kind's record and its place in the queue, and nothing else (R167). -/
theorem Ntu.clear_entry (n : Ntu) (j k : NoticeKind) : (n.clear k).entry j = if j = k then ⟨false, 0⟩ else n.entry j :=
  n.entry_set j k _

end Sys2Proof.Machine
end

