-- ==== Sys2Proof/Laws/Pending.lean ====
section
/-! SUPPORT. A notice that stands pending stays so through what a trip does, so a trip's own notice stands after it (R82, R165). -/

namespace Sys2Proof.Machine

@[simp] theorem Dev.raise_keeps (d : Dev) (k : NoticeKind) (j : NoticeKind) (h : (d.ntu.entry j).pending = true) : ((d.raise k).ntu.entry j).pending = true := by
  exact d.raise_pending j k (Or.inr h)
@[simp] theorem Dev.raiseIf_pending (d : Dev) (c : Bool) (k : NoticeKind) (j : NoticeKind) (h : (d.ntu.entry j).pending = true) : ((d.raiseIf c k).ntu.entry j).pending = true := by
  simp only [Dev.raiseIf]; split
  · exact d.raise_pending j k (Or.inr h)
  · exact h
@[simp] theorem Dev.readLoop_pending (n : Nat) (q : Job) (d : Dev) (j : NoticeKind) (h : (d.ntu.entry j).pending = true) :
    ((Dev.readLoop n q d).ntu.entry j).pending = true := by
  induction n generalizing d with
  | zero => exact h
  | succ n ih =>
    simp only [Dev.readLoop]
    split
    · exact h
    · exact ih _ (Dev.raise_pending _ _ _ (Or.inr (by simpa using h)))
@[simp] theorem Dev.collectionRead_pending (d : Dev) (j : NoticeKind) (h : (d.ntu.entry j).pending = true) : ((d.collectionRead).ntu.entry j).pending = true := by
  simp only [Dev.collectionRead]; (repeat' split) <;> first | exact h | simp [h]
@[simp] theorem Dev.engineWork_pending (d : Dev) (j : NoticeKind) (h : (d.ntu.entry j).pending = true) : ((d.engineWork).ntu.entry j).pending = true := by
  simp only [Dev.engineWork]
  (repeat' split) <;> simp [h]
@[simp] theorem Dev.engineChoice_pending (d : Dev) (j : NoticeKind) (h : (d.ntu.entry j).pending = true) : ((d.engineChoice).ntu.entry j).pending = true := by
  simp only [Dev.engineChoice]
  (repeat' split) <;> simp [h]
@[simp] theorem Dev.stage_pending (d : Dev) (r : Rec) (j : NoticeKind) (h : (d.ntu.entry j).pending = true) : ((d.stage r).ntu.entry j).pending = true := by
  simp only [Dev.stage]
  (repeat' split) <;> simp [h]
@[simp] theorem Dev.requestSession_pending (d : Dev) (r : Rec) (j : NoticeKind) (h : (d.ntu.entry j).pending = true) : ((d.requestSession r).ntu.entry j).pending = true := by
  simp only [Dev.requestSession]
  (repeat' split) <;> simp [h]
@[simp] theorem Dev.requestEvent_pending (d : Dev) (e : EventRec) (j : NoticeKind) (h : (d.ntu.entry j).pending = true) : ((d.requestEvent e).ntu.entry j).pending = true := by
  simp only [Dev.requestEvent]
  (repeat' split) <;> simp [h]
@[simp] theorem Dev.beginMembership_pending (d : Dev) (x : Outlet) (v : Session) (j : NoticeKind) (h : (d.ntu.entry j).pending = true) : ((d.beginMembership x v).ntu.entry j).pending = true := by
  simp only [Dev.beginMembership]
  simp [h]
@[simp] theorem Dev.closePartial_pending (d : Dev) (j : NoticeKind) (h : (d.ntu.entry j).pending = true) : ((d.closePartial).ntu.entry j).pending = true := by
  simp only [Dev.closePartial]
  (repeat' split) <;> simp [h]
@[simp] theorem Dev.endMembership_pending (d : Dev) (c : LeaveCause) (j : NoticeKind) (h : (d.ntu.entry j).pending = true) : ((d.endMembership c).ntu.entry j).pending = true := by
  simp only [Dev.endMembership]
  (repeat' split) <;> simp [h]
@[simp] theorem Dev.cellTimeout_pending (d : Dev) (j : NoticeKind) (h : (d.ntu.entry j).pending = true) : ((d.cellTimeout).ntu.entry j).pending = true := by
  simp only [Dev.cellTimeout]
  (repeat' split) <;> simp [h]
@[simp] theorem Dev.seekAfresh_pending (d : Dev) (j : NoticeKind) (h : (d.ntu.entry j).pending = true) : ((d.seekAfresh).ntu.entry j).pending = true := by
  simp only [Dev.seekAfresh]
  (repeat' split) <;> simp [h]
@[simp] theorem Dev.assignedOpened_pending (d : Dev) (c : CState) (j : NoticeKind) (h : (d.ntu.entry j).pending = true) : ((d.assignedOpened c).ntu.entry j).pending = true := by
  simp only [Dev.assignedOpened]
  (repeat' split) <;> simp [h]
@[simp] theorem Dev.assignedChanged_pending (d : Dev) (x : Outlet) (o n : CState) (j : NoticeKind) (h : (d.ntu.entry j).pending = true) : ((d.assignedChanged x o n).ntu.entry j).pending = true := by
  simp only [Dev.assignedChanged]
  (repeat' split) <;> simp [h]
@[simp] theorem Dev.leftClosed_pending (d : Dev) (o : Origin) (j : NoticeKind) (h : (d.ntu.entry j).pending = true) : ((d.leftClosed o).ntu.entry j).pending = true := by
  simp only [Dev.leftClosed]
  simp [h]
@[simp] theorem Dev.conChanged_pending (d : Dev) (x : Outlet) (c : CState) (o : Origin) (j : NoticeKind) (h : (d.ntu.entry j).pending = true) : ((d.conChanged x c o).ntu.entry j).pending = true := by
  simp only [Dev.conChanged]
  (repeat' split) <;> simp [h]
@[simp] theorem Dev.changeCon_pending (d : Dev) (x : Outlet) (c : Contactor) (o : Origin) (j : NoticeKind) (h : (d.ntu.entry j).pending = true) : ((d.changeCon x c o).ntu.entry j).pending = true := by
  simp only [Dev.changeCon]
  simp [h]
@[simp] theorem Dev.openRequest_pending (d : Dev) (x : Outlet) (o : Origin) (j : NoticeKind) (h : (d.ntu.entry j).pending = true) : ((d.openRequest x o).ntu.entry j).pending = true := by
  simp only [Dev.openRequest]
  simp [h]
@[simp] theorem Dev.takeHeld_pending (d : Dev) (x : Outlet) (j : NoticeKind) (h : (d.ntu.entry j).pending = true) : ((d.takeHeld x).ntu.entry j).pending = true := by
  simp only [Dev.takeHeld]
  (repeat' split) <;> simp [h]
@[simp] theorem Dev.becomeOpen_pending (d : Dev) (x : Outlet) (o : Origin) (j : NoticeKind) (h : (d.ntu.entry j).pending = true) : ((d.becomeOpen x o).ntu.entry j).pending = true := by
  simp only [Dev.becomeOpen]
  simp [h]
@[simp] theorem Dev.bothChanged_pending (d : Dev) (p q : CState) (o : Origin) (j : NoticeKind) (h : (d.ntu.entry j).pending = true) : ((d.bothChanged p q o).ntu.entry j).pending = true := by
  simp only [Dev.bothChanged]
  simp [h]

/-- The fatal notice of Table 5-4 stands pending after the trip of its cause. -/
theorem Dev.trip_notice (d : Dev) (cause : TripCause) (on : Option Outlet) (k : NoticeKind) (hk : cause.notice = some k) :
    ((d.trip cause on).ntu.entry k).pending = true := by
  have h0 : (((d.setSyu d.syu.clearRun).hocTrip.raiseTrip cause).ntu.entry k).pending = true := by
    simp only [Dev.raiseTrip, hk]
    exact Dev.raise_pending _ _ _ (Or.inl rfl)
  simp only [Dev.trip]
  split
  · exact Dev.bothChanged_pending _ _ _ _ _ (Dev.requestEvent_pending _ _ _ (by simpa using h0))
  · exact Dev.requestEvent_pending _ _ _ (Dev.bothChanged_pending _ _ _ _ _ (by simpa using h0))

/-- A notice that stood pending before a trip stands after it. -/
theorem Dev.trip_pending (d : Dev) (cause : TripCause) (on : Option Outlet) (j : NoticeKind) (h : (d.ntu.entry j).pending = true) :
    ((d.trip cause on).ntu.entry j).pending = true := by
  have h0 : (((d.setSyu d.syu.clearRun).hocTrip.raiseTrip cause).ntu.entry j).pending = true := by
    simp only [Dev.raiseTrip]
    split
    · simpa using h
    · exact Dev.raise_keeps _ _ _ (by simpa using h)
  simp only [Dev.trip]
  split
  · exact Dev.bothChanged_pending _ _ _ _ _ (Dev.requestEvent_pending _ _ _ (by simpa using h0))
  · exact Dev.requestEvent_pending _ _ _ (Dev.bothChanged_pending _ _ _ _ _ (by simpa using h0))

end Sys2Proof.Machine
end

