-- ==== Sys2Proof/Laws/Entries.lean ====
section
/-! SUPPORT. The records of all notice kinds but BAD_RECORD, STORE_FULL and SYNC_TIMEOUT stand unchanged through what a change of a contactor brings with it (R73, R165). -/

namespace Sys2Proof.Machine

/-- A raise leaves the record of every other kind. -/
theorem Dev.raise_entry (d : Dev) (j k : NoticeKind) (h : j ≠ k) : (d.raise k).ntu.entry j = d.ntu.entry j :=
  (d.raise_onlyRaised k).2.2.1 j h
/-- A raise counts its own kind. -/
theorem Dev.raise_own (d : Dev) (k : NoticeKind) : (d.raise k).ntu.entry k = ⟨true, min 255 ((d.ntu.entry k).count + 1)⟩ :=
  (d.raise_onlyRaised k).2.1
theorem Dev.readLoop_entry (n : Nat) (q : Job) (d : Dev) (j : NoticeKind) (h : j ≠ .badRecord) :
    (Dev.readLoop n q d).ntu.entry j = d.ntu.entry j := by
  induction n generalizing d with
  | zero => rfl
  | succ n ih =>
    simp only [Dev.readLoop]
    split
    · rfl
    · rw [ih, Dev.raise_entry _ _ _ h]; rfl
@[simp] theorem Dev.collectionRead_entry (d : Dev) (j : NoticeKind) (h : j ≠ .badRecord ∧ j ≠ .storeFull ∧ j ≠ .syncTimeout) : (d.collectionRead).ntu.entry j = d.ntu.entry j := by
  simp only [Dev.collectionRead]
  (repeat' split) <;> simp [h, Dev.readLoop_entry]
@[simp] theorem Dev.engineWork_entry (d : Dev) (j : NoticeKind) (h : j ≠ .badRecord ∧ j ≠ .storeFull ∧ j ≠ .syncTimeout) : (d.engineWork).ntu.entry j = d.ntu.entry j := by
  simp only [Dev.engineWork]
  (repeat' split) <;> simp [h, Dev.raise_entry]
@[simp] theorem Dev.engineChoice_entry (d : Dev) (j : NoticeKind) (h : j ≠ .badRecord ∧ j ≠ .storeFull ∧ j ≠ .syncTimeout) : (d.engineChoice).ntu.entry j = d.ntu.entry j := by
  simp only [Dev.engineChoice]
  (repeat' split) <;> simp [h]
@[simp] theorem Dev.stage_entry (d : Dev) (r : Rec) (j : NoticeKind) (h : j ≠ .badRecord ∧ j ≠ .storeFull ∧ j ≠ .syncTimeout) : (d.stage r).ntu.entry j = d.ntu.entry j := by
  simp only [Dev.stage]
  (repeat' split) <;> simp [h]
@[simp] theorem Dev.requestSession_entry (d : Dev) (r : Rec) (j : NoticeKind) (h : j ≠ .badRecord ∧ j ≠ .storeFull ∧ j ≠ .syncTimeout) : (d.requestSession r).ntu.entry j = d.ntu.entry j := by
  simp only [Dev.requestSession]
  (repeat' split) <;> simp [h]
@[simp] theorem Dev.requestEvent_entry (d : Dev) (e : EventRec) (j : NoticeKind) (h : j ≠ .badRecord ∧ j ≠ .storeFull ∧ j ≠ .syncTimeout) : (d.requestEvent e).ntu.entry j = d.ntu.entry j := by
  simp only [Dev.requestEvent]
  (repeat' split) <;> simp [h]
@[simp] theorem Dev.beginMembership_entry (d : Dev) (x : Outlet) (v : Session) (j : NoticeKind) (h : j ≠ .badRecord ∧ j ≠ .storeFull ∧ j ≠ .syncTimeout) : (d.beginMembership x v).ntu.entry j = d.ntu.entry j := by
  simp only [Dev.beginMembership]
  simp [h]
@[simp] theorem Dev.closePartial_entry (d : Dev) (j : NoticeKind) (h : j ≠ .badRecord ∧ j ≠ .storeFull ∧ j ≠ .syncTimeout) : (d.closePartial).ntu.entry j = d.ntu.entry j := by
  simp only [Dev.closePartial]
  (repeat' split) <;> simp [h]
@[simp] theorem Dev.endMembership_entry (d : Dev) (c : LeaveCause) (j : NoticeKind) (h : j ≠ .badRecord ∧ j ≠ .storeFull ∧ j ≠ .syncTimeout) : (d.endMembership c).ntu.entry j = d.ntu.entry j := by
  simp only [Dev.endMembership]
  (repeat' split) <;> simp [h]
@[simp] theorem Dev.cellTimeout_entry (d : Dev) (j : NoticeKind) (h : j ≠ .badRecord ∧ j ≠ .storeFull ∧ j ≠ .syncTimeout) : (d.cellTimeout).ntu.entry j = d.ntu.entry j := by
  simp only [Dev.cellTimeout]
  (repeat' split) <;> simp [h, Dev.raise_entry]
@[simp] theorem Dev.seekAfresh_entry (d : Dev) (j : NoticeKind) (h : j ≠ .badRecord ∧ j ≠ .storeFull ∧ j ≠ .syncTimeout) : (d.seekAfresh).ntu.entry j = d.ntu.entry j := by
  simp only [Dev.seekAfresh]
  (repeat' split) <;> simp [h]
@[simp] theorem Dev.assignedOpened_entry (d : Dev) (c : CState) (j : NoticeKind) (h : j ≠ .badRecord ∧ j ≠ .storeFull ∧ j ≠ .syncTimeout) : (d.assignedOpened c).ntu.entry j = d.ntu.entry j := by
  simp only [Dev.assignedOpened]
  (repeat' split) <;> simp [h]
@[simp] theorem Dev.assignedChanged_entry (d : Dev) (x : Outlet) (o n : CState) (j : NoticeKind) (h : j ≠ .badRecord ∧ j ≠ .storeFull ∧ j ≠ .syncTimeout) : (d.assignedChanged x o n).ntu.entry j = d.ntu.entry j := by
  simp only [Dev.assignedChanged]
  (repeat' split) <;> simp [h]
@[simp] theorem Dev.leftClosed_entry (d : Dev) (o : Origin) (j : NoticeKind) (h : j ≠ .badRecord ∧ j ≠ .storeFull ∧ j ≠ .syncTimeout) : (d.leftClosed o).ntu.entry j = d.ntu.entry j := by
  simp only [Dev.leftClosed]
  simp [h]
@[simp] theorem Dev.conChanged_entry (d : Dev) (x : Outlet) (c : CState) (o : Origin) (j : NoticeKind) (h : j ≠ .badRecord ∧ j ≠ .storeFull ∧ j ≠ .syncTimeout) : (d.conChanged x c o).ntu.entry j = d.ntu.entry j := by
  simp only [Dev.conChanged]
  (repeat' split) <;> simp [h]
@[simp] theorem Dev.changeCon_entry (d : Dev) (x : Outlet) (c : Contactor) (o : Origin) (j : NoticeKind) (h : j ≠ .badRecord ∧ j ≠ .storeFull ∧ j ≠ .syncTimeout) : (d.changeCon x c o).ntu.entry j = d.ntu.entry j := by
  simp only [Dev.changeCon]
  simp [h]
@[simp] theorem Dev.openRequest_entry (d : Dev) (x : Outlet) (o : Origin) (j : NoticeKind) (h : j ≠ .badRecord ∧ j ≠ .storeFull ∧ j ≠ .syncTimeout) : (d.openRequest x o).ntu.entry j = d.ntu.entry j := by
  simp only [Dev.openRequest]
  simp [h]
@[simp] theorem Dev.takeHeld_entry (d : Dev) (x : Outlet) (j : NoticeKind) (h : j ≠ .badRecord ∧ j ≠ .storeFull ∧ j ≠ .syncTimeout) : (d.takeHeld x).ntu.entry j = d.ntu.entry j := by
  simp only [Dev.takeHeld]
  (repeat' split) <;> simp [h]
@[simp] theorem Dev.becomeOpen_entry (d : Dev) (x : Outlet) (o : Origin) (j : NoticeKind) (h : j ≠ .badRecord ∧ j ≠ .storeFull ∧ j ≠ .syncTimeout) : (d.becomeOpen x o).ntu.entry j = d.ntu.entry j := by
  simp only [Dev.becomeOpen]
  simp [h]
@[simp] theorem Dev.bothChanged_entry (d : Dev) (p q : CState) (o : Origin) (j : NoticeKind) (h : j ≠ .badRecord ∧ j ≠ .storeFull ∧ j ≠ .syncTimeout) : (d.bothChanged p q o).ntu.entry j = d.ntu.entry j := by
  simp only [Dev.bothChanged]
  simp [h]


/-- A trip raises the notice of its own cause and no other of these kinds (R82, Table 5-4). -/
theorem Dev.trip_entry (d : Dev) (cause : TripCause) (on : Option Outlet) (j : NoticeKind)
    (h : j ≠ .badRecord ∧ j ≠ .storeFull ∧ j ≠ .syncTimeout) (hc : cause.notice ≠ some j) :
    (d.trip cause on).ntu.entry j = d.ntu.entry j := by
  have h0 : ((d.setSyu d.syu.clearRun).hocTrip.raiseTrip cause).ntu.entry j = d.ntu.entry j := by
    simp only [Dev.raiseTrip]
    split
    · simp
    · rename_i k hk
      rw [Dev.raise_entry _ _ _ (fun e => hc (by rw [hk, e]))]; simp
  simp only [Dev.trip]
  split
  · rw [Dev.bothChanged_entry _ _ _ _ _ h, Dev.requestEvent_entry _ _ _ h]; simpa using h0
  · rw [Dev.requestEvent_entry _ _ _ h, Dev.bothChanged_entry _ _ _ _ _ h]; simpa using h0

end Sys2Proof.Machine
end

