-- ==== Sys2Proof/Laws/Memory.lean ====
section
/-! SUPPORT. The store's bytes: every memory operation keeps the canonical form, and what a read gives after each. -/

namespace Sys2Proof.Machine

theorem memWf_nil : memWf [] := by simp [memWf]

/-- What memPut can hold. -/
theorem mem_memPut {m : List Host.Cell} {adr : Nat} {x : Byte} {c : Host.Cell} (h : c ∈ memPut m adr x) :
    c = (adr, x) ∨ c ∈ m := by
  induction m with
  | nil => simpa [memPut] using h
  | cons y r ih =>
    simp only [memPut] at h
    split at h
    · simpa using h
    · split at h
      · simp at h ⊢; tauto
      · simp at h ⊢; tauto

theorem pairwise_memPut {m : List Host.Cell} (adr : Nat) (x : Byte) (h : m.Pairwise (fun y z => y.1 < z.1)) :
    (memPut m adr x).Pairwise (fun y z => y.1 < z.1) := by
  induction m with
  | nil => simp [memPut]
  | cons y r ih =>
    rw [List.pairwise_cons] at h
    simp only [memPut]
    split
    · rename_i hlt
      refine List.pairwise_cons.2 ⟨?_, List.pairwise_cons.2 h⟩
      intro z hz
      rcases List.mem_cons.1 hz with rfl | hz
      · exact hlt
      · exact Nat.lt_trans hlt (h.1 z hz)
    · split
      · rename_i heq
        exact List.pairwise_cons.2 ⟨fun z hz => by simpa [heq] using h.1 z hz, h.2⟩
      · refine List.pairwise_cons.2 ⟨?_, ih h.2⟩
        intro z hz
        rcases mem_memPut hz with rfl | hz
        · simp only; omega
        · exact h.1 z hz

/-- A write inside the store keeps the canonical form. -/
theorem memWf_memWrite {m : List Host.Cell} {adr : Nat} (x : Byte) (ha : adr < 65536) (h : memWf m) :
    memWf (memWrite m adr x) := by
  unfold memWrite
  split
  · exact ⟨h.1.filter _, fun c hc => h.2 c (List.mem_filter.1 hc).1⟩
  · rename_i hx
    refine ⟨pairwise_memPut adr x h.1, fun c hc => ?_⟩
    rcases mem_memPut hc with rfl | hc
    · exact ⟨hx, ha⟩
    · exact h.2 c hc

/-- Consecutive writes inside the store keep the canonical form. -/
theorem memWf_memWriteBytes {l : List Byte} : ∀ {m : List Host.Cell} {adr : Nat}, adr + l.length ≤ 65536 → memWf m →
    memWf (memWriteBytes m adr l) := by
  induction l with
  | nil => intro m adr _ h; exact h
  | cons x l ih =>
    intro m adr ha h
    simp only [List.length_cons] at ha
    exact ih (by omega) (memWf_memWrite x (by omega) h)

/-- An erase keeps the canonical form. -/
theorem memWf_memErase {m : List Host.Cell} (adr len : Nat) (h : memWf m) : memWf (memErase m adr len) :=
  ⟨h.1.filter _, fun c hc => h.2 c (List.mem_filter.1 hc).1⟩

/-! ### Reads -/

theorem memRead_filter {m : List Host.Cell} {p : Nat → Bool} {adr : Nat} :
    memRead (m.filter (fun c => p c.1)) adr = if p adr then memRead m adr else erasedByte := by
  induction m with
  | nil => simp [memRead]
  | cons c r ih =>
    by_cases hc : p c.1 = true
    · simp only [List.filter_cons, hc, if_true, memRead]
      split
      · rename_i h; rw [← h, hc]; simp
      · exact ih
    · simp only [List.filter_cons, hc, memRead]
      rw [if_neg (by simp), ih]
      split
      · split
        · rename_i h1 h2; rw [h2] at hc; exact absurd h1 hc
        · rfl
      · rfl

theorem memRead_memPut_same {m : List Host.Cell} (adr : Nat) (x : Byte) : memRead (memPut m adr x) adr = x := by
  induction m with
  | nil => simp [memPut, memRead]
  | cons c r ih =>
    simp only [memPut]
    split
    · simp [memRead]
    · split
      · simp [memRead]
      · rename_i h1 h2
        simp only [memRead]
        rw [if_neg (fun h => h2 h.symm)]
        exact ih

theorem memRead_memPut_other {m : List Host.Cell} {adr o : Nat} (x : Byte) (h : o ≠ adr) :
    memRead (memPut m adr x) o = memRead m o := by
  induction m with
  | nil => simp [memPut, memRead, Ne.symm h]
  | cons c r ih =>
    simp only [memPut]
    split
    · simp only [memRead]; rw [if_neg (Ne.symm h)]
    · split
      · rename_i h2; simp only [memRead]; rw [if_neg (Ne.symm h), if_neg (by rw [← h2]; exact Ne.symm h)]
      · simp only [memRead]; rw [ih]

/-- A read after a write at the same place gives the value written. -/
theorem memRead_memWrite_same (m : List Host.Cell) (adr : Nat) (x : Byte) : memRead (memWrite m adr x) adr = x := by
  unfold memWrite
  split
  · rename_i h; rw [memRead_filter (p := fun a => a != adr)]; simp [h]
  · exact memRead_memPut_same adr x

/-- A write leaves every other place alone. -/
theorem memRead_memWrite_other (m : List Host.Cell) {adr o : Nat} (x : Byte) (h : o ≠ adr) :
    memRead (memWrite m adr x) o = memRead m o := by
  unfold memWrite
  split
  · rw [memRead_filter (p := fun a => a != adr)]; simp [h]
  · exact memRead_memPut_other x h

/-- Consecutive writes leave every place outside them alone. -/
theorem memRead_memWriteBytes_outside {l : List Byte} : ∀ {m : List Host.Cell} {adr o : Nat}, (o < adr ∨ adr + l.length ≤ o) →
    memRead (memWriteBytes m adr l) o = memRead m o := by
  induction l with
  | nil => intro m adr o _; rfl
  | cons x l ih =>
    intro m adr o h
    simp only [List.length_cons] at h
    simp only [memWriteBytes]
    rw [ih (by omega), memRead_memWrite_other _ _ (by omega)]

/-- Consecutive writes are read back at their places. -/
theorem memRead_memWriteBytes_inside {l : List Byte} : ∀ {m : List Host.Cell} {adr i : Nat} (h : i < l.length),
    memRead (memWriteBytes m adr l) (adr + i) = l[i] := by
  induction l with
  | nil => intro m adr i h; simp at h
  | cons x l ih =>
    intro m adr i h
    simp only [memWriteBytes]
    cases i with
    | zero =>
      rw [memRead_memWriteBytes_outside (by omega)]
      simpa using memRead_memWrite_same m adr x
    | succ i =>
      have := @ih (memWrite m adr x) (adr + 1) i (by simpa using h)
      simpa [Nat.add_assoc, Nat.add_comm 1 i] using this

/-- An erased range reads erased, and nothing else changes. -/
theorem memRead_memErase (m : List Host.Cell) (adr len o : Nat) :
    memRead (memErase m adr len) o = if adr ≤ o ∧ o < adr + len then erasedByte else memRead m o := by
  unfold memErase
  rw [memRead_filter (p := fun a => !(decide (adr ≤ a) && decide (a < adr + len)))]
  by_cases h : adr ≤ o ∧ o < adr + len <;> simp [h]

/-- The memory at reset is canonical. -/
theorem memWf_reset : memWf State.reset.dev.rst.mem := memWf_nil

end Sys2Proof.Machine
end

