-- ==== Sys2Proof/Laws/Orders.lean ====
section
/-! SUPPORT. The order path, said once: what a taken order becomes, and how a command runs while the part is up (R55, R169, R177). -/

namespace Sys2Proof.Machine

/-- A command of the line, the ports or the timers runs its function while the part is up. -/
theorem State.run_up {s : State} (h : s.dev.awake) (f : Dev → Dev) : s.run (Dev.whenUp f) = .next (s.onDev f) := by
  rcases h with h | h <;> simp [State.run, State.onDev, Dev.whenUp, Dev.up, h]

/-- While the part is not up, the command does nothing. -/
theorem State.run_down {s : State} (h : ¬s.dev.awake) (f : Dev → Dev) : s.run (Dev.whenUp f) = .next s := by
  have hu : s.dev.up = false := by simpa [Dev.up] using h
  simp [State.run, State.onDev, Dev.whenUp, hu]

/-- The part as the order path hands it to the owner: the tag remembered, a reply place taken. -/
def Dev.routed (d : Dev) (k : OrderKind) (h : OrderHead) : Dev :=
  (d.setLnk (d.lnk.remember h.sender (some h.tag))).setNtu (d.ntu.takePlace k h)

/-- An order that the path takes is routed with its place taken (R55). -/
theorem Dev.order_taken {d : Dev} {h : OrderHead} (t : d.takes h) (o : Order) : d.order h o = (d.routed o.kind h).route h o := by
  obtain ⟨-, h2, h3, h4, -⟩ := t
  simp only [Dev.order]
  rw [if_neg (by simpa [Dev.addressed] using fun e => h2.resolve_left e), if_neg h3, if_pos (by simpa [Ntu.hasPlace] using h4)]
  rfl

/-- A result without an effect: the tag remembered and the reply queued, nothing else (R169). -/
theorem Dev.reply_routed {d : Dev} {h : OrderHead} (t : d.takes h) (k : OrderKind) (r : Result) :
    Dev.reply (d.routed k h, r) = d.answered k h r := by
  simp only [Dev.reply, Dev.routed, Dev.setNtu, Dev.setLnk, Ntu.fill_taken t.2.2.2.2, Dev.answered]

/-- An order other than RESTART that the path takes is its owner's decision, replied to (R55, Table 3-4). -/
theorem State.run_order {s : State} {h : OrderHead} (t : s.dev.takes h) (o : Order) (hr : ∀ p, o ≠ .restart p) :
    s.run (Dev.whenUp (Dev.order h o)) = .next { s with dev := Dev.reply ((s.dev.routed o.kind h).decideOrder h o) } := by
  rw [State.run_up (Or.inl t.1)]
  simp only [State.onDev, Dev.order_taken t, Dev.route]

/-- What the owner reads is what stood before, but for the order memory and the reply queue. -/
@[simp] theorem Dev.routed_frame (d : Dev) (k : OrderKind) (h : OrderHead) :
    (d.routed k h).run = d.run ∧ (d.routed k h).pins = d.pins ∧ (d.routed k h).cfg = d.cfg ∧ (d.routed k h).ptb = d.ptb ∧
      (d.routed k h).msu = d.msu ∧ (d.routed k h).syu = d.syu ∧ (d.routed k h).ctc = d.ctc ∧ (d.routed k h).syn = d.syn ∧
      (d.routed k h).hoc = d.hoc ∧ (d.routed k h).mtr = d.mtr ∧ (d.routed k h).rst = d.rst ∧
      (d.routed k h).freeIdx = d.freeIdx := by
  simp [Dev.routed]

/-- The link state is no part of the order memory. -/
@[simp] theorem Lnk.remember_state (l : Lnk) (k : Nat) (v : Option Byte) : (l.remember k v).state = l.state := by
  simp only [Lnk.remember]
  split <;> rfl

end Sys2Proof.Machine
end

