-- ==== Sys2Proof/Laws/PerInstr.lean ====
section
/-! SUPPORT. A law of the syntax, said of every command and shown command by command: what an order carries beside its fields (R55, Table 12-4). -/

namespace Sys2Proof.Laws.F

/-- A well-formed order comes from a station 1..31, and its target lies in 0..31. -/
def Statement (i : Instr) : Prop :=
  i.wf = true → ∀ h, i.head = some h → 1 ≤ h.sender ∧ h.sender ≤ 31 ∧ h.target.toNat ≤ 31

/-- What a well-formed order head says. -/
theorem of_head {h : OrderHead} (w : h.wf = true) : 1 ≤ h.sender ∧ h.sender ≤ 31 ∧ h.target.toNat ≤ 31 := by
  simpa [OrderHead.wf, and_assoc] using w

theorem powerUp (pins : Pins) : Statement (.powerUp pins) := fun _ _ e => nomatch e
theorem resetPin (pins : Pins) : Statement (.resetPin pins) := fun _ _ e => nomatch e
theorem supplyWarning : Statement (.supplyWarning) := fun _ _ e => nomatch e
theorem supplyWarningClear (pins : Pins) : Statement (.supplyWarningClear pins) := fun _ _ e => nomatch e
theorem powerFail : Statement (.powerFail) := fun _ _ e => nomatch e
theorem sampleSet (raw : RawSet) : Statement (.sampleSet raw) := fun _ _ e => nomatch e
theorem watchTimerExpiry : Statement (.watchTimerExpiry) := fun _ _ e => nomatch e
theorem fallbackClose (t : TrackerId) : Statement (.fallbackClose t) := fun _ _ e => nomatch e
theorem overloadTimerExpiry : Statement (.overloadTimerExpiry) := fun _ _ e => nomatch e
theorem cycleTimerExpiry : Statement (.cycleTimerExpiry) := fun _ _ e => nomatch e
theorem sendMark : Statement (.sendMark) := fun _ _ e => nomatch e
theorem markReceived (bytes : List Byte) (start : MarkHeard) : Statement (.markReceived bytes start) := fun _ _ e => nomatch e
theorem markWindowClose : Statement (.markWindowClose) := fun _ _ e => nomatch e
theorem silenceCountExpiry : Statement (.silenceCountExpiry) := fun _ _ e => nomatch e
theorem loneCountExpiry : Statement (.loneCountExpiry) := fun _ _ e => nomatch e
theorem ownBulletinAssembly : Statement (.ownBulletinAssembly) := fun _ _ e => nomatch e
theorem ownSlotEnd (heard : List Byte) (overdrive : Bool) : Statement (.ownSlotEnd heard overdrive) := fun _ _ e => nomatch e
theorem bulletinReceived (bytes : List Byte) (start : Int) : Statement (.bulletinReceived bytes start) := fun _ _ e => nomatch e
theorem slotEnd (slot : SlotMoment) : Statement (.slotEnd slot) := fun _ _ e => nomatch e
theorem assign (h : OrderHead) (outlet : Byte) : Statement (.assign h outlet) := by
  rintro w _ ⟨⟩
  exact of_head w
theorem unassign (h : OrderHead) : Statement (.unassign h) := by
  rintro w _ ⟨⟩
  exact of_head w
theorem sessionOpen (h : OrderHead) (f : SessionFields) : Statement (.sessionOpen h f) := by
  rintro w _ ⟨⟩
  exact of_head w
theorem sessionClose (h : OrderHead) (outlet : Byte) (id : BitVec 32) : Statement (.sessionClose h outlet id) := by
  rintro w _ ⟨⟩
  exact of_head w
theorem startTransfer (h : OrderHead) (outlet : Byte) : Statement (.startTransfer h outlet) := by
  rintro w _ ⟨⟩
  exact of_head w
theorem startDeparture (h : OrderHead) (outlet : Byte) : Statement (.startDeparture h outlet) := by
  rintro w _ ⟨⟩
  exact of_head w
theorem clearTrip (h : OrderHead) : Statement (.clearTrip h) := by
  rintro w _ ⟨⟩
  exact of_head w
theorem tariff (h : OrderHead) (count : Byte) (groups : List (BitVec 16 × Byte)) : Statement (.tariff h count groups) := by
  rintro w _ ⟨⟩
  simp only [Instr.wf, Bool.and_eq_true] at w
  exact of_head w.1
theorem collect (h : OrderHead) (start : BitVec 32) (count : Byte) : Statement (.collect h start count) := by
  rintro w _ ⟨⟩
  exact of_head w
theorem confirm (h : OrderHead) (upTo : BitVec 32) : Statement (.confirm h upTo) := by
  rintro w _ ⟨⟩
  exact of_head w
theorem flush (h : OrderHead) : Statement (.flush h) := by
  rintro w _ ⟨⟩
  exact of_head w
theorem acknowledgeNotices (h : OrderHead) (count : Byte) (codes : List Byte) : Statement (.acknowledgeNotices h count codes) := by
  rintro w _ ⟨⟩
  simp only [Instr.wf, Bool.and_eq_true] at w
  exact of_head w.1
theorem restart (h : OrderHead) (pins : Pins) : Statement (.restart h pins) := by
  rintro w _ ⟨⟩
  exact of_head w
theorem unknownOrder (h : OrderHead) (kind : Byte) : Statement (.unknownOrder h kind) := by
  rintro w _ ⟨⟩
  simp only [Instr.wf, Bool.and_eq_true] at w
  exact of_head w.1
theorem auxLevelQualified (x : Outlet) (closed : Bool) : Statement (.auxLevelQualified x closed) := fun _ _ e => nomatch e
theorem coilPulseTimerExpiry (x : Outlet) : Statement (.coilPulseTimerExpiry x) := fun _ _ e => nomatch e
theorem confirmTimerExpiry (x : Outlet) : Statement (.confirmTimerExpiry x) := fun _ _ e => nomatch e
theorem retryGapExpiry (x : Outlet) : Statement (.retryGapExpiry x) := fun _ _ e => nomatch e
theorem crossingWatchExpiry (c : ChannelId) : Statement (.crossingWatchExpiry c) := fun _ _ e => nomatch e
theorem cellChannelTimeout : Statement (.cellChannelTimeout) := fun _ _ e => nomatch e
theorem shipChannelTimeout : Statement (.shipChannelTimeout) := fun _ _ e => nomatch e
theorem backOffExpiry : Statement (.backOffExpiry) := fun _ _ e => nomatch e
theorem joinAgeTick : Statement (.joinAgeTick) := fun _ _ e => nomatch e
theorem progressTimerExpiry : Statement (.progressTimerExpiry) := fun _ _ e => nomatch e
theorem absoluteRampTimerExpiry : Statement (.absoluteRampTimerExpiry) := fun _ _ e => nomatch e
theorem lowGeneratorTimerExpiry : Statement (.lowGeneratorTimerExpiry) := fun _ _ e => nomatch e
theorem releaseTimerExpiry : Statement (.releaseTimerExpiry) := fun _ _ e => nomatch e
theorem releaseWaitExpiry : Statement (.releaseWaitExpiry) := fun _ _ e => nomatch e
theorem lowLoadTimerExpiry : Statement (.lowLoadTimerExpiry) := fun _ _ e => nomatch e
theorem leaveStallExpiry : Statement (.leaveStallExpiry) := fun _ _ e => nomatch e
theorem secondAdvance : Statement (.secondAdvance) := fun _ _ e => nomatch e
theorem packingTimerExpiry : Statement (.packingTimerExpiry) := fun _ _ e => nomatch e
theorem storeAbsoluteTimerExpiry : Statement (.storeAbsoluteTimerExpiry) := fun _ _ e => nomatch e
theorem pageProgramComplete : Statement (.pageProgramComplete) := fun _ _ e => nomatch e
theorem sectorEraseComplete : Statement (.sectorEraseComplete) := fun _ _ e => nomatch e

end Sys2Proof.Laws.F
end

