-- ==== Sys2Proof/Laws/Replies.lean ====
section
/-! SUPPORT. Only the order path and the annex grant touch the reply queue: every other operation leaves it alone. -/

namespace Sys2Proof.Machine

@[simp] theorem Dev.raise_replies (d : Dev) (k : NoticeKind) : (d.raise k).ntu.replies = d.ntu.replies := by
  rfl
@[simp] theorem Dev.raiseIf_replies (d : Dev) (c : Bool) (k : NoticeKind) : (d.raiseIf c k).ntu.replies = d.ntu.replies := by
  simp only [Dev.raiseIf]; split <;> rfl
@[simp] theorem Dev.readLoop_replies (n : Nat) (j : Job) (d : Dev) : (Dev.readLoop n j d).ntu.replies = d.ntu.replies := by
  induction n generalizing d with
  | zero => rfl
  | succ n ih =>
    simp only [Dev.readLoop]
    split
    · rfl
    · rw [ih]; simp
@[simp] theorem Dev.collectionRead_replies (d : Dev) : (d.collectionRead).ntu.replies = d.ntu.replies := by
  simp only [Dev.collectionRead]; (repeat' split) <;> simp
@[simp] theorem Dev.engineWork_replies (d : Dev) : (d.engineWork).ntu.replies = d.ntu.replies := by
  simp only [Dev.engineWork]
  (repeat' split) <;> simp
@[simp] theorem Dev.engineChoice_replies (d : Dev) : (d.engineChoice).ntu.replies = d.ntu.replies := by
  simp only [Dev.engineChoice]
  (repeat' split) <;> simp
@[simp] theorem Dev.availableTest_replies (d : Dev) (c : Bool) : (d.availableTest c).ntu.replies = d.ntu.replies := by
  simp only [Dev.availableTest]
  simp
@[simp] theorem Dev.stage_replies (d : Dev) (r : Rec) : (d.stage r).ntu.replies = d.ntu.replies := by
  simp only [Dev.stage]
  (repeat' split) <;> simp
@[simp] theorem Dev.drainDemand_replies (d : Dev) : (d.drainDemand).ntu.replies = d.ntu.replies := by
  simp only [Dev.drainDemand]
  simp
@[simp] theorem Dev.confirmTo_replies (d : Dev) (n : Nat) : (d.confirmTo n).ntu.replies = d.ntu.replies := by
  simp only [Dev.confirmTo]
  (repeat' split) <;> simp
@[simp] theorem Dev.openJob_replies (d : Dev) (q s n : Nat) : (d.openJob q s n).ntu.replies = d.ntu.replies := by
  simp only [Dev.openJob]
  simp
@[simp] theorem Dev.itemGranted_replies (d : Dev) : (d.itemGranted).ntu.replies = d.ntu.replies := by
  simp only [Dev.itemGranted]
  (repeat' split) <;> simp
@[simp] theorem Dev.scan_replies (d : Dev) : (d.scan).ntu.replies = d.ntu.replies := by
  simp only [Dev.scan]
  simp
@[simp] theorem Dev.requestSession_replies (d : Dev) (r : Rec) : (d.requestSession r).ntu.replies = d.ntu.replies := by
  simp only [Dev.requestSession]
  (repeat' split) <;> simp
@[simp] theorem Dev.requestEvent_replies (d : Dev) (e : EventRec) : (d.requestEvent e).ntu.replies = d.ntu.replies := by
  simp only [Dev.requestEvent]
  (repeat' split) <;> simp
@[simp] theorem Dev.beginMembership_replies (d : Dev) (x : Outlet) (v : Session) : (d.beginMembership x v).ntu.replies = d.ntu.replies := by
  simp only [Dev.beginMembership]
  simp
@[simp] theorem Dev.closePartial_replies (d : Dev) : (d.closePartial).ntu.replies = d.ntu.replies := by
  simp only [Dev.closePartial]
  (repeat' split) <;> simp
@[simp] theorem Dev.endMembership_replies (d : Dev) (c : LeaveCause) : (d.endMembership c).ntu.replies = d.ntu.replies := by
  simp only [Dev.endMembership]
  (repeat' split) <;> simp
@[simp] theorem Dev.meterSet_replies (d : Dev) (p : Int) : (d.meterSet p).ntu.replies = d.ntu.replies := by
  simp only [Dev.meterSet]
  (repeat' split) <;> simp
@[simp] theorem Dev.boundary_replies (d : Dev) (i : Option Nat) : (d.boundary i).ntu.replies = d.ntu.replies := by
  simp only [Dev.boundary]
  (repeat' split) <;> simp
@[simp] theorem Dev.advanceSecond_replies (d : Dev) : (d.advanceSecond).ntu.replies = d.ntu.replies := by
  simp only [Dev.advanceSecond]
  (repeat' split) <;> simp
@[simp] theorem Dev.adoptTime_replies (d : Dev) (t : TimeBody) : (d.adoptTime t).ntu.replies = d.ntu.replies := by
  simp only [Dev.adoptTime]
  (repeat' split) <;> simp
@[simp] theorem Dev.interruption_replies (d : Dev) (c : Bool) : (d.interruption c).ntu.replies = d.ntu.replies := by
  simp only [Dev.interruption]
  (repeat' split) <;> simp
@[simp] theorem Dev.cellTimeout_replies (d : Dev) : (d.cellTimeout).ntu.replies = d.ntu.replies := by
  simp only [Dev.cellTimeout]
  (repeat' split) <;> simp
@[simp] theorem Dev.seekAfresh_replies (d : Dev) : (d.seekAfresh).ntu.replies = d.ntu.replies := by
  simp only [Dev.seekAfresh]
  (repeat' split) <;> simp
@[simp] theorem Dev.assignedOpened_replies (d : Dev) (c : CState) : (d.assignedOpened c).ntu.replies = d.ntu.replies := by
  simp only [Dev.assignedOpened]
  (repeat' split) <;> simp
@[simp] theorem Dev.assignedChanged_replies (d : Dev) (x : Outlet) (o n : CState) : (d.assignedChanged x o n).ntu.replies = d.ntu.replies := by
  simp only [Dev.assignedChanged]
  (repeat' split) <;> simp
@[simp] theorem Dev.leftClosed_replies (d : Dev) (o : Origin) : (d.leftClosed o).ntu.replies = d.ntu.replies := by
  simp only [Dev.leftClosed]
  simp
@[simp] theorem Dev.conChanged_replies (d : Dev) (x : Outlet) (c : CState) (o : Origin) : (d.conChanged x c o).ntu.replies = d.ntu.replies := by
  simp only [Dev.conChanged]
  (repeat' split) <;> simp
@[simp] theorem Dev.breakerCloses_replies (d : Dev) (n : Nat) : (d.breakerCloses n).ntu.replies = d.ntu.replies := by
  simp only [Dev.breakerCloses]
  (repeat' split) <;> simp
@[simp] theorem Dev.breakerOpens_replies (d : Dev) : (d.breakerOpens).ntu.replies = d.ntu.replies := by
  simp only [Dev.breakerOpens]
  (repeat' split) <;> simp
@[simp] theorem Dev.shipEvents_replies (d : Dev) (u v : ShipFacts) : (d.shipEvents u v).ntu.replies = d.ntu.replies := by
  simp only [Dev.shipEvents]
  (repeat' split) <;> simp
@[simp] theorem Dev.takeView_replies (d : Dev) : (d.takeView).ntu.replies = d.ntu.replies := by
  simp only [Dev.takeView]
  (repeat' split) <;> simp
@[simp] theorem Dev.shipNotice_replies (d : Dev) : (d.shipNotice).ntu.replies = d.ntu.replies := by
  simp only [Dev.shipNotice]
  (repeat' split) <;> simp
@[simp] theorem Dev.changeCon_replies (d : Dev) (x : Outlet) (c : Contactor) (o : Origin) : (d.changeCon x c o).ntu.replies = d.ntu.replies := by
  simp only [Dev.changeCon]
  simp
@[simp] theorem Dev.startClose_replies (d : Dev) (x : Outlet) : (d.startClose x).ntu.replies = d.ntu.replies := by
  simp only [Dev.startClose]
  simp
@[simp] theorem Dev.openRequest_replies (d : Dev) (x : Outlet) (o : Origin) : (d.openRequest x o).ntu.replies = d.ntu.replies := by
  simp only [Dev.openRequest]
  simp
@[simp] theorem Dev.takeHeld_replies (d : Dev) (x : Outlet) : (d.takeHeld x).ntu.replies = d.ntu.replies := by
  simp only [Dev.takeHeld]
  (repeat' split) <;> simp
@[simp] theorem Dev.becomeOpen_replies (d : Dev) (x : Outlet) (o : Origin) : (d.becomeOpen x o).ntu.replies = d.ntu.replies := by
  simp only [Dev.becomeOpen]
  simp
@[simp] theorem Dev.becomeClosed_replies (d : Dev) (x : Outlet) : (d.becomeClosed x).ntu.replies = d.ntu.replies := by
  simp only [Dev.becomeClosed]
  simp
@[simp] theorem Dev.raiseTrip_replies (d : Dev) (c : TripCause) : (d.raiseTrip c).ntu.replies = d.ntu.replies := by
  simp only [Dev.raiseTrip]
  (repeat' split) <;> simp
@[simp] theorem Dev.bothChanged_replies (d : Dev) (p q : CState) (o : Origin) : (d.bothChanged p q o).ntu.replies = d.ntu.replies := by
  simp only [Dev.bothChanged]
  simp
@[simp] theorem Dev.trip_replies (d : Dev) (c : TripCause) (x : Option Outlet) : (d.trip c x).ntu.replies = d.ntu.replies := by
  simp only [Dev.trip]
  (repeat' split) <;> simp
@[simp] theorem Dev.closeFailed_replies (d : Dev) (x : Outlet) : (d.closeFailed x).ntu.replies = d.ntu.replies := by
  simp only [Dev.closeFailed]
  simp
@[simp] theorem Dev.openFailed_replies (d : Dev) (x : Outlet) : (d.openFailed x).ntu.replies = d.ntu.replies := by
  simp only [Dev.openFailed]
  simp
@[simp] theorem Dev.pulseEnd_replies (d : Dev) (x : Outlet) : (d.pulseEnd x).ntu.replies = d.ntu.replies := by
  simp only [Dev.pulseEnd]
  (repeat' split) <;> simp
@[simp] theorem Dev.confirmEnd_replies (d : Dev) (x : Outlet) : (d.confirmEnd x).ntu.replies = d.ntu.replies := by
  simp only [Dev.confirmEnd]
  (repeat' split) <;> simp
@[simp] theorem Dev.unexpectedClosure_replies (d : Dev) (x : Outlet) : (d.unexpectedClosure x).ntu.replies = d.ntu.replies := by
  simp only [Dev.unexpectedClosure]
  simp
@[simp] theorem Dev.auxEffect_replies (d : Dev) (x : Outlet) (c : Bool) : (d.auxEffect x c).ntu.replies = d.ntu.replies := by
  simp only [Dev.auxEffect]
  (repeat' split) <;> simp
@[simp] theorem Dev.auxLevel_replies (d : Dev) (x : Outlet) (c : Bool) : (d.auxLevel x c).ntu.replies = d.ntu.replies := by
  simp only [Dev.auxLevel]
  (repeat' split) <;> simp
@[simp] theorem Dev.takeMet_replies (d : Dev) : (d.takeMet).ntu.replies = d.ntu.replies := by
  simp only [Dev.takeMet]
  (repeat' split) <;> simp
@[simp] theorem Dev.busCrossing_replies (d : Dev) : (d.busCrossing).ntu.replies = d.ntu.replies := by
  simp only [Dev.busCrossing]
  (repeat' split) <;> simp
@[simp] theorem Dev.formingClose_replies (d : Dev) (x : Outlet) : (d.formingClose x).ntu.replies = d.ntu.replies := by
  simp only [Dev.formingClose]
  (repeat' split) <;> simp
@[simp] theorem Dev.judgeForming_replies (d : Dev) : (d.judgeForming).ntu.replies = d.ntu.replies := by
  simp only [Dev.judgeForming]
  (repeat' split) <;> simp
@[simp] theorem Dev.hocCycle_replies (d : Dev) : (d.hocCycle).ntu.replies = d.ntu.replies := by
  simp only [Dev.hocCycle]
  simp
@[simp] theorem Dev.rampStall_replies (d : Dev) : (d.rampStall).ntu.replies = d.ntu.replies := by
  simp only [Dev.rampStall]
  simp
@[simp] theorem Dev.progressExpiry_replies (d : Dev) : (d.progressExpiry).ntu.replies = d.ntu.replies := by
  simp only [Dev.progressExpiry]
  (repeat' split) <;> simp
@[simp] theorem Dev.absoluteExpiry_replies (d : Dev) : (d.absoluteExpiry).ntu.replies = d.ntu.replies := by
  simp only [Dev.absoluteExpiry]
  (repeat' split) <;> simp
@[simp] theorem Dev.releaseWaitExpiry_replies (d : Dev) : (d.releaseWaitExpiry).ntu.replies = d.ntu.replies := by
  simp only [Dev.releaseWaitExpiry]
  (repeat' split) <;> simp
@[simp] theorem Dev.openOwn_replies (d : Dev) : (d.openOwn).ntu.replies = d.ntu.replies := by
  simp only [Dev.openOwn]
  (repeat' split) <;> simp
@[simp] theorem Dev.lowLoadExpiry_replies (d : Dev) : (d.lowLoadExpiry).ntu.replies = d.ntu.replies := by
  simp only [Dev.lowLoadExpiry]
  (repeat' split) <;> simp
@[simp] theorem Dev.leaveStalled_replies (d : Dev) (st : HState) : (d.leaveStalled st).ntu.replies = d.ntu.replies := by
  simp only [Dev.leaveStalled]
  simp
@[simp] theorem Dev.leaveStallExpiry_replies (d : Dev) : (d.leaveStallExpiry).ntu.replies = d.ntu.replies := by
  simp only [Dev.leaveStallExpiry]
  (repeat' split) <;> simp
@[simp] theorem Dev.cellTimeoutExpiry_replies (d : Dev) : (d.cellTimeoutExpiry).ntu.replies = d.ntu.replies := by
  simp only [Dev.cellTimeoutExpiry]
  (repeat' split) <;> simp
@[simp] theorem Dev.shipTimeoutExpiry_replies (d : Dev) : (d.shipTimeoutExpiry).ntu.replies = d.ntu.replies := by
  simp only [Dev.shipTimeoutExpiry]
  (repeat' split) <;> simp
@[simp] theorem Dev.ctcMuted_replies (d : Dev) (c : Bool) : (d.ctcMuted c).ntu.replies = d.ntu.replies := by
  simp only [Dev.ctcMuted]
  (repeat' split) <;> simp
@[simp] theorem Dev.enterMuted_replies (d : Dev) : (d.enterMuted).ntu.replies = d.ntu.replies := by
  simp only [Dev.enterMuted]
  (repeat' split) <;> simp
@[simp] theorem Dev.ctcWarning_replies (d : Dev) : (d.ctcWarning).ntu.replies = d.ntu.replies := by
  simp only [Dev.ctcWarning]
  simp
@[simp] theorem Dev.mtrWarning_replies (d : Dev) : (d.mtrWarning).ntu.replies = d.ntu.replies := by
  simp only [Dev.mtrWarning]
  simp
@[simp] theorem Dev.rstWarning_replies (d : Dev) : (d.rstWarning).ntu.replies = d.ntu.replies := by
  simp only [Dev.rstWarning]
  simp
@[simp] theorem Dev.blocksWarned_replies (d : Dev) : (d.blocksWarned).ntu.replies = d.ntu.replies := by
  simp only [Dev.blocksWarned]
  simp
@[simp] theorem Dev.warn_replies (d : Dev) : (d.warn).ntu.replies = d.ntu.replies := by
  simp only [Dev.warn]
  (repeat' split) <;> simp
@[simp] theorem Dev.overTrip_replies (d : Dev) (c : Bool) : (d.overTrip c).ntu.replies = d.ntu.replies := by
  simp only [Dev.overTrip]
  (repeat' split) <;> simp
@[simp] theorem Dev.takeCrossings_replies (d : Dev) (p q : Bool) : (d.takeCrossings p q).ntu.replies = d.ntu.replies := by
  simp only [Dev.takeCrossings]
  (repeat' split) <;> simp
@[simp] theorem Dev.admitSet_replies (d : Dev) (q : Byte) (g : Nat) (c : Channels) : (d.admitSet q g c).ntu.replies = d.ntu.replies := by
  simp only [Dev.admitSet]
  simp
@[simp] theorem Dev.sampleSet_replies (d : Dev) (r : RawSet) : (d.sampleSet r).ntu.replies = d.ntu.replies := by
  simp only [Dev.sampleSet]
  (repeat' split) <;> simp
@[simp] theorem Dev.watchTimerExpiry_replies (d : Dev) : (d.watchTimerExpiry).ntu.replies = d.ntu.replies := by
  simp only [Dev.watchTimerExpiry]
  (repeat' split) <;> simp
@[simp] theorem Dev.overloadExpiry_replies (d : Dev) : (d.overloadExpiry).ntu.replies = d.ntu.replies := by
  simp only [Dev.overloadExpiry]
  (repeat' split) <;> simp
@[simp] theorem Dev.beginCycle_replies (d : Dev) (n : Nat) : (d.beginCycle n).ntu.replies = d.ntu.replies := by
  simp only [Dev.beginCycle]; (repeat' split) <;> simp [Ntu.tick]
@[simp] theorem Dev.cycleExpiry_replies (d : Dev) : (d.cycleExpiry).ntu.replies = d.ntu.replies := by
  simp only [Dev.cycleExpiry]
  simp
@[simp] theorem Dev.loneExpiry_replies (d : Dev) : (d.loneExpiry).ntu.replies = d.ntu.replies := by
  simp only [Dev.loneExpiry]
  (repeat' split) <;> simp
@[simp] theorem Dev.sendMark_replies (d : Dev) : (d.sendMark).ntu.replies = d.ntu.replies := by
  simp only [Dev.sendMark]
  (repeat' split) <;> simp
@[simp] theorem Dev.abandonClose_replies (d : Dev) : (d.abandonClose).ntu.replies = d.ntu.replies := by
  simp only [Dev.abandonClose]
  (repeat' split) <;> simp
@[simp] theorem Dev.takeLeave_replies (d : Dev) (x : Option Outlet) : (d.takeLeave x).1.ntu.replies = d.ntu.replies := by
  simp only [Dev.takeLeave]
  (repeat' split) <;> simp
@[simp] theorem Dev.assignTo_replies (d : Dev) (x : Outlet) : (d.assignTo x).1.ntu.replies = d.ntu.replies := by
  simp only [Dev.assignTo]
  (repeat' split) <;> simp
@[simp] theorem Dev.assign_replies (d : Dev) (c : Byte) : (d.assign c).1.ntu.replies = d.ntu.replies := by
  simp only [Dev.assign]
  (repeat' split) <;> simp
@[simp] theorem Dev.sessionGone_replies (d : Dev) : (d.sessionGone).ntu.replies = d.ntu.replies := by
  simp only [Dev.sessionGone]
  (repeat' split) <;> simp
@[simp] theorem Dev.closeSession_replies (d : Dev) (x : Outlet) : (d.closeSession x).ntu.replies = d.ntu.replies := by
  simp only [Dev.closeSession]
  (repeat' split) <;> simp
@[simp] theorem Dev.sessionClose_replies (d : Dev) (c : Byte) (n : Nat) : (d.sessionClose c n).1.ntu.replies = d.ntu.replies := by
  simp only [Dev.sessionClose]
  (repeat' split) <;> simp
@[simp] theorem Dev.collect_replies (d : Dev) (q p n : Nat) : (d.collect q p n).1.ntu.replies = d.ntu.replies := by
  simp only [Dev.collect]
  (repeat' split) <;> simp
@[simp] theorem Dev.acknowledge_replies (d : Dev) (k : NoticeKind) : (d.acknowledge k).ntu.replies = d.ntu.replies := by
  simp [Dev.acknowledge, Ntu.clear]
@[simp] theorem Dev.acknowledgeNotices_replies (d : Dev) (n : Byte) (c : List Byte) :
    (d.acknowledgeNotices n c).1.ntu.replies = d.ntu.replies := by
  have hf : ∀ (l : List NoticeKind) (e : Dev), (l.foldl Dev.acknowledge e).ntu.replies = e.ntu.replies := by
    intro l; induction l with
    | nil => intro e; rfl
    | cons k l ih => intro e; rw [List.foldl_cons, ih]; simp
  simp only [Dev.acknowledgeNotices]; split
  · rfl
  · exact hf _ _
@[simp] theorem Dev.faulty_replies (d : Dev) (i : Nat) : (d.faulty i).ntu.replies = d.ntu.replies := by
  simp only [Dev.faulty]
  (repeat' split) <;> simp
@[simp] theorem Dev.adoptOutside_replies (d : Dev) (m q : Nat) : (d.adoptOutside m q).ntu.replies = d.ntu.replies := by
  simp only [Dev.adoptOutside]
  simp
@[simp] theorem Dev.adoptEarly_replies (d : Dev) (m q : Nat) : (d.adoptEarly m q).ntu.replies = d.ntu.replies := by
  simp only [Dev.adoptEarly]
  simp
@[simp] theorem Dev.validMark_replies (d : Dev) (m q : Nat) (r : Int) : (d.validMark m q r).ntu.replies = d.ntu.replies := by
  simp only [Dev.validMark]
  (repeat' split) <;> simp
@[simp] theorem Dev.markCollision_replies (d : Dev) : (d.markCollision).ntu.replies = d.ntu.replies := by
  simp only [Dev.markCollision]
  (repeat' split) <;> simp
@[simp] theorem Dev.markHeard_replies (d : Dev) (b : List Byte) (r : Int) : (d.markHeard b r).ntu.replies = d.ntu.replies := by
  simp only [Dev.markHeard]
  (repeat' split) <;> simp
@[simp] theorem Dev.markReadBack_replies (d : Dev) (b : List Byte) (o : Bool) : (d.markReadBack b o).ntu.replies = d.ntu.replies := by
  simp only [Dev.markReadBack]
  (repeat' split) <;> simp
@[simp] theorem Dev.markReceived_replies (d : Dev) (b : List Byte) (r : MarkHeard) :
    (d.markReceived b r).ntu.replies = d.ntu.replies := by
  simp only [Dev.markReceived]
  (repeat' split) <;> simp
@[simp] theorem Dev.listenSlot_replies (d : Dev) : (d.listenSlot).ntu.replies = d.ntu.replies := by
  simp only [Dev.listenSlot]
  (repeat' split) <;> simp
@[simp] theorem Dev.readBack_replies (d : Dev) (b : List Byte) (o : Bool) : (d.readBack b o).ntu.replies = d.ntu.replies := by
  simp only [Dev.readBack]
  (repeat' split) <;> simp
@[simp] theorem Dev.ownSlotEnd_replies (d : Dev) (b : List Byte) (o : Bool) : (d.ownSlotEnd b o).ntu.replies = d.ntu.replies := by
  simp only [Dev.ownSlotEnd]
  (repeat' split) <;> simp
@[simp] theorem Dev.checkBulletin_replies (d : Dev) (k : Nat) (b : List Byte) (r : Int) : (d.checkBulletin k b r).ntu.replies = d.ntu.replies := by
  simp only [Dev.checkBulletin]
  (repeat' split) <;> simp
@[simp] theorem Dev.bulletinReceived_replies (d : Dev) (b : List Byte) (r : Int) : (d.bulletinReceived b r).ntu.replies = d.ntu.replies := by
  simp only [Dev.bulletinReceived]
  (repeat' split) <;> simp
@[simp] theorem Dev.entryGone_replies (d : Dev) (k : Nat) (e : PeerEntry) : (d.entryGone k e).ntu.replies = d.ntu.replies := by
  simp only [Dev.entryGone]
  (repeat' split) <;> simp
@[simp] theorem Dev.missedSlot_replies (d : Dev) (k : Nat) : (d.missedSlot k).ntu.replies = d.ntu.replies := by
  simp only [Dev.missedSlot]
  (repeat' split) <;> simp
@[simp] theorem Dev.storeBody_replies (d : Dev) (k : Nat) (b : PeerBody) : (d.storeBody k b).ntu.replies = d.ntu.replies := by
  simp only [Dev.storeBody]
  simp
@[simp] theorem Dev.takeBody_replies (d : Dev) (k : Nat) (o : Role) (b : List Byte) : (d.takeBody k o b).ntu.replies = d.ntu.replies := by
  simp only [Dev.takeBody]
  (repeat' split) <;> simp
@[simp] theorem Dev.viewNotice_replies (d : Dev) (t : Ptb) (v : Bool) : (d.viewNotice t v).ntu.replies = d.ntu.replies := by
  simp only [Dev.viewNotice]
  (repeat' split) <;> simp
@[simp] theorem Dev.timeHandOff_replies (d : Dev) (k : Nat) (b : List Byte) : (d.timeHandOff k b).ntu.replies = d.ntu.replies := by
  simp only [Dev.timeHandOff]
  (repeat' split) <;> simp
@[simp] theorem Dev.secondAdvance_replies (d : Dev) : (d.secondAdvance).ntu.replies = d.ntu.replies := by
  simp only [Dev.secondAdvance]
  (repeat' split) <;> simp
@[simp] theorem Dev.packingExpiry_replies (d : Dev) : (d.packingExpiry).ntu.replies = d.ntu.replies := by
  simp only [Dev.packingExpiry]
  (repeat' split) <;> simp
@[simp] theorem Dev.storeAbsoluteExpiry_replies (d : Dev) : (d.storeAbsoluteExpiry).ntu.replies = d.ntu.replies := by
  simp only [Dev.storeAbsoluteExpiry]
  (repeat' split) <;> simp
@[simp] theorem Dev.programComplete_replies (d : Dev) : (d.programComplete).ntu.replies = d.ntu.replies := by
  simp only [Dev.programComplete]
  (repeat' split) <;> simp
@[simp] theorem Dev.eraseComplete_replies (d : Dev) : (d.eraseComplete).ntu.replies = d.ntu.replies := by
  simp only [Dev.eraseComplete]
  (repeat' split) <;> simp
@[simp] theorem Dev.stepOrder_replies (d : Dev) (c : Byte) (f : Dev → Decision) (hf : (f d).1.ntu.replies = d.ntu.replies) :
    (d.stepOrder c f).1.ntu.replies = d.ntu.replies := by
  simp only [Dev.stepOrder]
  (repeat' split) <;> simp [hf]

/-- No owner's decision touches the reply queue (R169). -/
theorem Dev.decideOrder_replies (d : Dev) (h : OrderHead) (o : Order) : (d.decideOrder h o).1.ntu.replies = d.ntu.replies := by
  simp only [Dev.decideOrder]; (repeat' split) <;> simp [Dev.accept]

end Sys2Proof.Machine
end

