-- ==== Sys2Proof/Laws/StoreMem.lean ====
section
/-! SUPPORT. Only a completion, START and the loss of supply write the bytes of the store: every other operation leaves them alone. -/

namespace Sys2Proof.Machine

theorem Rst.demand_mem (r : Rst) : r.demand.mem = r.mem := by
  simp only [Rst.demand]; split <;> rfl
theorem Rst.afterJoin_mem (r : Rst) (c : Cfg) : (r.afterJoin c).mem = r.mem := by
  have h : (r.joinTimers c).mem = r.mem := by simp only [Rst.joinTimers]; split <;> rfl
  simp only [Rst.afterJoin]; split
  · rw [Rst.demand_mem, h]
  · exact h
theorem Rst.startProgram_mem (r : Rst) : r.startProgram.mem = r.mem := by
  simp only [Rst.startProgram]; (repeat' split) <;> rfl

@[simp] theorem Dev.readLoop_mem (n : Nat) (j : Job) (d : Dev) : (Dev.readLoop n j d).rst.mem = d.rst.mem := by
  induction n generalizing d with
  | zero => rfl
  | succ n ih =>
    simp only [Dev.readLoop]
    split
    · rfl
    · rw [ih]; simp [Rst.dropSlot]
@[simp] theorem Dev.collectionRead_mem (d : Dev) : (d.collectionRead).rst.mem = d.rst.mem := by
  simp only [Dev.collectionRead]; (repeat' split) <;> simp
@[simp] theorem Dev.engineWork_mem (d : Dev) : (d.engineWork).rst.mem = d.rst.mem := by
  simp only [Dev.engineWork]; (repeat' split) <;> simp [Rst.startProgram_mem]
@[simp] theorem Dev.engineChoice_mem (d : Dev) : (d.engineChoice).rst.mem = d.rst.mem := by
  simp only [Dev.engineChoice]
  (repeat' split) <;> simp
@[simp] theorem Dev.availableTest_mem (d : Dev) (c : Bool) : (d.availableTest c).rst.mem = d.rst.mem := by
  simp only [Dev.availableTest]
  simp
@[simp] theorem Dev.stage_mem (d : Dev) (r : Rec) : (d.stage r).rst.mem = d.rst.mem := by
  simp only [Dev.stage]; split <;> simp [Rst.afterJoin_mem, Rst.join]
@[simp] theorem Dev.drainDemand_mem (d : Dev) : (d.drainDemand).rst.mem = d.rst.mem := by
  simp [Dev.drainDemand, Rst.demand_mem]
@[simp] theorem Dev.confirmTo_mem (d : Dev) (n : Nat) : (d.confirmTo n).rst.mem = d.rst.mem := by
  simp only [Dev.confirmTo]
  (repeat' split) <;> simp
@[simp] theorem Dev.openJob_mem (d : Dev) (q s n : Nat) : (d.openJob q s n).rst.mem = d.rst.mem := by
  simp only [Dev.openJob]
  simp
@[simp] theorem Dev.itemGranted_mem (d : Dev) : (d.itemGranted).rst.mem = d.rst.mem := by
  simp only [Dev.itemGranted]
  (repeat' split) <;> simp
@[simp] theorem Dev.scan_mem (d : Dev) : (d.scan).rst.mem = d.rst.mem := by
  simp only [Dev.scan, Dev.availableTest_mem, Dev.engineChoice_mem, Dev.raiseIf_frame, Dev.setRst_rst, scanned]; (repeat' split) <;> simp [Rst.landed, Rst.placeAfter, Rst.start] <;> split <;> rfl
@[simp] theorem Dev.requestSession_mem (d : Dev) (r : Rec) : (d.requestSession r).rst.mem = d.rst.mem := by
  simp only [Dev.requestSession]
  (repeat' split) <;> simp
@[simp] theorem Dev.requestEvent_mem (d : Dev) (e : EventRec) : (d.requestEvent e).rst.mem = d.rst.mem := by
  simp only [Dev.requestEvent]
  (repeat' split) <;> simp
@[simp] theorem Dev.joinOnly_mem (d : Dev) (r : Rec) : (d.joinOnly r).rst.mem = d.rst.mem := by
  simp [Dev.joinOnly, Rst.afterJoin_mem, Rst.join]
@[simp] theorem Dev.stageHeldFrom_mem (l : List Rec) (d : Dev) : (Dev.stageHeldFrom l d).rst.mem = d.rst.mem := by
  induction l generalizing d with
  | nil => rfl
  | cons r l ih =>
    simp only [Dev.stageHeldFrom]
    split
    · rfl
    · rw [ih]; simp
@[simp] theorem Dev.stageHeld_mem (d : Dev) : (d.stageHeld).rst.mem = d.rst.mem := by
  simp [Dev.stageHeld]
@[simp] theorem Dev.beginMembership_mem (d : Dev) (x : Outlet) (v : Session) : (d.beginMembership x v).rst.mem = d.rst.mem := by
  simp only [Dev.beginMembership]
  simp
@[simp] theorem Dev.closePartial_mem (d : Dev) : (d.closePartial).rst.mem = d.rst.mem := by
  simp only [Dev.closePartial]
  (repeat' split) <;> simp
@[simp] theorem Dev.endMembership_mem (d : Dev) (c : LeaveCause) : (d.endMembership c).rst.mem = d.rst.mem := by
  simp only [Dev.endMembership]
  (repeat' split) <;> simp
@[simp] theorem Dev.meterSet_mem (d : Dev) (p : Int) : (d.meterSet p).rst.mem = d.rst.mem := by
  simp only [Dev.meterSet]
  (repeat' split) <;> simp
@[simp] theorem Dev.boundary_mem (d : Dev) (i : Option Nat) : (d.boundary i).rst.mem = d.rst.mem := by
  simp only [Dev.boundary]
  (repeat' split) <;> simp
@[simp] theorem Dev.advanceSecond_mem (d : Dev) : (d.advanceSecond).rst.mem = d.rst.mem := by
  simp only [Dev.advanceSecond]
  (repeat' split) <;> simp
@[simp] theorem Dev.adoptTime_mem (d : Dev) (t : TimeBody) : (d.adoptTime t).rst.mem = d.rst.mem := by
  simp only [Dev.adoptTime]
  (repeat' split) <;> simp
@[simp] theorem Dev.interruption_mem (d : Dev) (c : Bool) : (d.interruption c).rst.mem = d.rst.mem := by
  simp only [Dev.interruption]
  (repeat' split) <;> simp
@[simp] theorem Dev.leftClosed_mem (d : Dev) (o : Origin) : (d.leftClosed o).rst.mem = d.rst.mem := by
  simp only [Dev.leftClosed]
  simp
@[simp] theorem Dev.conChanged_mem (d : Dev) (x : Outlet) (c : CState) (o : Origin) : (d.conChanged x c o).rst.mem = d.rst.mem := by
  simp only [Dev.conChanged]
  (repeat' split) <;> simp
@[simp] theorem Dev.changeCon_mem (d : Dev) (x : Outlet) (c : Contactor) (o : Origin) : (d.changeCon x c o).rst.mem = d.rst.mem := by
  simp only [Dev.changeCon]
  simp
@[simp] theorem Dev.startClose_mem (d : Dev) (x : Outlet) : (d.startClose x).rst.mem = d.rst.mem := by
  simp only [Dev.startClose]
  simp
@[simp] theorem Dev.openRequest_mem (d : Dev) (x : Outlet) (o : Origin) : (d.openRequest x o).rst.mem = d.rst.mem := by
  simp only [Dev.openRequest]
  simp
@[simp] theorem Dev.takeHeld_mem (d : Dev) (x : Outlet) : (d.takeHeld x).rst.mem = d.rst.mem := by
  simp only [Dev.takeHeld]
  (repeat' split) <;> simp
@[simp] theorem Dev.becomeOpen_mem (d : Dev) (x : Outlet) (o : Origin) : (d.becomeOpen x o).rst.mem = d.rst.mem := by
  simp only [Dev.becomeOpen]
  simp
@[simp] theorem Dev.becomeClosed_mem (d : Dev) (x : Outlet) : (d.becomeClosed x).rst.mem = d.rst.mem := by
  simp only [Dev.becomeClosed]
  simp
@[simp] theorem Dev.bothChanged_mem (d : Dev) (p q : CState) (o : Origin) : (d.bothChanged p q o).rst.mem = d.rst.mem := by
  simp only [Dev.bothChanged]
  simp
@[simp] theorem Dev.trip_mem (d : Dev) (c : TripCause) (x : Option Outlet) : (d.trip c x).rst.mem = d.rst.mem := by
  simp only [Dev.trip]
  (repeat' split) <;> simp
@[simp] theorem Dev.closeFailed_mem (d : Dev) (x : Outlet) : (d.closeFailed x).rst.mem = d.rst.mem := by
  simp only [Dev.closeFailed]
  simp
@[simp] theorem Dev.openFailed_mem (d : Dev) (x : Outlet) : (d.openFailed x).rst.mem = d.rst.mem := by
  simp only [Dev.openFailed]
  simp
@[simp] theorem Dev.pulseEnd_mem (d : Dev) (x : Outlet) : (d.pulseEnd x).rst.mem = d.rst.mem := by
  simp only [Dev.pulseEnd]
  (repeat' split) <;> simp
@[simp] theorem Dev.confirmEnd_mem (d : Dev) (x : Outlet) : (d.confirmEnd x).rst.mem = d.rst.mem := by
  simp only [Dev.confirmEnd]
  (repeat' split) <;> simp
@[simp] theorem Dev.unexpectedClosure_mem (d : Dev) (x : Outlet) : (d.unexpectedClosure x).rst.mem = d.rst.mem := by
  simp only [Dev.unexpectedClosure]
  simp
@[simp] theorem Dev.auxEffect_mem (d : Dev) (x : Outlet) (c : Bool) : (d.auxEffect x c).rst.mem = d.rst.mem := by
  simp only [Dev.auxEffect]
  (repeat' split) <;> simp
@[simp] theorem Dev.auxLevel_mem (d : Dev) (x : Outlet) (c : Bool) : (d.auxLevel x c).rst.mem = d.rst.mem := by
  simp only [Dev.auxLevel]
  (repeat' split) <;> simp
@[simp] theorem Dev.takeMet_mem (d : Dev) : (d.takeMet).rst.mem = d.rst.mem := by
  simp only [Dev.takeMet]
  (repeat' split) <;> simp
@[simp] theorem Dev.busCrossing_mem (d : Dev) : (d.busCrossing).rst.mem = d.rst.mem := by
  simp only [Dev.busCrossing]
  (repeat' split) <;> simp
@[simp] theorem Dev.formingClose_mem (d : Dev) (x : Outlet) : (d.formingClose x).rst.mem = d.rst.mem := by
  simp only [Dev.formingClose]
  (repeat' split) <;> simp
@[simp] theorem Dev.judgeForming_mem (d : Dev) : (d.judgeForming).rst.mem = d.rst.mem := by
  simp only [Dev.judgeForming]
  (repeat' split) <;> simp
@[simp] theorem Dev.hocCycle_mem (d : Dev) : (d.hocCycle).rst.mem = d.rst.mem := by
  simp only [Dev.hocCycle]
  simp
@[simp] theorem Dev.openOwn_mem (d : Dev) : (d.openOwn).rst.mem = d.rst.mem := by
  simp only [Dev.openOwn]
  (repeat' split) <;> simp
@[simp] theorem Dev.lowLoadExpiry_mem (d : Dev) : (d.lowLoadExpiry).rst.mem = d.rst.mem := by
  simp only [Dev.lowLoadExpiry]
  (repeat' split) <;> simp
@[simp] theorem Dev.ctcMuted_mem (d : Dev) (c : Bool) : (d.ctcMuted c).rst.mem = d.rst.mem := by
  simp only [Dev.ctcMuted]
  (repeat' split) <;> simp
@[simp] theorem Dev.enterMuted_mem (d : Dev) : (d.enterMuted).rst.mem = d.rst.mem := by
  simp only [Dev.enterMuted]
  (repeat' split) <;> simp
@[simp] theorem Dev.ctcWarning_mem (d : Dev) : (d.ctcWarning).rst.mem = d.rst.mem := by
  simp only [Dev.ctcWarning]
  simp
@[simp] theorem Dev.mtrWarning_mem (d : Dev) : (d.mtrWarning).rst.mem = d.rst.mem := by
  simp only [Dev.mtrWarning]
  simp
@[simp] theorem Dev.rstWarning_mem (d : Dev) : (d.rstWarning).rst.mem = d.rst.mem := by
  simp only [Dev.rstWarning]
  simp
@[simp] theorem Dev.blocksWarned_mem (d : Dev) : (d.blocksWarned).rst.mem = d.rst.mem := by
  simp only [Dev.blocksWarned]
  simp
@[simp] theorem Dev.warn_mem (d : Dev) : (d.warn).rst.mem = d.rst.mem := by
  simp only [Dev.warn]
  (repeat' split) <;> simp
@[simp] theorem Dev.overTrip_mem (d : Dev) (c : Bool) : (d.overTrip c).rst.mem = d.rst.mem := by
  simp only [Dev.overTrip]
  (repeat' split) <;> simp
@[simp] theorem Dev.takeCrossings_mem (d : Dev) (p q : Bool) : (d.takeCrossings p q).rst.mem = d.rst.mem := by
  simp only [Dev.takeCrossings]
  (repeat' split) <;> simp
@[simp] theorem Dev.admitSet_mem (d : Dev) (q : Byte) (g : Nat) (c : Channels) : (d.admitSet q g c).rst.mem = d.rst.mem := by
  simp only [Dev.admitSet]
  simp
@[simp] theorem Dev.sampleSet_mem (d : Dev) (r : RawSet) : (d.sampleSet r).rst.mem = d.rst.mem := by
  simp only [Dev.sampleSet]
  (repeat' split) <;> simp
@[simp] theorem Dev.watchTimerExpiry_mem (d : Dev) : (d.watchTimerExpiry).rst.mem = d.rst.mem := by
  simp only [Dev.watchTimerExpiry]
  (repeat' split) <;> simp
@[simp] theorem Dev.overloadExpiry_mem (d : Dev) : (d.overloadExpiry).rst.mem = d.rst.mem := by
  simp only [Dev.overloadExpiry]
  (repeat' split) <;> simp
@[simp] theorem Dev.beginCycle_mem (d : Dev) (n : Nat) : (d.beginCycle n).rst.mem = d.rst.mem := by
  simp only [Dev.beginCycle]
  (repeat' split) <;> simp
@[simp] theorem Dev.cycleExpiry_mem (d : Dev) : (d.cycleExpiry).rst.mem = d.rst.mem := by
  simp only [Dev.cycleExpiry]
  simp
@[simp] theorem Dev.abandonClose_mem (d : Dev) : (d.abandonClose).rst.mem = d.rst.mem := by
  simp only [Dev.abandonClose]
  (repeat' split) <;> simp
@[simp] theorem Dev.takeLeave_mem (d : Dev) (x : Option Outlet) : (d.takeLeave x).1.rst.mem = d.rst.mem := by
  simp only [Dev.takeLeave]
  (repeat' split) <;> simp
@[simp] theorem Dev.assignTo_mem (d : Dev) (x : Outlet) : (d.assignTo x).1.rst.mem = d.rst.mem := by
  simp only [Dev.assignTo]
  (repeat' split) <;> simp
@[simp] theorem Dev.assign_mem (d : Dev) (c : Byte) : (d.assign c).1.rst.mem = d.rst.mem := by
  simp only [Dev.assign]
  (repeat' split) <;> simp
@[simp] theorem Dev.sessionGone_mem (d : Dev) : (d.sessionGone).rst.mem = d.rst.mem := by
  simp only [Dev.sessionGone]
  (repeat' split) <;> simp
@[simp] theorem Dev.closeSession_mem (d : Dev) (x : Outlet) : (d.closeSession x).rst.mem = d.rst.mem := by
  simp only [Dev.closeSession]
  (repeat' split) <;> simp
@[simp] theorem Dev.sessionClose_mem (d : Dev) (c : Byte) (n : Nat) : (d.sessionClose c n).1.rst.mem = d.rst.mem := by
  simp only [Dev.sessionClose]
  (repeat' split) <;> simp
@[simp] theorem Dev.collect_mem (d : Dev) (q p n : Nat) : (d.collect q p n).1.rst.mem = d.rst.mem := by
  simp only [Dev.collect]
  (repeat' split) <;> simp
@[simp] theorem Dev.faulty_mem (d : Dev) (i : Nat) : (d.faulty i).rst.mem = d.rst.mem := by
  simp only [Dev.faulty]
  (repeat' split) <;> simp
@[simp] theorem Dev.adoptOutside_mem (d : Dev) (m q : Nat) : (d.adoptOutside m q).rst.mem = d.rst.mem := by
  simp only [Dev.adoptOutside]
  simp
@[simp] theorem Dev.adoptEarly_mem (d : Dev) (m q : Nat) : (d.adoptEarly m q).rst.mem = d.rst.mem := by
  simp only [Dev.adoptEarly]
  simp
@[simp] theorem Dev.validMark_mem (d : Dev) (m q : Nat) (r : Int) : (d.validMark m q r).rst.mem = d.rst.mem := by
  simp only [Dev.validMark]
  (repeat' split) <;> simp
@[simp] theorem Dev.markCollision_mem (d : Dev) : (d.markCollision).rst.mem = d.rst.mem := by
  simp only [Dev.markCollision]
  (repeat' split) <;> simp
@[simp] theorem Dev.markHeard_mem (d : Dev) (b : List Byte) (r : Int) : (d.markHeard b r).rst.mem = d.rst.mem := by
  simp only [Dev.markHeard]
  (repeat' split) <;> simp
@[simp] theorem Dev.markReadBack_mem (d : Dev) (b : List Byte) (o : Bool) : (d.markReadBack b o).rst.mem = d.rst.mem := by
  simp only [Dev.markReadBack]
  (repeat' split) <;> simp
@[simp] theorem Dev.markReceived_mem (d : Dev) (b : List Byte) (r : MarkHeard) :
    (d.markReceived b r).rst.mem = d.rst.mem := by
  simp only [Dev.markReceived]
  (repeat' split) <;> simp
@[simp] theorem Dev.grant_mem (d : Dev) : (d.grant).2.rst.mem = d.rst.mem := by
  simp only [Dev.grant]
  (repeat' split) <;> simp
@[simp] theorem Dev.assemble_mem (d : Dev) : (d.assemble).rst.mem = d.rst.mem := by
  simp only [Dev.assemble]
  (repeat' split) <;> simp
@[simp] theorem Dev.listenSlot_mem (d : Dev) : (d.listenSlot).rst.mem = d.rst.mem := by
  simp only [Dev.listenSlot]
  (repeat' split) <;> simp
@[simp] theorem Dev.readBack_mem (d : Dev) (b : List Byte) (o : Bool) : (d.readBack b o).rst.mem = d.rst.mem := by
  simp only [Dev.readBack]
  (repeat' split) <;> simp
@[simp] theorem Dev.ownSlotEnd_mem (d : Dev) (b : List Byte) (o : Bool) : (d.ownSlotEnd b o).rst.mem = d.rst.mem := by
  simp only [Dev.ownSlotEnd]
  (repeat' split) <;> simp
@[simp] theorem Dev.timeHandOff_mem (d : Dev) (k : Nat) (b : List Byte) : (d.timeHandOff k b).rst.mem = d.rst.mem := by
  simp only [Dev.timeHandOff]
  (repeat' split) <;> simp
@[simp] theorem Dev.secondAdvance_mem (d : Dev) : (d.secondAdvance).rst.mem = d.rst.mem := by
  simp only [Dev.secondAdvance]
  (repeat' split) <;> simp
@[simp] theorem Dev.packingExpiry_mem (d : Dev) : (d.packingExpiry).rst.mem = d.rst.mem := by
  simp only [Dev.packingExpiry]
  (repeat' split) <;> simp
@[simp] theorem Dev.storeAbsoluteExpiry_mem (d : Dev) : (d.storeAbsoluteExpiry).rst.mem = d.rst.mem := by
  simp only [Dev.storeAbsoluteExpiry]
  (repeat' split) <;> simp

end Sys2Proof.Machine
end

