-- ==== Sys2Proof/Laws/Trip.lean ====
section
/-! SUPPORT. The trip, said once: what it leaves of every block (R82, R126). -/

namespace Sys2Proof.Machine

theorem Contactor.openRequested_from (c : Contactor) (w : Nat) : c.openRequestedFrom w (c.openRequested w) := by
  unfold Contactor.openRequestedFrom Contactor.openRequested
  split <;> (split <;> simp_all [Contactor.startOpen])

/-- A change of a contactor handed out while TRIPPED: f_ramp, join age and the membership may end, nothing of the trip is undone. -/
theorem Dev.conChanged_tripped (d0 d : Dev) (x : Outlet) (old : CState) (o : Origin) (hn : d.con x = .opened → d.con x = old)
    (hc : d.con x = .closed → d.con x = old)
    (hs : d.hoc.state = .tripped) (hd : d0.hoc.droppedFrom d.hoc) (hy : d0.syu.haltedFrom d.syu) (hm : d.syu.mode = .stopped) :
    (d.conChanged x old o).hoc.state = .tripped ∧ d0.hoc.droppedFrom (d.conChanged x old o).hoc ∧
      d0.syu.haltedFrom (d.conChanged x old o).syu ∧ (d.conChanged x old o).syu.mode = .stopped ∧
      (d.conChanged x old o).msu = d.msu := by
  unfold Dev.conChanged
  split
  · exact ⟨hs, hd, hy, hm, rfl⟩
  · rename_i hne
    split
    · have hno : d.con x ≠ .opened := fun e => hne (hn e)
      have hnc : d.con x ≠ .closed := fun e => hne (hc e)
      simp only [Dev.assignedChanged, hno, hnc, if_false]
      split <;> split <;>
        simp_all [Dev.leftClosed, Dev.assignedLeftClosed, Dev.rampTo, HState.isMember, Hoc.droppedFrom, Hoc.timersStopped,
          Syu.haltedFrom, Dev.setCellCh]
    · simp only [hs, reduceCtorEq, if_false]
      exact ⟨trivial, hd, hy, hm, trivial⟩

/-- TRIPPED entered: the run flag cleared and the handover controller's part (R20, R126). -/
theorem Dev.hocTrip_effect (d : Dev) :
    ((d.setSyu d.syu.clearRun).hocTrip).hoc.state = .tripped ∧ d.hoc.droppedFrom ((d.setSyu d.syu.clearRun).hocTrip).hoc ∧
      d.syu.haltedFrom ((d.setSyu d.syu.clearRun).hocTrip).syu ∧ ((d.setSyu d.syu.clearRun).hocTrip).syu.mode = .stopped := by
  refine ⟨?_, ?_, ?_, ?_⟩
  · simp [Dev.hocTrip, Dev.move, Hoc.enter]
  · simp [Dev.hocTrip, Dev.move, Hoc.enter, Hoc.droppedFrom, Hoc.timersStopped, keepIn, HState.isMember]
  · simp only [Dev.hocTrip, Dev.move, Syu.enter, Syu.setMode, Syu.haltedFrom, HState.mode]
    split <;> split <;> simp_all [Syu.clearRun, Syu.clearJoin]
  · simp only [Dev.hocTrip, Dev.move, Syu.enter, Syu.setMode, HState.mode]
    split <;> split <;> simp_all [Syu.clearRun, Syu.clearJoin]

/-- What stands of a trip whichever of its hand-outs comes first. -/
theorem Dev.bothChanged_tripped (d0 d : Dev) (oldA oldB : CState) (o : Origin)
    (ha : d.con .a = oldA ∨ d.con .a = .opening) (hb : d.con .b = oldB ∨ d.con .b = .opening)
    (hs : d.hoc.state = .tripped) (hd : d0.hoc.droppedFrom d.hoc) (hy : d0.syu.haltedFrom d.syu) (hm : d.syu.mode = .stopped) :
    (d.bothChanged oldA oldB o).hoc.state = .tripped ∧ d0.hoc.droppedFrom (d.bothChanged oldA oldB o).hoc ∧
      d0.syu.haltedFrom (d.bothChanged oldA oldB o).syu ∧ (d.bothChanged oldA oldB o).syu.mode = .stopped ∧
      (d.bothChanged oldA oldB o).msu = d.msu := by
  have h1 := Dev.conChanged_tripped d0 d .a oldA o (by rcases ha with h | h <;> simp [h]) (by rcases ha with h | h <;> simp [h])
    hs hd hy hm
  have hcon : (d.conChanged .a oldA o).con .b = d.con .b := by simp [Dev.con]
  have h2 := Dev.conChanged_tripped d0 (d.conChanged .a oldA o) .b oldB o
    (by rw [hcon]; rcases hb with h | h <;> simp [h]) (by rw [hcon]; rcases hb with h | h <;> simp [h]) h1.1 h1.2.1 h1.2.2.1 h1.2.2.2.1
  exact ⟨h2.1, h2.2.1, h2.2.2.1, h2.2.2.2.1, h2.2.2.2.2.trans h1.2.2.2.2⟩

/-- What the handover controller and the synthesis unit show after a trip. -/
def Dev.tripStands (d t : Dev) : Prop :=
  t.hoc.state = .tripped ∧ d.hoc.droppedFrom t.hoc ∧ d.syu.haltedFrom t.syu ∧ t.syu.mode = .stopped ∧ t.msu = d.msu

/-- A trip, whatever its cause and whichever hand-out comes first (R82, R126). -/
theorem Dev.trip_effect (d : Dev) (cause : TripCause) (on : Option Outlet) : d.trippedFrom (d.trip cause on) := by
  have key : ∀ e : Dev, d.tripStands e → e.ctc = d.ctc.tripped d.cfg.openPulse →
      d.tripStands (e.bothChanged (d.con .a) (d.con .b) .trip) := by
    intro e h hc
    have := Dev.bothChanged_tripped d e (d.con .a) (d.con .b) .trip ?_ ?_ h.1 h.2.1 h.2.2.1 h.2.2.2.1
    · exact ⟨this.1, this.2.1, this.2.2.1, this.2.2.2.1, this.2.2.2.2.trans h.2.2.2.2⟩
    all_goals
      simp only [Dev.con, hc, Ctc.tripped, Ctc.get, Contactor.openRequested_state]
      split <;> simp
  have h0 : d.tripStands ((d.setSyu d.syu.clearRun).hocTrip) := by
    obtain ⟨h1, h2, h3, h4⟩ := d.hocTrip_effect
    exact ⟨h1, h2, h3, h4, by simp⟩
  have hB : d.tripStands (d.trip cause on) := by
    simp only [Dev.trip]
    split
    · exact key _ (by simpa [Dev.tripStands] using h0) (by simp)
    · simp only [Dev.tripStands, Dev.requestEvent_frame]
      exact key _ (by simpa [Dev.tripStands] using h0) (by simp)
  refine ⟨hB.1, hB.2.1, hB.2.2.1, hB.2.2.2.1, ?_, ?_, by simp, by simp, by simp, by simp, hB.2.2.2.2, by simp⟩
  · rw [Dev.trip_ctc]; exact Contactor.openRequested_from _ _
  · rw [Dev.trip_ctc]; exact Contactor.openRequested_from _ _

end Sys2Proof.Machine
end

