-- ==== Sys2Proof/Tests/Slice0.lean ====
section
/-! SUPPORT. Tests: the WellFormed smoke, the worked values of the book, and for every statement with hypotheses a concrete state and operands that meet them, clause by clause. -/

namespace Sys2Proof.Tests

open Sys2Proof Sys2Proof.Machine

/-! ### Small states -/

def pins0 : Pins := ⟨5, false, false, false⟩
def head : OrderHead := ⟨1, 1, 0⟩
/-- A RUNNING part of station 5 with every block at its START values. -/
def up : Dev := { Dev.reset with run := .running, cfg := { Cfg.fallback with station := 5 } }
def st (d : Dev) : State := ⟨[], d⟩
def con (x : CState) : Contactor := { Contactor.start false with state := x }
def ses : Session := ⟨7, 60000, 6600, some 1000, 100, 50⟩
/-- The part assigned to A, in a handover state, with a state of contactor A. -/
def inState (h : HState) (a : CState) : Dev :=
  { up with hoc := { Hoc.start with assignment := some .a, state := h }, ctc := ⟨con a, con .opened⟩ }
/-- The same with the hoc record changed. -/
def withHoc (d : Dev) (f : Hoc → Hoc) : Dev := { d with hoc := f d.hoc }
def withLnk (d : Dev) (f : Lnk → Lnk) : Dev := { d with lnk := f d.lnk }
def withMsu (d : Dev) (f : Msu → Msu) : Dev := { d with msu := f d.msu }
def withRst (d : Dev) (f : Rst → Rst) : Dev := { d with rst := f d.rst }
def withSyn (d : Dev) (f : Syn → Syn) : Dev := { d with syn := f d.syn }
def withMtr (d : Dev) (f : Mtr → Mtr) : Dev := { d with mtr := f d.mtr }
/-- One peer entry filled. -/
def withPeer (d : Dev) (k : Nat) (e : PeerEntry) : Dev := { d with ptb := d.ptb.put k e }
/-- A ship adapter of A at station 9. -/
def withShip (d : Dev) (breaker : Bool) (generators : Nat) : Dev :=
  withPeer d 9 ⟨.live, 0, .vessel .a ⟨true, true, breaker, generators, 300⟩⟩
/-- A lead claimant of A at station 3 in a state. -/
def withLead (d : Dev) (h : HState) : Dev :=
  withPeer d 3 ⟨.live, 0, .cell ⟨some .a, h, .closed, .opened, 0, 0, 0, 500, 0, false, true, false⟩⟩
/-- A sample set whose check word is good. -/
def goodSet (r : RawSet) : RawSet := { r with check := setCheck r }
def zeroSet : RawSet := ⟨0, 0, 0, 0, 0, 0, 0, 0, 0, 0, 0, 0, 0⟩

/-! ### WellFormed: an ill-formed term for each check -/

theorem test_wf_mark : Instr.wf (.markReceived [1, 2, 3, 4, 5] (.other 0)) = false := by decide
theorem test_wf_heard : Instr.wf (.ownSlotEnd (List.replicate 59 0) false) = false := by decide
theorem test_wf_bulletin : Instr.wf (.bulletinReceived (List.replicate 59 0) 0) = false := by decide
theorem test_wf_slot : Instr.wf (.slotEnd ⟨0, pins0⟩) = false ∧ Instr.wf (.slotEnd ⟨32, pins0⟩) = false ∧ Instr.wf (.slotEnd ⟨31, pins0⟩) = true := by decide
theorem test_wf_sender : Instr.wf (.flush ⟨0, 1, 0⟩) = false ∧ Instr.wf (.flush ⟨32, 1, 0⟩) = false := by decide
theorem test_wf_target : Instr.wf (.assign ⟨1, 1, 32⟩ 1) = false ∧ Instr.wf (.unassign ⟨1, 1, 31⟩) = true := by decide
theorem test_wf_tariff : Instr.wf (.tariff head 1 []) = false := by decide
theorem test_wf_acknowledge : Instr.wf (.acknowledgeNotices head 1 [1]) = false := by decide
theorem test_wf_unknown : Instr.wf (.unknownOrder head 13) = false ∧ Instr.wf (.unknownOrder head 14) = true := by decide
theorem test_wf_orders :
    ([.sessionOpen ⟨0, 0, 0⟩ ⟨1, 0, 0, 0, 0, 0, 0⟩, .sessionClose ⟨0, 0, 0⟩ 1 0, .startTransfer ⟨0, 0, 0⟩ 1, .startDeparture ⟨0, 0, 0⟩ 1,
      .clearTrip ⟨0, 0, 0⟩, .collect ⟨0, 0, 0⟩ 0 1, .confirm ⟨0, 0, 0⟩ 0, .restart ⟨0, 0, 0⟩ pins0] : List Instr).all
      (fun i => !i.wf) = true := by decide

/-! ### The table gives no bits, so no word spells a command -/

theorem test_decode_none : decodeTableWord 0 0 = none ∧ decodeTableWord 32 4096 = none := by decide
theorem test_fetch_unchanged : State.reset.withFetchWord 8 1 = State.reset := by rfl

/-! ### Worked values of the book -/

/-- R26: the four increments and the wrap. -/
theorem test_increments :
    phaseIncrement 60000 = 26843546 ∧ phaseIncrement 50000 = 22369621 ∧ phaseIncrement 47500 = 21251140 ∧
      phaseIncrement 62500 = 27962027 ∧ (4280000000 + 26521423) % 4294967296 = 11554127 := by decide
/-- R3: the calibration and its saturation. -/
theorem test_calibrate :
    calibrate 0x8000#16 16384 = -32767 ∧ calibrate (BitVec.ofNat 16 30000) 20480 = 32767 ∧ calibrate 100#16 16384 = 100 := by decide
/-- R7: the arming level of 6600 V. -/
theorem test_arming : armingLevel 6600 = 466 := by decide
/-- R8: the limits of the period and the frequency of 60 Hz. -/
theorem test_period : periodValid 35109 = true ∧ periodValid 35108 = false ∧ periodValid 61440 = true ∧ periodValid 61441 = false ∧
    periodFreq 40960 = 60000 := by decide
/-- R43, Table 12-1: a mark read back. -/
theorem test_mark : decodeMark (encodeMark 65535 31) = some (65535, 31) ∧ decodeMark [165, 0, 0, 1, 0, 0] = none := by decide +kernel
/-- R178: the check word of nothing is all ones; the erased word is all ones. -/
theorem test_crc_start : crc16 [] = 0xFFFF#16 ∧ crc32 [] = 0#32 := by decide
/-- R178: most significant byte first. -/
theorem test_byte_order : natBe 2 0x1234 = [0x12, 0x34] ∧ beNat [0x12, 0x34] = 0x1234 ∧ beInt [0xFF, 0xFE] = -2 := by decide
/-- R93: folding into the half-open turn. -/
theorem test_fold : foldTenths 1800 = -1800 ∧ foldTenths 1799 = 1799 ∧ foldTenths (-1800) = -1800 ∧ foldTenths 3605 = 5 := by decide
/-- R140: the class of the last band that has begun. -/
theorem test_rate : rateClass [⟨0, 1⟩, ⟨360, 2⟩, ⟨1320, 0⟩] 359 = 1 ∧ rateClass [⟨0, 1⟩, ⟨360, 2⟩, ⟨1320, 0⟩] 360 = 2 ∧
    rateClass [⟨0, 1⟩, ⟨360, 2⟩, ⟨1320, 0⟩] 1439 = 0 := by decide
/-- R131: one watt-hour leaves the residue at 345 600 000 units, and one goes out below it. -/
theorem test_watt_hour :
    ((Mtr.start.count 345600000).residue, (Mtr.start.count 345600000).interval.importWh, (Mtr.start.count (-345600001)).residue,
      (Mtr.start.count (-345600001)).interval.exportWh, (Mtr.start.count 345599999).interval.importWh) = (0, 1, -1, 1, 0) := by decide
/-- R73, Table 5-3: the auxiliary contact opens under a CLOSED record. -/
theorem test_aux_drop : ((inState .off .closed).auxEffect .a false).con .a = .opened := by decide
/-- R15: the second over-level set of a run, and the count after a low one. -/
theorem test_overcurrent : ocNext 1 true = 2 ∧ ocNext 2 true = 2 ∧ ocNext 1 false = 0 := by decide
/-- R12: DEAD below a tenth, LIVE from eight tenths. -/
theorem test_bus_condition :
    busCondOf 659 6600 = .dead ∧ busCondOf 660 6600 = .uncertain ∧ busCondOf 5280 6600 = .live ∧ busCondOf 5279 6600 = .uncertain := by decide
/-- R147: the protected count. -/
theorem test_protected : readProtect [(0, 0), (1, 0), (2, 0), (3, 4)] = (4, false) ∧ readProtect [] = (8, true) := by decide
/-- R133: the last second of a day. -/
theorem test_midnight :
    ({ Mtr.start with day := 65535, second := 86399, cycleCount := 500 }.nextSecond.day,
      { Mtr.start with day := 65535, second := 86399, cycleCount := 500 }.nextSecond.second) = (0, 0) := by decide
/-- Tables 1-4 and 1-5: the capture, the period, the frequency, and the two phase differences. -/
theorem test_worked_crossing :
    captureTime 1152 0 900 (some (-2700)) = 294848 ∧ 294848 - 254003 = 40845 ∧ periodFreq 40845 = 60169 ∧
      phaseTenths 294700 294848 40845 = 13 ∧ phaseTenths 295348 294848 40845 = -45 := by decide

/-- R13: the product with the voltages two sets earlier, and 0 with none so early. -/
theorem test_reactive :
    let c : Channels := { Channels.zero with ia := 3, ib := 5, ic := 7 }
    let m (k : Nat) : Msu := { up.msu with delayK := some k, delayLine := [(1, 1, 1), (10, 20, 30)] }
    ((m 2).reactive c, (m 3).reactive c) = (340, 0) := by decide

/-! ### Witnesses: concrete states that meet the hypotheses of the statements, clause by clause -/

theorem witness_StepRunsFrontCommand : ∃ s c rest, State.pending s = c :: rest := ⟨⟨[.powerFail], Dev.reset⟩, _, _, rfl⟩
theorem witness_StepIdlesOnEmptyQueue : State.reset.pending = [] := rfl
theorem witness_PartNotUp : ∃ (c : Instr) (s : State), ¬s.dev.awake ∧ c ≠ .supplyWarning ∧ c ≠ .powerFail ∧
    ∀ p, c ≠ .powerUp p ∧ c ≠ .resetPin p ∧ c ≠ .supplyWarningClear p :=
  ⟨.sendMark, State.reset, by decide, nofun, nofun, fun _ => ⟨nofun, nofun, nofun⟩⟩
theorem witness_StartCauses :
    (∃ s : State, s.dev.run = .unpowered) ∧ (∃ s : State, s.dev.run = .starting) ∧ (∃ s : State, s.dev.run = .running) ∧
      (∃ s : State, s.dev.run = .shutdown) ∧
      ∃ (s : State) (h : OrderHead), s.dev.takes h ∧ s.dev.ctc.bothOpen = true ∧ s.dev.hoc.state.isMember = false :=
  ⟨⟨st { up with run := .unpowered }, rfl⟩, ⟨State.reset, rfl⟩, ⟨st up, rfl⟩, ⟨st { up with run := .shutdown }, rfl⟩, st up, head,
    by decide⟩
/-- One block of a chain with its next offset and its check word; the five mandatory blocks, every value 0, and a store that holds them. -/
def chainBlock (next : Nat) (x : Nat × List Byte) : List Byte :=
  let b := [BitVec.ofNat 8 x.1, BitVec.ofNat 8 x.2.length] ++ natBe 2 next ++ x.2
  b ++ natBe 4 (crc32 b).toNat
def chainBlocks : List (Nat × List Byte) :=
  [(1, List.replicate 4 0), (2, List.replicate 5 0), (3, List.replicate 4 0), (4, List.replicate 8 0), (5, List.replicate 22 0)]
def chainMem : List Host.Cell := memWriteBytes [] 4 ((chainBlocks.zip [16, 29, 41, 57, 0]).flatMap (fun x => chainBlock x.2 x.1))
theorem chain_cons {m : List Host.Cell} {limit off id : Nat} {b : List Byte} {rest : List (Nat × List Byte)} (n : Nat)
    (h : (off + 8 + b.length ≤ limit ∧ (memRead m off).toNat = id ∧ (memRead m (off + 1)).toNat = b.length ∧
      memReadBytes m (off + 4) b.length = b ∧
      memReadBytes m (off + 4 + b.length) 4 = natBe 4 (crc32 (memReadBytes m off (4 + b.length))).toNat) ∧
      beNat (memReadBytes m (off + 2) 2) = n ∧ (rest = [] ↔ n = 0) ∧ n < limit)
    (t : rest ≠ [] → chainAt m limit n rest) : chainAt m limit off ((id, b) :: rest) := by
  obtain ⟨⟨h1, h2, h3, h4, h5⟩, rfl, h6, h7⟩ := h
  exact ⟨h1, h2, h3, h4, h5, h6, fun hr => ⟨h7, t hr⟩⟩
/-- The chain of the five blocks is clean, and one whose first block has a bad check word is not. -/
theorem chain_clean : cleanChain chainMem 8192 chainBlocks := by
  refine ⟨chain_cons 16 (by decide +kernel) fun _ => chain_cons 29 (by decide +kernel) fun _ => chain_cons 41 (by decide +kernel) fun _ =>
    chain_cons 57 (by decide +kernel) fun _ => chain_cons 0 (by decide +kernel) fun h => absurd rfl h, by decide, by decide, ?_, ?_⟩
  · intro i h1 h2; interval_cases i <;> decide
  · intro x hx n hn
    simp only [chainBlocks, List.mem_cons, List.not_mem_nil, or_false] at hx
    rcases hx with rfl | rfl | rfl | rfl | rfl <;> simp at hn ⊢ <;> omega
theorem chain_bad : ¬∃ blocks, cleanChain [(5, 0)] 8192 blocks := by
  rintro ⟨blocks, h, -⟩
  match blocks, h with
  | (id, b) :: rest, ⟨_, _, hl, _, hc, _⟩ =>
    rw [← hl] at hc
    revert hc
    decide +kernel
/-- An unpowered part and powered ones over stores whose bytes keep the canonical form: an erased one, one with a clean chain, one with a bad slot in
the ring, and one whose ring holds a SESSION_JOIN. -/
theorem witness_StartReadsTheStore :
    let off (m : List Host.Cell) : Dev := { up with run := .unpowered, rst := Rst.start m 8 }
    (off []).run = .unpowered ∧ (off []).rst.mem = [] ∧ memWf ([] : List Host.Cell) ∧ memWf chainMem ∧ (off chainMem).rst.mem = chainMem ∧
      memWf up.rst.settledMem ∧ up.run ≠ .unpowered ∧ ({ up with run := .shutdown } : Dev).run = .shutdown ∧ memWf [((8192 : Nat), (0 : Byte))] ∧
      memRead [(8192, 0)] (256 * 32 + 0) ≠ 255 ∧ imageGood (memReadBytes [(8192, 0)] (256 * 32) 32) = false ∧
      imageGood (recordImage 5 (.sessionJoin ⟨7, .a, 60000, none⟩ none)) = true ∧ up.takes head ∧ up.ctc.bothOpen = true ∧
      up.hoc.state.isMember = false := by decide +kernel
/-- R162, R163, R144: the newest record in the last page of the ring; the position wraps to sector P, and its open membership is an INTERRUPTION. -/
theorem test_interruption :
    let d := ({ up with rst := Rst.start (memWriteBytes [] 65504 (recordImage 5 (.sessionJoin ⟨7, .a, 60000, none⟩ none))) 8 } : Dev).scan
    (d.rst.slots, d.rst.posSector, (d.interruption true).rst.staged) =
      ([⟨2047, 5⟩], 8, [(6, recordImage 6 (.interruption 7 true))]) := by decide +kernel
/-- The addresses on either side of page 0 of sector 8, and of sector 8, in operation. -/
theorem witness_PowerFail :
    ¬({ up.rst with engine := .programming 8 0 } : Rst).changing 8191 ∧ ¬({ up.rst with engine := .programming 8 0 } : Rst).changing 8320 ∧
      ({ up.rst with engine := .programming 8 0 } : Rst).changing 8319 ∧ ¬({ up.rst with engine := .erasing 8 } : Rst).changing 9216 := by
  simp [Rst.changing]
theorem witness_SupplyWarning :
    (∃ s : State, s.dev.run = .running ∧ s.dev.hoc.state ≠ .tripped) ∧ (∃ s : State, s.dev.run = .running ∧ s.dev.hoc.state = .tripped) :=
  ⟨⟨st up, by decide⟩, st (inState .tripped .opened), by decide⟩
/-- A record, and a part whose staging queue is full. -/
def exRec : Rec := .interruption 7 false
def full16 (d : Dev) : Dev := withRst d (fun r => { r with queue := List.replicate 16 ⟨1, [], true⟩ })
/-- A member whose membership has metered a set. -/
def metered : Dev := withMtr (inState .onBus .closed) (fun m => { m with
  membership := some ⟨7, .a, 60000, none⟩, interval := { m.interval with metered := true } })
/-- The warning with a membership and without one; entries free, one free, none; held records; a busy engine, a FULL store, and an idle engine. -/
theorem witness_WarningRecords :
    let busy := withRst metered (fun r => { r with engine := .erasing 9 })
    let e : Staged := ⟨5, [], false⟩
    metered.run = .running ∧ metered.mtr.holder = [] ∧ metered.rst.newest < 4294967290 ∧ 2 ≤ metered.rst.free ∧ (full16 metered).rst.free = 0 ∧
      (metered.mtr.leaveRecords ⟨7, .a, 60000, none⟩ .power).length = 2 ∧ up.mtr.membership = none ∧
      (withMtr metered (fun m => { m with holder := [exRec] })).mtr.holder.length ≤ 2 ∧ busy.rst.engine ≠ .idle ∧ busy.rst.waiting = [] ∧
      (withRst up (fun r => { r with engine := .erasing 9, queue := [e] })).rst.waiting = [] ++ [e] ∧
      (withRst up (fun r => { r with full := true })).rst.full = true ∧ up.rst.job = none ∧ up.rst.full = false ∧ up.rst.posErased = true ∧
      (withRst up (fun r => { r with queue := [e] })).rst.queue ≠ [] ∧ up.rst.queue = [] := by decide
/-- R164, R177: whichever of the store and the meter takes the warning first, the demand covers the last record of the membership. -/
theorem test_warning_demand :
    let d := withRst { metered with run := .shutdown } (fun r => { r with engine := .erasing 9 })
    (d.rstWarning.blocksWarned.rst.drain, d.blocksWarned.rstWarning.rst.drain) = (some 2, some 2) := by decide
/-- R152, R163: page 0 of a USED sector is not erased, though its own slots are; of an ERASED one it is. -/
theorem test_page_zero :
    let r (u : Bool) : Rst := { Rst.start [(8320, 0)] 8 with table := (Rst.start [] 8).table.set 8 ⟨u, none⟩ }
    pageErased (r true).mem 8 0 = true ∧ (r true).posErased = false ∧ (r false).posErased = true := by decide
theorem good_check (r : RawSet) : setCheck (goodSet r) = (goodSet r).check := by simp only [goodSet, setCheck, rawChannels]
/-- Every good set is admitted by a part that has taken none. -/
theorem admits_good (d : Dev) (r : RawSet) (h : d.awake) (hs : d.msu.lastSeq = none) : d.admits (goodSet r) :=
  ⟨h, good_check r, by simp [hs]⟩
theorem witness_NotAdmitted :
    (∃ (s : State) (raw : RawSet), s.dev.awake ∧ setCheck raw ≠ raw.check) ∧
      ∃ (s : State) (raw : RawSet), s.dev.awake ∧ setCheck raw = raw.check ∧ s.dev.msu.lastSeq = some raw.seq :=
  ⟨⟨st up, zeroSet, by decide +kernel⟩, st (withMsu up (fun m => { m with lastSeq := some 0 })), goodSet zeroSet, by decide, good_check _, rfl⟩

theorem witness_Admitted :
    (∃ (s : State) (raw : RawSet), s.dev.admits raw ∧ (calibrated s.dev.cfg.gains raw).overLevel s.dev.cfg.iTrip) ∧
      (∃ (s : State) (raw : RawSet), s.dev.admits raw ∧ ¬(calibrated s.dev.cfg.gains raw).overLevel s.dev.cfg.iTrip) ∧
      ∃ (s : State) (raw : RawSet), s.dev.admits raw ∧ s.dev.positions raw = 2 :=
  ⟨⟨st up, goodSet { zeroSet with ia := 100 }, admits_good _ _ (by decide) rfl, by decide⟩,
    ⟨st up, goodSet { zeroSet with ia := 99 }, admits_good _ _ (by decide) rfl, by decide⟩,
    st (withMsu up (fun m => { m with lastSeq := some 254 })), goodSet zeroSet, ⟨by decide, good_check _, by decide⟩, by decide⟩
/-- A period of 35 109 units, the least that is valid, and one of 61 440, the greatest. -/
theorem witness_CellCrossing :
    let l : Channels := { Channels.zero with va := -1 }
    let raw := goodSet { zeroSet with va := 1 }
    let d (n old : Nat) := withMsu up (fun m => { m with
      setCount := n, lastSeq := some 255, lastSet := some l, cell := { Tracker.start with armed := true, capture := some old, count := 160 } })
    (∀ n old, (d n old).admits raw ∧ (d n old).positions raw = 1 ∧ (d n old).msu.lastSet = some l ∧
      (d n old).msu.cell.armed = true ∧ (d n old).msu.cell.capture = some old ∧ (d n old).msu.cell.count ≠ 0) ∧
    l.va - l.vb < 0 ∧ (calibrated up.cfg.gains raw).va - (calibrated up.cfg.gains raw).vb = 1 ∧
    captureTime 201 0 1 (some (-1)) - 16219 = 35109 ∧ captureTime 241 0 1 (some (-1)) - 128 = 61440 :=
  ⟨fun _ _ => ⟨⟨Or.inl rfl, good_check _, by simp [withMsu, goodSet, zeroSet]⟩, rfl, rfl, rfl, rfl, by simp [withMsu]⟩, by decide, by decide, by decide,
    by decide⟩
theorem witness_ReferencePort :
    (∃ (s : State) (raw : RawSet), s.dev.admits raw ∧ s.dev.syu.run = true ∧ s.dev.syu.mode = .forming ∧ s.dev.syu.firstStep = true) ∧
      (∃ (s : State) (raw : RawSet), s.dev.admits raw ∧ s.dev.syu.run = true ∧ s.dev.syu.firstStep = false) ∧
      ∃ (s : State) (raw : RawSet), s.dev.admits raw ∧ s.dev.syu.run = false :=
  ⟨⟨st { up with syu := { Syu.start with run := true, mode := .forming, firstStep := true } }, goodSet zeroSet,
      admits_good _ _ (by decide) rfl, rfl, rfl, rfl⟩,
    ⟨st { up with syu := { Syu.start with run := true } }, goodSet zeroSet, admits_good _ _ (by decide) rfl, rfl, rfl⟩,
    st up, goodSet zeroSet, admits_good _ _ (by decide) rfl, rfl⟩
/-- A member metered under a session, with and without a membership, and a part that meters nothing. -/
theorem witness_MeteredSet :
    let d := withHoc (inState .onBus .closed) (fun h => { h with sessionA := some ses })
    (d.admits (goodSet zeroSet) ∧ ¬(calibrated d.cfg.gains (goodSet zeroSet)).overLevel d.cfg.iTrip ∧ d.run = .running ∧
        d.hoc.assignment = some .a ∧ d.con .a = .closed ∧ d.hoc.session .a = some ses ∧ d.mtr.membership = none) ∧
      ({ d with mtr := { d.mtr with membership := some ⟨7, .a, 60000, none⟩ } } : Dev).admits (goodSet zeroSet) ∧
      up.admits (goodSet zeroSet) ∧ up.ownCon ≠ some .closed ∧ d.mtr.holder = [] ∧ 1 ≤ d.rst.free ∧
      (∀ l, (withMtr d (fun m => { m with holder := l })).admits (goodSet zeroSet)) ∧ [exRec] ≠ [] ∧ [exRec].length < 2 ∧ 2 ≤ [exRec, exRec].length ∧
      (full16 d).admits (goodSet zeroSet) ∧ (full16 d).rst.free = 0 :=
  ⟨⟨admits_good _ _ (by decide) rfl, by decide, by decide, by decide, by decide, by decide, by decide⟩, admits_good _ _ (by decide) rfl,
    admits_good _ _ (by decide) rfl, by decide, by decide, by decide, fun _ => admits_good _ _ (Or.inl rfl) rfl, by decide, by decide, by decide,
    admits_good _ _ (by decide) rfl, by decide⟩
/-- The run counts 0, 1 and 2, a set at the level, one below it, and a saturated current at the highest level. -/
theorem witness_Overcurrent :
    (∀ n, n ≤ 2 → (withMsu up (fun m => { m with ocRun := n })).admits (goodSet { zeroSet with ic := -100 }) ∧
      (withMsu up (fun m => { m with ocRun := n })).msu.ocRun ≤ 2) ∧
      (calibrated up.cfg.gains { zeroSet with ic := -100 }).overLevel up.cfg.iTrip ∧
      ¬(calibrated up.cfg.gains { zeroSet with ic := -99 }).overLevel up.cfg.iTrip ∧
      (calibrated up.cfg.gains { zeroSet with ib := 0x8000 }).ib.natAbs = 32767 :=
  ⟨fun _ h => ⟨admits_good _ _ (Or.inl rfl) rfl, h⟩, by decide, by decide, by decide⟩
theorem witness_ProtectionTimers :
    let d (w : Bool) (g : Nat) (o : Option Nat) := withMsu up (fun m => { m with watch := w, setGap := g, overload := o })
    (∀ w g o, (d w g o).awake) ∧ (d false 0 none).msu.watch = false ∧ (d true 1 none).msu.setGap ≠ 2 ∧ (d true 2 none).msu.setGap = 2 ∧
      (d true 0 (some 96000)).msu.overload = some 96000 ∧ (∀ n, (d true 0 (some 95999)).msu.overload = some n → n < 96000) ∧
      (d true 2 none).mtr.membership = none ∧ (d true 2 none).mtr.holder = [] ∧ 4 ≤ (d true 2 none).rst.free ∧ (full16 (d true 2 none)).rst.free < 4 ∧
      (let e := withMsu (withMtr (inState .onBus .closed) (fun m => { m with membership := some ⟨7, .a, 60000, none⟩ }))
          (fun m => { m with watch := true, setGap := 2, overload := some 96000 })
       e.awake ∧ e.mtr.membership = some ⟨7, .a, 60000, none⟩ ∧ e.hoc.assignment = some .a ∧ e.con .a = .closed ∧ e.mtr.holder = [] ∧
         7 ≤ e.rst.free ∧ e.rst.newest < 4294967290 ∧ e.run = .running) :=
  ⟨fun _ _ _ => Or.inl rfl, rfl, by decide, rfl, rfl, fun n h => by cases h; omega, rfl, rfl, by decide, by decide, by decide⟩
theorem witness_FallbackClose :
    let d (n k : Nat) := withMsu up (fun m => { m with
      cell := { m.cell with fallback := n, count := k }, bus := { m.bus with fallback := n, count := k }, ship := { m.ship with fallback := n, count := k } })
    (∀ n k, (d n k).awake) ∧ 480 ≤ (d 480 0).msu.cell.fallback ∧ (d 480 0).msu.bus.count = 0 ∧ (d 480 1).msu.ship.count ≠ 0 ∧
      (d 479 1).msu.cell.fallback < 480 :=
  ⟨fun _ _ => Or.inl rfl, by decide, rfl, by decide, by decide⟩

/-- Sets that bring a tracker its first crossing, a crossing across missing positions, and a period of 35 108 units, one below the valid range; and none. -/
theorem witness_Crossings :
    let l : Channels := { Channels.zero with va := -1, vba := -1, vsa := -1 }
    let raw := goodSet { zeroSet with va := 1, vba := 1, vsa := 1 }
    let d (last : Byte) (old : Option Nat) (h : HState) := withMsu (inState h .opened) (fun m => { m with
      setCount := 200, lastSeq := some last, lastSet := some l, cell := { Tracker.start with armed := true, capture := old, count := 160 }
      bus := { Tracker.start with armed := true }, ship := { Tracker.start with armed := true } })
    (∀ last old h, last ≠ 0 → (d last old h).admits raw) ∧ (d 255 none .off).positions raw = 1 ∧ (d 254 none .off).positions raw = 2 ∧
      (∀ last old h, (d last old h).msu.cell.rises 1 (some (-1)) ∧ (d last old h).msu.bus.rises 1 (some (-1)) ∧
        (d last old h).msu.ship.rises 1 (some (-1))) ∧
      (d 255 none .off).msu.cell.capture = none ∧ (d 255 (some 16220) .off).msu.cell.capture ≠ none ∧
      capturedAt 1 201 1 (some (-1)) - 16220 = 35108 ∧ capturedAt 2 202 1 (some (-1)) = 51712 ∧ (d 255 none .off).hoc.assignment = some .a ∧
      up.hoc.assignment = none ∧ (∀ v w, ¬up.msu.cell.rises v w) :=
  ⟨fun last _ _ h => ⟨Or.inl rfl, good_check _, fun e => h (Option.some.inj e)⟩, rfl, rfl,
    fun _ _ _ => ⟨⟨rfl, by decide, -1, rfl, by decide⟩, ⟨rfl, by decide, -1, rfl, by decide⟩, rfl, by decide, -1, rfl, by decide⟩,
    rfl, by decide, by decide, by decide, rfl, rfl, fun _ _ h => absurd h.1 (by decide)⟩
/-- The synthesis modes of a cell with its run flag set: JOINING and no member, MATCHING, PARALLEL and ISLAND as a member. -/
theorem witness_ReferenceModes :
    let d (h : HState) (c : CState) (m : Mode) : Dev := { inState h c with syu := { Syu.start with run := true, mode := m } }
    (∀ h c m, (d h c m).admits (goodSet zeroSet)) ∧ (d .joining .opened .follow).ownMember = false ∧ (d .matching .closed .follow).ownMember = true ∧
      (d .onBus .closed .parallel).con .a = .closed ∧ (d .onBus .closed .parallel).hoc.leave = none ∧ (d .island .closed .island).syu.mode ≠ .stopped :=
  ⟨fun _ _ _ => admits_good _ _ (Or.inl rfl) rfl, by decide, by decide, rfl, rfl, by decide⟩

/-- A member at a superframe boundary and one cycle past it: the lead without a rival, and a cell that neither ranks first nor follows; a load at, above and
below the release level; a LEAVING cell. -/
theorem witness_Boundary :
    let d (h : HState) (lead : Bool) (n : Nat) : Dev := withLnk (withHoc { inState h .closed with syu := { Syu.start with run := true, mode := h.mode } }
      (fun x => { x with lead := lead, sessionA := some { ses with release := 300 }, lowestGen := some 350
                         leave := if h = .leaving then some ⟨none, .onBus⟩ else none })) (fun l => { l with cycle := n })
    (∀ h n, (d h true n).awake ∧ (d h true n).hoc.assignment = some .a ∧ (d h true n).con .a = .closed ∧ (d h true n).steady .a) ∧
      (withLead (d .parallelDown false 7) .releaseWait).steady .a ∧ (withLead (d .parallelDown false 7) .releaseWait).ptb.leadState .a = some .releaseWait ∧
      (d .leaving false 7).steady .a ∧ (d .parallelUp true 7).syu.bounded ∧ (7 + 1) % 8 = 0 ∧ (8 + 1) % 8 ≠ 0 ∧ (65535 + 1) % 8 = 0 ∧
      (d .parallelUp true 7).syu.mode ≠ .island ∧ (d .island true 7).syu.mode = .island ∧ (d .island true 7).syu.run = true ∧
      (d .parallelUp true 7).hoc.rampDone = false ∧ (d .parallelUp true 7).syu.limit = false ∧
      (withShip (d .parallelUp true 7) true 1).ptb.shipView .a = some ⟨true, true, true, 1, 300⟩ ∧ (d .parallelUp true 7).ptb.shipView .a = none ∧
      ¬((300 : Nat) : Int) < 300 ∧ ((299 : Nat) : Int) < 300 ∧ (300 : Int) ≤ 350 - 50 ∧ (d .parallelUp true 7).hoc.state.isMember = true := by
  have none_up : ∀ c ∈ up.ptb.leadClaimants .a, up.cfg.station ≤ c.1 := by decide
  refine ⟨fun h n => ⟨Or.inl rfl, rfl, rfl, Or.inl ⟨rfl, none_up⟩⟩, ?_, by decide, Or.inr ⟨rfl, by decide, by decide⟩, ⟨?_, ?_, ?_⟩, ?_⟩
  · exact Or.inr ⟨rfl, by decide, fun l h => by
      have h2 : HState.releaseWait = l := Option.some.inj (by rw [← h]; decide)
      subst h2; rfl⟩
  all_goals decide

/-- The cycle beginning of a FORMING cell: opposed, not carried, carried at 1, 2, and the refused close of a MUTED cell. Then refused closes by a closed
auxiliary contact where R112 still holds: on a DEAD, a LIVE and an UNCERTAIN bus; and an opposed claim there. -/
theorem witness_FormingClaim :
    let d (carried : Bool) (n : Nat) := withHoc (inState .forming .opened) (fun h => { h with
      forming := true, formingCount := n, claimCarried := carried })
    (d true 1).awake ∧ (d true 1).hoc.state = .forming ∧ (d true 1).hoc.assignment = some .a ∧ (d true 1).con .a = .opened ∧
      (withLead (d true 1) .onBus).opposed .a = true ∧ (d true 1).opposed .a = false ∧ (d false 2).hoc.claimCarried = false ∧
      (d true 1).hoc.formingCount < 2 ∧ (d true 2).closeRefusal .a = none ∧
      (withLnk (d true 2) (fun l => { l with state := .muted })).closeRefusal .a ≠ none ∧
      (let e (b : BusCond) : Dev := withLnk (withMsu (withHoc (withShip { d true 2 with ctc := ⟨{ con .opened with auxClosed := true }, con .opened⟩ } false 1)
          (fun h => { h with sessionA := some ses })) (fun m => { m with busCond := b })) (fun l => { l with state := .aligned })
       (e .dead).msu.busCond = .dead ∧ (e .live).msu.busCond = .live ∧ (e .uncertain).msu.busCond = .uncertain ∧ (e .dead).closeRefusal .a ≠ none ∧ (e .dead).opposed .a = false ∧ 2 ≤ (e .dead).hoc.formingCount ∧
         (e .dead).hoc.session .a ≠ none ∧ (e .dead).ptb.shipView .a = some ⟨true, true, false, 1, 300⟩ ∧ (e .dead).syn.cell.state = .idle ∧
         (e .dead).lnk.state = .aligned ∧ (e .dead).run = .running ∧ (e .dead).con .b = .opened ∧ (e .dead).con .a = .opened ∧
         (withLead (e .live) .onBus).opposed .a = true) := by decide
theorem witness_Lead :
    let d (lead : Bool) (n : Nat) := withHoc (inState .onBus .closed) (fun h => { h with lead := lead, leadCount := n })
    (d true 0).awake ∧ (d true 0).hoc.assignment = some .a ∧ (withLead (d true 0) .onBus).ptb.leadClaimants .a = [(3, .onBus)] ∧
      3 < up.cfg.station ∧ (d false 2).ptb.leadClaimants .a = [] ∧ (d false 2).ranksFirst .a = true ∧
      (withLead (d false 0) .matching).ptb.leadState .a = some .matching ∧
      (withLead (withHoc (d false 0) (fun h => { h with state := .island })) .departWait).ptb.leadState .a = some .departWait ∧
      (withShip (d false 0) true 1).generatorsOn = true := by decide
theorem witness_SendMark :
    let d (p : Option Nat) := withLnk up (fun l => { l with state := .aligned, contending := true, cycle := 65535, prevRef := p })
    (d none).awake ∧ (d none).lnk.state = .aligned ∧ (d none).lnk.contending = true ∧ (d none).cfg.station ≠ 0 ∧ (d none).cfg.station ≤ 31 ∧
      (d none).lnk.cycle ≤ 65535 ∧ (d (some 5)).lnk.prevRef = some (d none).cfg.station ∧ (d (some 6)).lnk.prevRef = some 6 ∧
      up.lnk.state ≠ .aligned := by decide
/-- The instants −16, 96, 97 and 3984 of a mark against an expiry due at 4000, and the records that an ALIGNED cell judges it by. -/
theorem witness_MarkHeard :
    let d (x : LinkState) (r : Option Nat) := withLnk up (fun l => { l with state := x, refSender := r })
    (d .listen none).awake ∧ decodeMark (encodeMark 8 4) = some (8, 4) ∧ decodeMark [] = none ∧ (d .listen none).lnk.markSender = false ∧
      (d .listen none).lnk.adopted = false ∧ (-16 : Int) < (d .listen none).lnk.nextExpiry - 16 ∧
      (97 : Int) < (d .listen none).lnk.nextExpiry - 16 ∧ (d .listen none).lnk.nextExpiry - 16 ≤ 3984 ∧
      (d .aligned (some 4)).lnk.refSender = some 4 ∧ (d .aligned (some 5)).lnk.refSender = some 5 := by decide +kernel
/-- A cell that has sent the mark of its cycle: a clean record and one with a fault; marks of stations 4 and 6 heard; its own mark read back. -/
theorem witness_MarkCollision :
    let d (f : List Bool) := withLnk up (fun l => { l with
      state := .aligned, markSender := true, refSender := some 5, faults := f, markTx := some (encodeMark 8 5) })
    (d []).awake ∧ (d []).lnk.state = .aligned ∧ (d []).lnk.markSender = true ∧ (d []).lnk.refSender = some (d []).cfg.station ∧
      decodeMark (encodeMark 8 6) = some (8, 6) ∧ (d []).cfg.station ≤ 6 ∧ 4 < (d []).cfg.station ∧ true ∉ (d []).lnk.faults.tail.take 7 ∧
      true ∈ (d [false, true]).lnk.faults.tail.take 7 ∧ (d []).lnk.markTx = some (encodeMark 8 5) ∧ (d []).lnk.markAge = 0 ∧
      encodeMark 8 5 ≠ [] ∧ up.lnk.markTx = none ∧
      ((([false, true] : List Bool) ++ List.replicate (1 + 1 - 2) false).set 1 true).count true < 2 ∧
      2 ≤ ((([true, false] : List Bool) ++ List.replicate (1 + 1 - 2) false).set 1 true).count true := by decide +kernel
theorem witness_Silence :
    let d (x : LinkState) (n k : Nat) := withLnk up (fun l => { l with state := x, silenceCount := n, loneCount := k })
    (d .listen 24 0).awake ∧ (d .listen 24 0).lnk.silenceCount ≠ 25 ∧ (d .listen 25 0).lnk.silenceCount = 25 ∧
      (d .aligned 0 50).lnk.loneCount = 50 ∧ (d .aligned 0 50).lnk.loneReported = false ∧ (d .aligned 0 49).lnk.loneCount ≠ 50 := by decide
theorem witness_OwnBulletin :
    let d := withLnk up (fun l => { l with state := .aligned })
    d.awake ∧ d.lnk.state = .aligned ∧ d.cfg.station ≠ 0 ∧ d.cfg.station ≤ 31 ∧ d.rst.job = none ∧ up.lnk.state ≠ .aligned ∧
      (List.replicate 32 (0 : Byte)).length ≤ 32 := by decide
theorem witness_AnnexArbiter :
    let d (lead : Bool) (h : HState) := withLnk (withHoc (inState h .closed) (fun x => { x with lead := lead, shedDue := some 1 }))
      (fun l => { l with state := .aligned })
    let p : ReplyPlace := ⟨.flush, 1, 1, some .accepted⟩
    (d true .matching).awake ∧ (d true .matching).lnk.state = .aligned ∧ (d true .matching).cfg.station ≠ 0 ∧
      (d true .matching).hoc.assignment = some .a ∧ (d true .island).hoc.shedDue ≠ none ∧
      (withSyn (d true .matching) (fun y => { y with ship := { y.ship with state := .met } })).syn.ship.state = .met ∧
      p.result ≠ none ∧ (d false .onBus).ntu.replies = [] ∧ (d false .onBus).ntu.queue = [] ∧ (d false .onBus).ntu.spacing = 8 ∧
      (d false .onBus).rst.job.bind Job.ready = none := by decide
/-- Nothing to announce: no assignment, no lead claim, a lead in ON_BUS and one in MATCHING whose channel is not MET; a job with each ready item. -/
theorem witness_NothingToAnnounce :
    let d (lead : Bool) (h : HState) := withLnk (withHoc (inState h .closed) (fun x => { x with lead := lead })) (fun l => { l with state := .aligned })
    let j (i : ReadyItem) (n : Nat) := withRst (d false .onBus) (fun r => { r with job := some ⟨1, 5, n, some i⟩ })
    ¬up.announces ∧ ¬(d false .island).announces ∧ ¬(d true .onBus).announces ∧ ¬(d true .matching).announces ∧ (d true .releaseWait).announces ∧
      (j (.record []) 1).rst.job = some ⟨1, 5, 1, some (.record [])⟩ ∧ 1 < 2 ∧ (j (.gone 4) 2).ntu.replies = [] ∧ (j (.finish 4) 2).rst.engine = .idle :=
  ⟨by simp [Dev.announces, up, Dev.reset, Hoc.start], by simp [Dev.announces, withHoc, withLnk, inState, Hoc.start],
    by simp [Dev.announces, withHoc, withLnk, inState], by simp [Dev.announces, withHoc, withLnk, inState, up, Dev.reset, Channel.start],
    ⟨by decide, rfl, Or.inr (Or.inl rfl)⟩, rfl, by decide, rfl, rfl⟩
/-- The CELL body's fields at the ends of their ranges. -/
theorem witness_CellBody :
    (∃ d : Dev, d.msu.p = -32767 ∧ d.msu.q = 32767 ∧ d.msu.pu = -32767 ∧ d.syu.fRamp = 3000 ∧ d.cfg.rating = 500 ∧ d.hoc.joinAge = 65535 ∧
      d.msu.bus.validFreq = some 69999) ∧ ∃ d : Dev, d.syu.fRamp = -3000 ∧ d.cfg.rating = 4000 ∧ d.msu.bus.validFreq = none :=
  ⟨⟨withHoc (withMsu { up with syu := { Syu.start with fRamp := 3000 } } (fun m => { m with
      p := -32767, q := 32767, pu := -32767, bus := { m.bus with freq := some 69999, freqValid := true } })) (fun h => { h with joinAge := 65535 }),
    by decide⟩, { up with syu := { Syu.start with fRamp := -3000 }, cfg := { up.cfg with rating := 4000 } }, by decide⟩
theorem witness_OwnSlotEnd :
    let d (x : LinkState) (n : Nat) (a c u : Bool) := withLnk (inState .off .closed) (fun l => { l with
      state := x, alignCount := n, adopted := a, ownCarrier := c, ownDuplicate := u })
    (d .listen 0 true false true).awake ∧ (d .listen 0 true false true).cfg.station ≠ 0 ∧ Cfg.fallback.station = 0 ∧
      (d .listen 0 true false true).con .a = .closed ∧ (d .listen 6 true false false).lnk.alignCount < 7 ∧
      7 ≤ (d .listen 7 true false false).lnk.alignCount ∧ (d .listen 7 true true false).lnk.ownCarrier = true ∧
      (d .aligned 0 true false false).lnk.tx = none ∧ true ∉ ([false, false, false, false, false, false, false, true] : List Bool).tail.take 6 ∧
      true ∈ ([false, false, false, false, false, false, false, true] : List Bool).tail.take 7 := by decide
/-- Receptions at the first and the last instant that belong to slot 1, and between slots, and at
the last and the first that keep the slot's edge and cross it; the own slot of station 5 before and after its start. -/
theorem witness_Reception :
    up.awake ∧ (125 * (1 : Nat) : Int) ≤ 125 - up.lnk.refInstant ∧ (145 : Int) - up.lnk.refInstant ≤ 125 * (1 : Nat) + 20 ∧
      (134 : Int) - up.lnk.refInstant ≤ 125 * (1 : Nat) + 9 ∧ 125 * (1 : Nat) + 9 < (135 : Int) - up.lnk.refInstant ∧ 1 ≠ up.cfg.station ∧
      crc16Good [] 58 = false ∧ up.cfg.accept.getLsbD 1 = true ∧ (withLnk up (fun l => { l with state := .muted })).lnk.state = .muted ∧
      crc16Good (withCrc16 (List.replicate 56 1)) 58 = true ∧ byteAt (withCrc16 (List.replicate 56 1)) 0 = 1 ∧
      byteAt (withCrc16 (List.replicate 56 1)) 1 = 1 ∧ (146 : Int) - up.lnk.refInstant > 125 + 20 := by decide +kernel
theorem witness_MissedSlot :
    let b : PeerBody := .cell ⟨some .a, .onBus, .closed, .opened, 0, 0, 0, 500, 0, false, false, false⟩
    let d (x : PeerState) (n : Nat) := withPeer (inState .onBus .closed) 1 ⟨x, n, b⟩
    (d .live 2).awake ∧ 1 ≠ up.cfg.station ∧ (d .live 2).lnk.rx = none ∧ (d .live 2).ptb.get 1 = ⟨.live, 2, b⟩ ∧
      (d .stale 49).ptb.get 1 = ⟨.stale, 49, b⟩ ∧ (d .absent 50).ptb.get 1 = ⟨.absent, 50, b⟩ ∧ (d .stale 49).hoc.assignment = some .a := by decide
theorem witness_CellBulletin :
    let good := ({ up with cfg := { up.cfg with station := 3 } } : Dev).bulletin .none
    let bad : List Byte := 3 :: 1 :: List.replicate 56 0
    (∀ b, (withLnk up (fun l => { l with rx := some (3, b) })).awake) ∧ byteAt good 1 = 1 ∧ (decodeCell (bulletinBody good)).isSome = true ∧
      byteAt bad 1 = 1 ∧ decodeCell (bulletinBody bad) = none := ⟨fun _ => Or.inl rfl, by decide +kernel⟩
/-- VESSEL bulletins of station 9: breaker closed with one generator on, a body out of range, and a cable that is not ready; facts acted on and facts of none;
a second adapter already counted. -/
theorem witness_VesselBulletin :
    let b (cable breaker generators : Byte) : List Byte := [9, 3, 0, 0, 1, cable, breaker, generators, 0, 0, 1] ++ List.replicate 47 0
    let d (h : HState) (a : CState) (x : List Byte) := withLnk (withHoc (inState h a) (fun y => { y with acted := some ⟨true, true, false, 0, 0⟩ }))
      (fun l => { l with rx := some (9, x) })
    (d .onBus .closed (b 1 1 1)).awake ∧ (d .onBus .closed (b 1 1 1)).lnk.rx = some (9, b 1 1 1) ∧ byteAt (b 1 1 1) 1 = 3 ∧ 9 ≠ up.cfg.station ∧
      decodeVessel (bulletinBody (b 1 1 1)) = some (.a, ⟨true, true, true, 1, 0⟩) ∧ decodeVessel (bulletinBody (b 2 1 1)) = none ∧
      decodeVessel (bulletinBody (b 0 0 0)) = some (.a, ⟨false, true, false, 0, 0⟩) ∧ (d .joining .opened (b 0 0 0)).con .a = .opened ∧
      (d .matching .closed (b 1 1 1)).hoc.state.isMember = true ∧ (inState .onBus .closed).hoc.acted = none ∧ up.hoc.assignment = none ∧
      (withPeer up 10 ⟨.live, 0, .vessel .a ⟨true, true, true, 1, 0⟩⟩).ptb.get 10 = ⟨.live, 0, .vessel .a ⟨true, true, true, 1, 0⟩⟩ ∧
      (up.ptb.get 9).state = .absent := by decide
/-- A FLUSH and an order of kind 14 in a TERMINAL bulletin of station 3. -/
theorem witness_OrderInBulletin :
    let bytes (k : Byte) : List Byte := [3, 2, 0, 0, 0, 0, 0, 0, 0, 0, 0, k, 7, 5] ++ List.replicate 44 0
    let d (k : Byte) := withLnk up (fun l => { l with rx := some (3, bytes k) })
    (d 11).awake ∧ (d 11).lnk.rx = some (3, bytes 11) ∧ byteAt (bytes 11) 1 = 2 ∧ decodeTime (bulletinBody (bytes 11)) = some ⟨0, 0, 0⟩ ∧
      orderRow 3 (bytes 11) pins0 = some (.flush ⟨3, 7, 5⟩) ∧ orderRow 3 (bytes 14) pins0 = some (.unknownOrder ⟨3, 7, 5⟩ 14) ∧
      orderRow 3 (bytes 13) pins0 = some (.restart ⟨3, 7, 5⟩ pins0) ∧ orderRow 3 (bytes 0) pins0 = none ∧ 3 ≠ up.cfg.station ∧
      (let bad := (bytes 11).set 9 255
       byteAt bad 1 = 2 ∧ decodeTime (bulletinBody bad) = none ∧ orderRow 3 bad pins0 = some (.flush ⟨3, 7, 5⟩)) ∧
      (up.ptb.get 3).body ≠ .vessel .a ⟨true, true, true, 1, 0⟩ ∧ ∀ j, j < 3 → (up.ptb.get j).state ≠ .live := by decide
theorem witness_TimeSource :
    let bytes : List Byte := 3 :: 2 :: List.replicate 56 0
    let d := withLnk up (fun l => { l with rx := some (3, bytes) })
    let e : Dev := withMtr d (fun m => { m with timeValid := true, cycleCount := 501 })
    d.awake ∧ d.lnk.rx = some (3, bytes) ∧ byteAt bytes 1 = 2 ∧ byteAt bytes 11 = 0 ∧ decodeTime (bulletinBody bytes) = some ⟨0, 0, 0⟩ ∧
      e.mtr.timeValid = true ∧ (d.ptb.get 1).state = .absent ∧
      (withPeer d 1 ⟨.live, 0, .terminal ⟨0, 0, 0⟩⟩).ptb.get 1 = ⟨.live, 0, .terminal ⟨0, 0, 0⟩⟩ := by decide

/-- Whatever the handover record, the contactors, the store and the measurements, the order path of `up` takes `head`. -/
theorem takes_up (d : Dev) (h1 : d.run = .running) (h2 : d.lnk = up.lnk) (h3 : d.ntu = up.ntu) : d.takes head := by
  have h : up.takes head := by decide
  exact ⟨h1, Or.inl rfl, h2 ▸ h.2.2.1, h3 ▸ h.2.2.2.1, h3 ▸ h.2.2.2.2⟩
theorem witness_OrderPath :
    up.awake ∧ Instr.head (.flush head) = some head ∧ Instr.head (.flush ⟨1, 1, 6⟩) = some ⟨1, 1, 6⟩ ∧ (6#8).toNat ≠ 0 ∧
      (6#8).toNat ≠ up.cfg.station ∧ (up.lnk.remember 1 (some 1)).remembered 1 = some 1 ∧ up.lnk.remembered head.sender ≠ some head.tag ∧
      4 ≤ (List.replicate 4 (⟨.flush, 1, 1, some .accepted⟩ : ReplyPlace)).length := by decide
theorem witness_OrdersRefused :
    (∃ (s : State) (c : Instr), s.dev.run = .shutdown ∧ c.head = some head ∧ orderKindOf c = some .flush ∧ head.target.toNat = 0 ∧
      s.dev.lnk.remembered head.sender ≠ some head.tag ∧ s.dev.ntu.replies.length < 4 ∧ s.dev.ntu.answered) ∧
      up.takes head ∧ (inState .onBus .closed).takes head ∧ (inState .onBus .closed).con .a ≠ .opened :=
  ⟨⟨st { up with run := .shutdown }, .flush head, by decide⟩, by decide⟩
def badUp : Dev := { up with cfg := { up.cfg with configBad := true } }
theorem witness_Assign_refused :
    up.takes head ∧ (0#8) ≠ 1 ∧ (0#8) ≠ 2 ∧ outletOfCode 1 = some .a ∧ badUp.takes head ∧ badUp.cfg.configBad = true ∧
      (inState .off .welded).takes head ∧ (inState .off .welded).con .a = .welded ∧ (inState .tripped .opened).takes head := by decide
def spent : Dev := withSyn (inState .assigned .opened) (fun y => { y with cell := { y.cell with state := .spent, attempts := 3 } })
theorem witness_Assign :
    up.hoc.state = .off ∧ up.hoc.assignment = none ∧ (inState .onBus .closed).takes head ∧ (inState .onBus .closed).hoc.assignment = some .a ∧
      (inState .leaving .closed).takes head ∧ (inState .leaving .closed).con .a ≠ .welded ∧ spent.takes head ∧ spent.hoc.state = .assigned ∧ spent.con .a ≠ .welded ∧ spent.con .b ≠ .welded := by decide
/-- A leave: OFF, LEAVING, before membership with a close in flight, ON_BUS, and ISLAND alone with the breaker closed, short of capacity, and with enough. -/
theorem witness_Leave :
    let d := inState .island .closed
    let p (n : Nat) := withPeer d 3 ⟨.live, 0, .cell ⟨some .a, .island, .closed, .opened, 100, 0, 0, n, 0, false, false, false⟩⟩
    up.takes head ∧ up.hoc.assignment = none ∧ (inState .leaving .closed).takes head ∧ (inState .forming .closing).con .a ≠ .closed ∧
      (inState .matching .closed).takes head ∧ outletOfCode 2 = some (otherOutlet .a) ∧ d.hoc.state.isLoaded = true ∧
      (withShip d true 0).ptb.members .a = [] ∧ (withShip d true 0).breakerClosed = true ∧ (p 109).takes head ∧ (p 109).ptb.members .a ≠ [] ∧
      ((p 109).capacitySum .a - (p 109).cfg.rating) * 10 < (p 109).outletTotal .a * 11 ∧
      ¬((p 110).capacitySum .a - (p 110).cfg.rating) * 10 < (p 110).outletTotal .a * 11 ∧ (inState .tripped .opened).takes head := by decide
theorem witness_SessionOpen :
    let f : SessionFields := ⟨1, 7, 50000, 400, 100, 20, 50⟩
    let d := withHoc up (fun h => { h with sessionA := some ses })
    up.takes head ∧ d.takes head ∧ outletOfCode f.outlet = some .a ∧ f.fNom.toNat = 50000 ∧ 400 ≤ f.vNom.toNat ∧ 100 ≤ f.demand.toNat ∧
      20 ≤ f.closing.toNat ∧ 50 ≤ f.release.toNat ∧ d.hoc.session .a = some ses ∧ ses.id = f.id.toNat ∧ ses.id ≠ (8#32).toNat ∧
      up.hoc.session .a = none ∧ ¬(400 ≤ (399#16).toNat) := by decide
theorem witness_SessionClose :
    let d (h : HState) (a : CState) := withHoc (inState h a) (fun x => { x with sessionA := some ses })
    (d .assigned .opened).takes head ∧ up.hoc.session .a = none ∧ (d .assigned .opened).hoc.session .a = some ses ∧ ses.id = (7#32).toNat ∧
      ses.id ≠ (8#32).toNat ∧ (withShip (d .island .closed) true 1).ptb.shipView .a = some ⟨true, true, true, 1, 300⟩ ∧
      (d .island .closed).ptb.shipView .a = none ∧ (d .leaving .closed).hoc.assignment = some .a ∧
      (d .island .closed).hoc.state.isMember = true ∧ (withHoc up (fun x => { x with sessionA := some ses })).hoc.assignment ≠ some .a := by decide
/-- START TRANSFER at a lead in PARALLEL_HOLD, and in ON_BUS before a ship that is ready: its contracted demand of 1000 kW over 500 kW, and 500 over 500. -/
theorem witness_StartTransfer :
    let d (h : HState) (lead : Bool) (n : Nat) := withHoc (inState h .closed) (fun x => { x with
      lead := lead, sessionA := some { ses with demand := some n } })
    let s (n : Nat) := withShip (d .onBus true n) false 1
    (s 1000).takes head ∧ up.hoc.assignment ≠ some .a ∧ (d .onBus false 0).hoc.lead = false ∧ (d .onBus false 0).hoc.state.isMember = true ∧
      (d .parallelHold true 0).hoc.state = .parallelHold ∧ (s 1000).ptb.shipView .a = some ⟨true, true, false, 1, 300⟩ ∧
      (s 1000).hoc.session .a = some { ses with demand := some 1000 } ∧ (s 1000).capacitySum .a < 1000 ∧ ¬(s 500).capacitySum .a < 500 ∧
      (d .onBus true 0).ptb.shipView .a = none ∧ (d .island true 0).hoc.state.isMember = true := by decide
theorem witness_StartDeparture :
    let d (h : HState) := withHoc (inState h .closed) (fun x => { x with lead := true })
    (d .island).takes head ∧ (d .island).hoc.assignment = some .a ∧ (d .parallelUp).hoc.lead = true ∧
      (withShip (d .island) true 1).ptb.shipView .a = some ⟨true, true, true, 1, 300⟩ ∧ (d .island).ptb.shipView .a = none ∧
      (d .onBus).hoc.state.isMember = true := by decide
theorem witness_ClearTrip :
    let d := inState .tripped .opened
    d.takes head ∧ (inState .tripped .welded).con .a = .welded ∧ up.hoc.state ≠ .tripped ∧ (inState .tripped .opening).con .a ≠ .opened ∧
      d.con .a = .opened ∧ d.con .b = .opened ∧ (withMsu d (fun m => { m with setGap := 3 })).msu.setGap = 3 ∧ d.lnk.state ≠ .muted ∧
      d.msu.setGap ≠ 3 ∧ d.msu.ocRun ≠ 2 ∧ (withHoc d (fun h => { h with assignment := none })).hoc.assignment = none := by decide
/-- Six bands up to the last minute of the day; a first band that begins at minute 1 is no schedule. -/
theorem witness_Tariff :
    let g : List (BitVec 16 × Byte) := [(0, 0), (1, 1), (2, 2), (3, 3), (1438, 0), (1439, 3)]
    up.takes head ∧ tariffValid 6 (tariffBands 6 g) = true ∧ tariffValid 0 (tariffBands 0 g) = false ∧
      tariffValid 1 (tariffBands 1 [(1, 0)]) = false ∧ tariffValid 6 (tariffBands 6 (g.dropLast ++ [(1440, 3)])) = false := by decide
theorem witness_Collect :
    let e : Staged := ⟨5, [], false⟩
    let d := withRst up (fun r => { r with queue := [e], oldest := some 5, newest := 5 })
    up.takes head ∧ d.takes head ∧ (64#8).toNat ≤ 64 ∧ 64 < (65#8).toNat ∧ (0#8).toNat < 1 ∧ d.rst.engine = .idle ∧
      (withRst up (fun r => { r with engine := .erasing 9 })).rst.engine ≠ .idle ∧ (4#32).toNat < 5 ∧ (∀ n ∈ d.rst.heldSeqs, n < (6#32).toNat) ∧
      d.rst.queue.find? (fun q => q.seq == (5#32).toNat) = some e ∧ (∀ g ∈ d.rst.slots, g.seq ≠ (5#32).toNat) := by decide
theorem witness_Confirm :
    let d := withRst up (fun r => { r with newest := 5, mark := 3, posPage := 7, full := true, engine := .erasing 9 })
    d.takes head ∧ min (3#32).toNat d.rst.newest ≤ d.rst.mark ∧ d.rst.mark < min (4#32).toNat d.rst.newest ∧ d.rst.engine ≠ .idle ∧
      d.rst.posPage = 7 ∧ d.rst.full = true := by decide
/-- A FULL store: its engine IDLE over a page that is not erased, and a mark that makes the sector eligible, or leaves it so. And a pre-erase that falls due. -/
theorem witness_ConfirmWhileFull :
    let d (high : Nat) := withRst up (fun r => { r with
      newest := 5, mark := 3, full := true, mem := [(8192, 0)], table := Vector.replicate 64 ⟨true, some high⟩ })
    let e := withRst (d 4) (fun r => { r with full := false, posPage := 7 })
    (d 4).takes head ∧ (d 4).rst.mark < min (4#32).toNat (d 4).rst.newest ∧ (d 4).rst.engine = .idle ∧ (d 4).rst.job = none ∧
      (d 4).rst.full = true ∧ (d 4).rst.posErased = false ∧ ({ (d 4).rst with mark := 4 } : Rst).eligible (d 4).rst.posSector = true ∧
      ({ (d 5).rst with mark := 4 } : Rst).eligible (d 5).rst.posSector = false ∧ e.takes head ∧ e.rst.posErased = true ∧ e.rst.full = false ∧
      (e.rst.line (e.rst.next e.rst.posSector)).used = true ∧ ({ e.rst with mark := 4 } : Rst).eligible (e.rst.next e.rst.posSector) = true := by decide
/-- A record in slot 256 of the ring, erased bytes of a bad check word; and one whose check word is good. -/
theorem witness_CollectFromRing :
    let image := recordImage 5 (.interruption 7 false)
    let d (m : List Host.Cell) := withRst up (fun r => { r with slots := [⟨256, 5⟩], oldest := some 5, newest := 5, mem := m })
    let good := memWriteBytes [] 8192 image
    (d []).takes head ∧ (d []).rst.engine = .idle ∧ (d []).rst.oldest = some 5 ∧ (5#32).toNat ≤ 5 ∧ (∀ k ∈ (d []).rst.heldSeqs, 5 ≤ k) ∧
      (d []).rst.slots.find? (fun q => q.seq == 5) = some ⟨256, 5⟩ ∧ imageGood (memReadBytes [] (256 * 32) 32) = false ∧
      imageGood (memReadBytes good (256 * 32) 32) = true := by decide +kernel
theorem witness_Drain :
    let e : Staged := ⟨5, [], false⟩
    let d := withRst up (fun r => { r with queue := [e], newest := 5, packTimer := some 2000, absTimer := some 10000 })
    d.takes head ∧ d.awake ∧ d.rst.packTimer ≠ none ∧ d.rst.absTimer ≠ none ∧ d.rst.engine = .idle ∧ d.rst.job = none ∧ d.rst.posErased = true ∧
      d.rst.preErase = false ∧ d.rst.full = false ∧ d.rst.queue ≠ [] ∧ (∀ q ∈ d.rst.queue, q.inProgram = false) ∧ d.rst.waiting = [] ++ [e] ∧
      (withRst d (fun r => { r with full := true })).rst.full = true ∧ up.rst.packTimer = none ∧ up.rst.waiting = [] ∧ up.rst.posErased = true ∧ (withRst d (fun r => { r with engine := .erasing 9 })).rst.engine ≠ .idle := by decide
/-- A list of kind 1 and kind 28; 0 and 29 name no kind; 28 codes are the most. -/
theorem witness_Acknowledge :
    up.takes head ∧ (∀ c ∈ ([1, 28] : List Byte), 1 ≤ c.toNat ∧ c.toNat ≤ 28) ∧ ([1, 28] : List Byte).length = (2#8).toNat ∧
      (List.replicate 28 (1 : Byte)).length = (28#8).toNat ∧ ¬(1 ≤ (0#8).toNat) ∧ ¬((29#8).toNat ≤ 28) ∧
      BitVec.ofNat 8 (NoticeKind.configBad.idx.val + 1) = 28 ∧ BitVec.ofNat 8 (NoticeKind.openFail.idx.val + 1) ∉ ([1, 28] : List Byte) := by decide

/-- An auxiliary level in every state of the record, and with the other record OPEN and not OPEN. -/
theorem witness_AuxLevel :
    let d (x : CState) (p : CPhase) (aux : Bool) (h : HState) : Dev :=
      { inState h x with ctc := ⟨{ con x with phase := p, auxClosed := aux }, con .opened⟩ }
    (d .closed .idle true .onBus).awake ∧ ((d .closed .idle true .onBus).ctc.get .a).auxClosed ≠ false ∧
      ((d .welded .idle true .off).ctc.get .a).state = .welded ∧ ((d .closing .pulse false .joining).ctc.get .a).phase = .pulse ∧
      ((d .closing .gap false .joining).ctc.get .a).phase ≠ .pulse ∧ (d .closing .gap false .joining).hoc.state = .joining ∧
      (d .closing .confirm false .forming).hoc.state = .forming ∧ (d .closed .idle true .onBus).hoc.state.isMember = true ∧
      (d .closed .idle true .leaving).hoc.state = .leaving ∧ ((d .opening .confirm true .leaving).ctc.get .a).state = .opening ∧
      (d .opened .idle false .off).con .b = .opened ∧ (d .closed .idle true .off).con .a ≠ .opened ∧
      (let e (h : Bool) := withSyn (d .opening .confirm true .joining) (fun y => { y with cell := { y.cell with state := .seeking, held := h } })
       (e true).awake ∧ (e true).hoc.assignment = some .a ∧ (e true).hoc.state = .joining ∧ (e true).syn.cell.held = true ∧
         (e false).syn.cell.state = .seeking ∧ (e false).syn.cell.held = false) ∧
      (let e := withMtr (d .closed .idle true .onBus) (fun m => { m with membership := some ⟨7, .a, 60000, none⟩, interval := { m.interval with metered := true } })
       e.awake ∧ e.mtr.membership = some ⟨7, .a, 60000, none⟩ ∧ e.mtr.holder = [] ∧ 2 ≤ e.rst.free ∧ e.rst.newest < 4294967290 ∧ (full16 e).rst.free = 0) := by
  decide
theorem witness_CoilTimers :
    let c (x : CState) (p : CPhase) (aux retry : Bool) : Contactor := ⟨x, aux, p, some 1, some 1, retry, false, false⟩
    up.awake ∧ (c .closing .pulse true false).pulseTimer ≠ none ∧ (c .opening .pulse false false).phase = .pulse ∧
      (c .closing .confirm false false).confirmTimer ≠ none ∧ (c .opening .confirm true true).retry = true ∧
      (c .closing .gap false true).phase = .gap ∧ (c .opening .gap true true).state = .opening ∧ (con .opened).pulseTimer = none ∧
      (c .closing .confirm false true).retry = true ∧ up.mtr.holder = [] ∧ 4 ≤ up.rst.free ∧ up.run ≠ .shutdown ∧ (full16 up).rst.free < 4 := by decide
/-- A watch at its length for 60 Hz and at its length for 50 Hz, and one short of it. -/
theorem witness_CrossingWatch :
    let d (f n : Nat) := withSyn (withHoc (inState .joining .opened) (fun h => { h with sessionA := some { ses with fNom := f } }))
      (fun y => { y with cell := { y.cell with state := .seeking, watch := some n } })
    (d 60000 320).awake ∧ (d 60000 320).syn.cell.state = .seeking ∧ (d 60000 320).syn.cell.watch = some 320 ∧
      (d 60000 320).watchLength = 320 ∧ (d 50000 384).watchLength = 384 ∧ ¬(d 60000 319).watchLength ≤ 319 ∧
      (withSyn up (fun y => { y with ship := { y.ship with state := .met, watch := some 384 } })).syn.ship.state = .met := by decide
/-- R96: a watch brought to its length by the set of a crossing, taken before the crossing; and nothing where it is not due. -/
theorem test_watch_tie :
    let d (n : Nat) := withSyn (withHoc (inState .joining .opened) (fun h => { h with sessionA := some ses }))
      (fun y => { y with cell := { y.cell with state := .met, good := 5, watch := some n } })
    ((d 320).watchExpiry .cell).syn.cell.state = .seeking ∧ ((d 320).watchExpiry .cell).syn.cell.good = 0 ∧ (d 319).watchExpiry .cell = d 319 ∧
      (d 319).watchTie .cell ((d 319).watchDue (d 319).syn.cell) = d 319 := by decide
/-- A JOINING cell at a bus crossing with four good evaluations behind it, and its close refused and let through; a MATCHING cell at a ship crossing; a set
without a crossing. -/
theorem witness_Evaluation :
    let raw := goodSet { zeroSet with vba := 1, vsa := 1 }
    let d (h : HState) (a : CState) (x y : ChState) := withSyn (withMsu (inState h a) (fun m => { m with
      lastSeq := some 255, lastSet := some { Channels.zero with vba := -1, vsa := -1 }
      bus := { Tracker.start with armed := true }, ship := { Tracker.start with armed := true } }))
      (fun z => ⟨{ z.cell with state := x, good := 4 }, { z.ship with state := y }⟩)
    (∀ h a x y, (d h a x y).admits raw) ∧ ¬(calibrated up.cfg.gains raw).overLevel up.cfg.iTrip ∧
      (∀ h a x y, (d h a x y).hoc.assignment = some .a ∧ (d h a x y).syu.bounded ∧ (d h a x y).msu.bus.rises 1 (some (-1)) ∧
        (d h a x y).msu.ship.rises 1 (some (-1))) ∧
      (d .joining .opened .seeking .idle).con .a = .opened ∧ (d .joining .opened .met .idle).closeRefusal .a = none ∧
      (withLnk (d .joining .opened .met .idle) (fun l => { l with state := .muted })).closeRefusal .a ≠ none ∧
      (d .matching .closed .idle .seeking).con .a = .closed ∧ (d .matching .closed .idle .met).hoc.state = .matching ∧
      ¬up.msu.bus.rises 1 (some (-1)) ∧ 384 ≤ 383 + max 1 (up.positions raw) := by
  have bounded_up : up.syu.bounded := by refine ⟨?_, ?_, ?_⟩ <;> decide
  refine ⟨fun _ _ _ _ => ⟨Or.inl rfl, good_check _, by simp [withMsu, withSyn, goodSet, zeroSet]⟩, by decide, fun _ _ _ _ => ⟨rfl, bounded_up,
    ⟨rfl, by decide, -1, rfl, by decide⟩, rfl, by decide, -1, rfl, by decide⟩, rfl, by decide, by decide, rfl, rfl, fun h => absurd h.1 (by decide), by decide⟩
theorem witness_ChannelTimeouts :
    let d (h : HState) (a : CState) (x : ChState) (n : Nat) := withSyn (inState h a) (fun y => ⟨{ y.cell with
      state := x, attempts := n, timeout := some 20000, backoff := some 10000 }, { y.ship with state := .seeking, timeout := some 60000 }⟩)
    (d .joining .opened .seeking 3).awake ∧ (d .joining .opened .seeking 3).syn.cell.timeout ≠ none ∧
      (d .joining .opened .seeking 2).syn.cell.attempts ≠ 3 ∧ (d .joining .opened .met 1).ownCon = some .opened ∧
      (d .joining .closing .met 1).ownCon = some .closing ∧ (d .matching .closed .idle 0).hoc.state = .matching ∧
      (d .matching .closed .idle 0).syn.ship.timeout ≠ none ∧ (d .assigned .opened .backoff 1).syn.cell.backoff ≠ none ∧
      (d .assigned .opened .backoff 1).syn.cell.state = .backoff ∧ (d .assigned .opened .backoff 1).lnk.state ≠ .aligned ∧
      up.syn.cell.backoff = none ∧ ¬(up.syn.cell.state = .seeking ∨ up.syn.cell.state = .met) := by decide
theorem witness_RampTimers :
    let d := withHoc (inState .parallelUp .closed) (fun h => { h with progress := some 20000, rampAbsolute := some 300000, lowGen := some 2000 })
    d.awake ∧ d.hoc.state = .parallelUp ∧ d.hoc.progress ≠ none ∧ d.hoc.rampAbsolute ≠ none ∧ d.hoc.lowGen ≠ none ∧ up.hoc.progress = none := by
  decide
theorem witness_ReleaseAndLeave :
    let d (h : HState) (a : CState) := withHoc (inState h a) (fun x => { x with
      lead := true, release := some 1000, releaseWait := some 30000, lowLoad := some 500, leaveStall := some 30000, leave := some ⟨none, .onBus⟩ })
    (d .parallelDown .closed).awake ∧ (d .parallelDown .closed).hoc.release ≠ none ∧ (d .releaseWait .closed).hoc.releaseWait ≠ none ∧
      (d .leaving .closed).hoc.lowLoad ≠ none ∧ (d .leaving .closed).hoc.assignment = some .a ∧ (d .leaving .closed).hoc.leaveStall ≠ none ∧
      (d .leaving .closed).hoc.leave = some ⟨none, .onBus⟩ ∧ (d .leaving .closed).ownMember = true ∧ (d .leaving .opening).ownMember = false ∧
      HState.onBus.isMember = true ∧ (d .leaving .closed).ownView = none ∧ up.hoc.release = none := by decide
/-- The counters one short of 500 and at 500; a boundary with an armed switch: no set metered, two free entries, and one. -/
theorem witness_Counters :
    let d (n : Nat) := withHoc (inState .onBus .closed) (fun h => { h with joinTicks := n })
    let e (metered : Bool) (n : Nat) := withRst (withMtr up (fun m => { m with
      timeValid := true, second := 899, cycleCount := 500, armed := true, interval := { m.interval with metered := metered } }))
      (fun r => { r with queue := List.replicate n ⟨1, [], true⟩ })
    (d 499).awake ∧ (d 499).ownMember = true ∧ (d 499).hoc.joinTicks < 500 ∧ 500 ≤ (d 500).hoc.joinTicks ∧ up.mtr.cycleCount < 500 ∧
      500 ≤ (e true 14).mtr.cycleCount ∧ (899 + 1) % 900 = 0 ∧ (e false 0).mtr.interval.metered = false ∧ 2 ≤ (e true 14).rst.free ∧
      (e true 14).mtr.holder = [] ∧ (e true 15).rst.free < 2 ∧ (withMtr (e true 0) (fun m => { m with holder := [exRec] })).mtr.holder ≠ [] ∧
      (withMtr (e true 0) (fun m => { m with meteredMark := true })).mtr.meteredMark = true := by decide
theorem witness_StoreOperations :
    let e : Staged := ⟨1, List.replicate 32 0, true⟩
    let d := withRst up (fun r => { r with engine := .programming 8 0, queue := [e], newest := 1 })
    d.awake ∧ d.rst.engine = .programming 8 0 ∧ d.rst.job = none ∧ d.mtr.holder = [] ∧ up.rst.engine = .idle ∧
      (withMtr d (fun m => { m with holder := [exRec, exRec] })).mtr.holder.length = 2 ∧ d.rst.newest + 2 < 4294967295 ∧
      (withRst up (fun r => { r with engine := .erasing 63 })).rst.engine = .erasing 63 := by decide
/-- The frequencies at the ends of the clamped range. -/
theorem witness_PhaseIncrement : 47500 ≤ 47500 ∧ 47500 ≤ 62500 ∧ 62500 ≤ 62500 := by decide

/-! ### The invariants hold after reset, and a step answers a next state there -/

theorem witness_Contactors : State.reset.interlocked ∧ State.reset.oneCoil ∧ ∃ t, step State.reset = .next t :=
  ⟨Or.inl rfl, ⟨nofun, nofun⟩, _, rfl⟩
theorem witness_Bounded : State.reset.bounded ∧ State.reset.commandsBounded := by
  refine ⟨⟨?_, ?_, ?_⟩, nofun⟩ <;> decide
/-- A run flag set by the handover state leaves the commands inside their bounds before the first step. -/
theorem witness_CommandsBounded (s : Syu) (x : Option Session) : (s.setRunFlag x).commandsBounded := fun _ => by
  simp only [Syu.setRunFlag, clampInt]; omega
theorem witness_Store : State.reset.storeSound ∧ State.reset.fullRests :=
  ⟨⟨⟨List.Pairwise.nil, by intro c h; cases h⟩, by decide, by decide⟩, nofun⟩
theorem witness_Meter : State.reset.meterSound := ⟨by decide, by decide⟩
theorem witness_Notices : State.reset.noticesSound ∧ State.reset.repliesAnswered :=
  ⟨⟨List.nodup_nil, fun k => by cases k <;> decide, by decide⟩, by decide, by intro p h; cases h⟩
theorem witness_Member : State.reset.memberSound := ⟨by intro h; exact absurd h (by decide), by intro l h; cases h⟩
/-- A step with a command in front answers a next state. -/
theorem witness_step : ∃ t, step ⟨[.cycleTimerExpiry], up⟩ = .next t ∧ t.pending = [] := ⟨_, rfl, rfl⟩

/-! ### One step of a command, one or two fields of what it leaves -/

/-- A field of the part after a command, none where the command does not answer a next state. -/
def after {α : Type} (c : Instr) (d : Dev) (f : Dev → α) : Option α :=
  match exec c (st d) with
  | .next t => some (f t.dev)
  | .fault _ => none
  | .refused _ => none

/-- R55, R150: FLUSH is accepted, its tag remembered. -/
theorem test_flush : after (.flush head) up (fun d => (d.ntu.replies.map ReplyPlace.result, d.lnk.remembered 1)) =
    some ([some .accepted], some 1) := by decide
/-- R55: a kind outside 1..13. -/
theorem test_unknown : after (.unknownOrder head 14) up (fun d => d.ntu.replies.map ReplyPlace.result) =
    some [some (.refused .unknown)] := by decide
/-- R139. -/
theorem test_tariff : after (.tariff head 1 [(0, 2)]) up (fun d => (d.mtr.copyB, d.mtr.armed, d.mtr.copyA)) =
    some ([⟨0, 2⟩], true, [⟨0, 0⟩]) := by decide
/-- R109: ASSIGN from OFF. -/
theorem test_assign : after (.assign head 2) up (fun d => (d.hoc.assignment, d.hoc.state)) = some (some .b, .assigned) := by decide
/-- R110: UNASSIGN from ASSIGNED. -/
theorem test_unassign : after (.unassign head) (inState .assigned .opened) (fun d => (d.hoc.assignment, d.hoc.state)) =
    some (none, .off) := by decide
/-- R159, R160: COLLECT from a store that holds nothing is at its end at once. -/
theorem test_collect : after (.collect head 1 4) up (fun d => d.rst.job) = some (some ⟨1, 1, 4, some (.finish 0)⟩) := by decide
/-- R167, R168: CONFIG_BAD of a station strapped to 0 is raised again. -/
theorem test_acknowledge : after (.acknowledgeNotices head 1 [28]) { up with cfg := { up.cfg with configBad := true } }
    (fun d => d.ntu.entry .configBad) = some ⟨true, 1⟩ := by decide
/-- R40: the number after a cycle number. -/
theorem test_cycle : after .cycleTimerExpiry up (fun d => (d.lnk.cycle, d.mtr.cycleCount)) = some (1, 1) := by decide
/-- R47: the 25th silent cycle aligns. -/
theorem test_silence : after .silenceCountExpiry (withLnk up (fun l => { l with silenceCount := 25 })) (fun d => d.lnk.state) =
    some .aligned := by decide
/-- R75: a close pulse that ends with the auxiliary contact closed ends the operation. -/
theorem test_pulse : after (.coilPulseTimerExpiry .a) { inState .forming .closing with ctc := ⟨⟨.closing, true, .pulse, some 200, none, false, true, false⟩, con .opened⟩ }
    (fun d => (d.con .a, d.hoc.state, d.hoc.lead)) = some (.closed, .onBus, true) := by decide
/-- R100: the third timeout spends the attempts. -/
theorem test_timeout : after .cellChannelTimeout (withSyn (inState .joining .opened) (fun y => { y with cell := { y.cell with
    state := .seeking, attempts := 3, timeout := some 20000 } })) (fun d => (d.syn.cell.state, d.hoc.state)) = some (.spent, .assigned) := by decide
/-- R102: in JOINING the return from OPENING to OPEN restarts the watch of a running cell channel. -/
theorem test_seek_afresh : after (.auxLevelQualified .a false)
    (withSyn { inState .joining .opening with ctc := ⟨⟨.opening, true, .confirm, none, some 1, false, false, false⟩, con .opened⟩ }
      (fun y => { y with cell := { y.cell with state := .met, good := 3, watch := none } }))
    (fun d => (d.con .a, d.hoc.state, d.syn.cell.state, d.syn.cell.good, d.syn.cell.watch)) = some (.opened, .joining, .seeking, 0, some 0) := by decide
/-- R41, R52: a bulletin of 58 µs that starts 4.5 µs into slot 1 ends with the slot; one that starts later falls across its edge. -/
theorem test_slot_edge :
    let b := withCrc16 (1 :: List.replicate 55 1)
    after (.bulletinReceived b 134) up (fun d => (d.lnk.rx.isSome, (d.ntu.entry .badBulletin).count)) = some (true, 0) ∧
      after (.bulletinReceived b 135) up (fun d => (d.lnk.rx.isSome, (d.ntu.entry .badBulletin).count)) = some (false, 1) := by decide +kernel
/-- R122: the ramp stalls. -/
theorem test_stall : after .progressTimerExpiry (withHoc (inState .parallelUp .closed) (fun h => { h with progress := some 20000 }))
    (fun d => (d.hoc.state, d.ntu.queue)) = some (.parallelHold, [.rampStall]) := by decide
/-- R154: an erase that completes frees its sector. -/
theorem test_erase : after .sectorEraseComplete (withRst up (fun r => { r with mem := [(9216, 0)], engine := .erasing 9 }))
    (fun d => (d.rst.mem, d.rst.engine)) = some ([], .idle) := by decide
/-- R154, R155: a next sector that the pre-erase has emptied is not erased again. -/
theorem test_preerase : after .sectorEraseComplete
    (withRst up (fun r => { r with posPage := 7, preErase := true, mem := [(9216, 0)], engine := .erasing 9 }))
    (fun d => (d.rst.engine, d.rst.preErase)) = some (.idle, false) := by decide
/-- R48: the own mark read back with overdrive makes the cycle faulty; read back as it was sent, it does not. -/
theorem test_mark_read_back :
    let d := withLnk up (fun l => { l with state := .aligned, markTx := some (encodeMark 8 5) })
    after (.markReceived (encodeMark 8 5) (.own true)) d (fun e => (e.lnk.faults, e.lnk.markTx)) = some ([true], none) ∧
      after (.markReceived (encodeMark 8 5) (.own false)) d (fun e => e.lnk.faults) = some [] := by decide +kernel
/-- R43, R48: a mark after the own one is not adopted when its collision has muted the cell. -/
theorem test_second_mark : ((withLnk up (fun l => { l with state := .muted, refSender := some 5, cycle := 3 })).validMark 16 6 18).lnk.cycle = 3 := by
  decide
/-- R113: a claim dropped and taken anew has been carried by no bulletin. -/
theorem test_new_claim :
    (({ Hoc.start with state := .forming, claimCarried := true }.enter .assigned).enter .forming).claimCarried = false := by decide
/-- R138: the second in which a membership ended counts for the new record only when it is metered again. -/
theorem test_mark_of_the_second : (withMtr up (fun m => { m with meteredMark := true })).membershipGone.mtr.meteredMark = false := by decide
/-- R146: without a membership the METER annex carries an import total of 0. -/
theorem test_meter_annex : ({ Mtr.start with totImport := 9 } : Mtr).annex = .meter none none 0 .a false 0 := by decide
/-- R173: a RESTART in a bulletin reads the straps of its moment. -/
theorem test_restart_order : decodeOrder 13 [] ⟨9, false, false, false⟩ = some (.restart ⟨9, false, false, false⟩) := by decide

end Sys2Proof.Tests
end

/-! # Proofs about the sample port, its timers, and the orders and counters that chapter 1 shares in -/

namespace Sys2Proof.Machine

/-! ### Commands of an awake part -/

/-- A function that changes nothing of the part changes nothing of the machine. -/
theorem State.onDev_eq_self {s : State} {f : Dev → Dev} (h : f s.dev = s.dev) : s.onDev f = s := by
  simp only [State.onDev, h]

theorem exec_sampleSet_up {s : State} (h : s.dev.awake) (raw : RawSet) :
    exec (.sampleSet raw) s = .next (s.onDev (Dev.sampleSet raw)) := State.run_up h _

theorem exec_watchTimerExpiry_up {s : State} (h : s.dev.awake) :
    exec .watchTimerExpiry s = .next (s.onDev Dev.watchTimerExpiry) := State.run_up h _

theorem exec_overloadTimerExpiry_up {s : State} (h : s.dev.awake) :
    exec .overloadTimerExpiry s = .next (s.onDev Dev.overloadExpiry) := State.run_up h _

theorem exec_fallbackClose_up {s : State} (h : s.dev.awake) (k : TrackerId) :
    exec (.fallbackClose k) s = .next (s.onDev (Dev.fallbackClose k)) := State.run_up h _

theorem exec_joinAgeTick_up {s : State} (h : s.dev.awake) :
    exec .joinAgeTick s = .next (s.onDev Dev.joinSecond) := State.run_up h _

theorem exec_secondAdvance_up {s : State} (h : s.dev.awake) :
    exec .secondAdvance s = .next (s.onDev Dev.secondAdvance) := State.run_up h _

/-! ### The sample port (R2, R4) -/

theorem Dev.sampleSet_of_badCheck {d : Dev} {r : RawSet} (h : setCheck r ≠ r.check) : d.sampleSet r = d := if_pos h

theorem Dev.sampleSet_of_repeat {d : Dev} {r : RawSet} (hc : setCheck r = r.check) (hl : d.msu.lastSeq = some r.seq) :
    d.sampleSet r = d.raise .sampleGap := by
  simp [Dev.sampleSet, hc, hl]

/-- The missing positions before a set that is no repeat are one fewer than the positions it advances (R4). -/
theorem seqGap_add_one {last seq : Byte} (h : seq ≠ last) : seqGap last seq + 1 = (seq.toNat + 256 - last.toNat) % 256 := by
  have hne : seq.toNat ≠ last.toNat := fun e => h (BitVec.eq_of_toNat_eq e)
  have hs := seq.isLt
  have hl := last.isLt
  have h1 : (1 : Byte).toNat = 1 := rfl
  simp only [seqGap, BitVec.toNat_sub, h1]
  omega

/-- An admitted set runs through the blocks behind the notice for positions missing before it (R2, R4). -/
theorem Dev.sampleSet_of_admits {d : Dev} {r : RawSet} (h : d.admits r) :
    d.sampleSet r =
      (d.raiseIf (decide (2 ≤ d.positions r)) .sampleGap).admitSet r.seq (d.positions r - 1) (calibrated d.cfg.gains r) := by
  obtain ⟨-, hc, hs⟩ := h
  unfold Dev.sampleSet Dev.positions
  rw [if_neg (not_not.2 hc)]
  cases hl : d.msu.lastSeq with
  | none => simp [Dev.raiseIf]
  | some last =>
    have hne : r.seq ≠ last := fun e => hs (by rw [hl, e])
    have hg := seqGap_add_one hne
    have hd : decide (2 ≤ seqGap last r.seq + 1) = decide (0 < seqGap last r.seq) :=
      decide_eq_decide.2 (by omega)
    simp only [if_neg hne, ← hg, Nat.add_sub_cancel, hd]

/-- Settles O9: both discards of R2. -/
theorem sampleSetThatIsNotAdmitted : Obligations.SampleSetThatIsNotAdmitted := by
  intro s raw hup
  refine ⟨fun hbad => ?_, fun hc hl => ⟨_, exec_sampleSet_up hup raw, rfl, ?_⟩⟩
  · rw [exec_sampleSet_up hup, State.onDev_eq_self (Dev.sampleSet_of_badCheck hbad)]
  · rw [State.onDev_dev, Dev.sampleSet_of_repeat hc hl]
    exact ⟨s.dev.raise_onlyRaised .sampleGap, s.dev.raise_own .sampleGap⟩

end Sys2Proof.Machine

namespace Sys2Proof.Machine

/-! ### What the blocks behind the measurement leave of it -/

/-- A close that the assigned contactor starts leaves the measured quantities: only a contactor that becomes OPEN can end an assignment (R6, R75). -/
theorem Dev.takeMet_msu (d : Dev) : d.takeMet.msu = d.msu := by
  simp only [Dev.takeMet]
  split
  · rfl
  · rename_i x hx
    split
    · rename_i hs
      have hnew : ((d.setCon x ((d.ctc.get x).startClose d.cfg.closePulse)).con x) = .closing := by
        simp [Dev.con, Ctc.get_set_same, Contactor.startClose]
      have hold : d.con x = .opened := hs.2.1
      have hxs : (d.setCon x ((d.ctc.get x).startClose d.cfg.closePulse)).hoc.assignment = some x := by simpa using hx
      simp only [Dev.startClose, Dev.changeCon, Dev.conChanged, hnew, hold, hxs, reduceCtorEq, if_false, if_true,
        Dev.assignedChanged]
      split <;> simp
    · rfl

theorem Dev.takeCrossings_msu (d : Dev) (bus ship : Bool) : (d.takeCrossings bus ship).msu = d.msu := by
  have hbus : d.busCrossing.msu = d.msu := by
    simp only [Dev.busCrossing]
    split
    · split <;> simp [Dev.takeMet_msu]
    · rfl
  simp only [Dev.takeCrossings]
  cases bus <;> cases ship <;> simp [hbus]

theorem Dev.overTrip_msu (d : Dev) (c : Bool) : (d.overTrip c).msu = d.msu := by
  simp only [Dev.overTrip]
  split
  · obtain ⟨-, -, -, -, -, -, -, -, -, -, hmsu, -⟩ := d.trip_effect .overcurrent none
    exact hmsu
  · rfl

/-- A new bus condition is the one quantity that the hand-out of a bus close changes (R12). -/
theorem Dev.setBusCond_msu (d : Dev) (c : BusCond) : (d.setBusCond c).msu = { d.msu with busCond := c } := by
  simp only [Dev.setBusCond]
  split
  · rename_i h; rw [← h]
  · simp

theorem Dev.takeCond_msu (d : Dev) (c : Option BusCond) :
    (d.takeCond c).msu = { d.msu with busCond := c.getD d.msu.busCond } := by
  cases c with
  | none => rfl
  | some v => exact d.setBusCond_msu v

/-- What the measurement unit makes of an admitted set, its bus condition not yet handed out. -/
def Dev.measured (d : Dev) (r : RawSet) : Msu :=
  (d.msu.takeSet d.cfg d.hoc.assignment d.vRefNow r.seq (d.positions r - 1) (calibrated d.cfg.gains r)).1

theorem Dev.admitSet_msu (d : Dev) (seq : Byte) (gap : Nat) (c : Channels) :
    ∃ b, (d.admitSet seq gap c).msu = { (d.msu.takeSet d.cfg d.hoc.assignment d.vRefNow seq gap c).1 with busCond := b } := by
  simp only [Dev.admitSet, Dev.takeCrossings_msu, Dev.takeCond_msu, Dev.overTrip_msu, Dev.meterSet_frame,
    Dev.synthesisSet_frame, Dev.watchesBy_frame, Dev.setMsu_msu]
  exact ⟨_, rfl⟩

/-- After an admitted set the quantities stand as measured, but for a bus condition that the set has formed (R12). -/
theorem Dev.sampleSet_msu {d : Dev} {r : RawSet} (h : d.admits r) :
    ∃ b, (d.sampleSet r).msu = { d.measured r with busCond := b } := by
  rw [Dev.sampleSet_of_admits h]
  obtain ⟨b, hb⟩ := Dev.admitSet_msu (d.raiseIf (decide (2 ≤ d.positions r)) .sampleGap) r.seq (d.positions r - 1)
    (calibrated d.cfg.gains r)
  refine ⟨b, hb.trans ?_⟩
  simp only [Dev.measured, Dev.vRefNow, Dev.raiseIf_frame]

end Sys2Proof.Machine

namespace Sys2Proof.Machine

/-! ### RMS (R11, R12) -/

/-- The root found from the top bit down, over any start between which and 2^k above it the root lies. -/
theorem isqrtFrom_spec (n : Nat) :
    ∀ k r, r * r ≤ n → n < (r + 2 ^ k) * (r + 2 ^ k) →
      isqrtFrom k n r * isqrtFrom k n r ≤ n ∧ n < (isqrtFrom k n r + 1) * (isqrtFrom k n r + 1) := by
  intro k
  induction k with
  | zero => intro r hlo hhi; exact ⟨hlo, by simpa [isqrtFrom] using hhi⟩
  | succ k ih =>
    intro r hlo hhi
    simp only [isqrtFrom]
    split
    · rename_i h
      exact ih _ h (by rwa [Nat.add_assoc, ← Nat.two_mul, ← Nat.pow_succ'])
    · rename_i h
      exact ih r hlo (Nat.lt_of_not_le h)

/-- The square root of the model is the floor of the root (R11). -/
theorem isqrt_spec (n : Nat) : isqrt n * isqrt n ≤ n ∧ n < (isqrt n + 1) * (isqrt n + 1) := by
  refine isqrtFrom_spec n _ 0 (Nat.zero_le n) ?_
  calc n < 2 ^ (n.log2 + 1) := Nat.lt_log2_self
    _ ≤ 2 ^ ((n.log2 / 2 + 1) + (n.log2 / 2 + 1)) := Nat.pow_le_pow_right (by omega) (by omega)
    _ = (0 + 2 ^ (n.log2 / 2 + 1)) * (0 + 2 ^ (n.log2 / 2 + 1)) := by rw [Nat.pow_add, Nat.zero_add]

theorem Tracker.formRms_of_empty {k : Tracker} (h : k.count = 0) (vRef : Nat) : k.formRms vRef = k := if_pos h

/-- A window with sets in it forms RMS and its ratio, and nothing else. -/
theorem Tracker.formRms_of_filled {k : Tracker} (h : k.count ≠ 0) (vRef : Nat) :
    k.formRms vRef =
      { k with rms := some (isqrt (k.sumSq / k.count)), ratio := some (isqrt (k.sumSq / k.count) * 1000 / vRef) } := if_neg h

/-- A tracker that shows what RMS formed from a filled window shows its floor and ratio. -/
theorem Tracker.rmsOf_formRms {k t : Tracker} (h : k.count ≠ 0) (vRef : Nat) (hrms : t.rms = (k.formRms vRef).rms)
    (hratio : t.ratio = (k.formRms vRef).ratio) : t.rmsOf k.sumSq k.count vRef := by
  rw [Tracker.formRms_of_filled h] at hrms hratio
  obtain ⟨hlo, hhi⟩ := isqrt_spec (k.sumSq / k.count)
  exact ⟨_, hrms, hlo, hhi, hratio⟩

/-- Whatever it forms, the close of a window touches RMS and ratio alone. -/
theorem Tracker.formRms_eta (k : Tracker) (vRef : Nat) :
    k.formRms vRef = { k with rms := (k.formRms vRef).rms, ratio := (k.formRms vRef).ratio } := by
  by_cases h : k.count = 0
  · rw [Tracker.formRms_of_empty h]
  · rw [Tracker.formRms_of_filled h]

/-! ### A set at a tracker (R7 to R9) -/

theorem Tracker.crosses_iff_rises (k : Tracker) (v : Int) (w : Option Int) : k.crosses v w = true ↔ k.rises v w := by
  cases w with
  | none => simp [Tracker.crosses, Tracker.rises]
  | some u => simp [Tracker.crosses, Tracker.rises, and_assoc]

/-- The instant of a crossing, over a set count that fits its 24 bits (R7). -/
theorem captureTime_eq_capturedAt {n : Nat} (hn : n < 16777216) (step : Nat) (v : Int) (w : Option Int) :
    captureTime n (step - 1) v w = capturedAt step n v w := by
  have hmod : 256 * n % 4294967296 = 256 * n := Nat.mod_eq_of_lt (by omega)
  cases w with
  | none => simp [captureTime, capturedAt, hmod]
  | some u =>
    by_cases hs : step ≤ 1
    · have hz : step - 1 = 0 := by omega
      simp only [capturedAt, if_pos hs, hz, captureTime]
    · obtain ⟨g, hg⟩ : ∃ g, step - 1 = g + 1 := ⟨step - 2, by omega⟩
      simp only [capturedAt, if_neg hs, hg, captureTime, hmod]

/-- A set without a crossing joins the open window and may arm the tracker. -/
theorem Tracker.takeSet_of_not_rises {k : Tracker} {v : Int} {w : Option Int} (h : ¬k.rises v w) (vRef n gap : Nat) :
    k.takeSet vRef n gap v w =
      ⟨{ k with
          fallback := k.fallback + gap + 1
          count := k.count + 1
          sumSq := k.sumSq + v.natAbs * v.natAbs
          armed := k.armed || decide (v < -(armingLevel vRef : Int)) }, false, false⟩ := by
  simp only [Tracker.takeSet, if_neg (mt (k.crosses_iff_rises v w).1 h)]
  rfl

/-- A set with a crossing closes the window before it, and opens the next (R8). -/
theorem Tracker.takeSet_of_rises {k : Tracker} {v : Int} {w : Option Int} (h : k.rises v w) (vRef n gap : Nat) :
    k.takeSet vRef n gap v w =
      ⟨(({ k with fallback := k.fallback + gap + 1 } : Tracker).cross vRef (captureTime n gap v w)).accumulate v, true,
        k.capture.isSome⟩ := by
  simp only [Tracker.takeSet, if_pos ((k.crosses_iff_rises v w).2 h)]

theorem Tracker.takeSet_crossed (k : Tracker) (vRef n gap : Nat) (v : Int) (w : Option Int) :
    (k.takeSet vRef n gap v w).crossed = true ↔ k.rises v w := by
  by_cases h : k.rises v w
  · simp [Tracker.takeSet_of_rises h, h]
  · simp [Tracker.takeSet_of_not_rises h, h]

/-- A crossing closes a period where one was captured before (R8). -/
theorem Tracker.takeSet_closed (k : Tracker) (vRef n gap : Nat) (v : Int) (w : Option Int) :
    (k.takeSet vRef n gap v w).closed = true ↔ k.rises v w ∧ k.capture ≠ none := by
  by_cases h : k.rises v w
  · simp [Tracker.takeSet_of_rises h, h, Option.isSome_iff_ne_none]
  · simp [Tracker.takeSet_of_not_rises h, h]

/-- The first crossing after a restart opens a period and forms nothing (R8). -/
theorem Tracker.cross_first {k : Tracker} (h : k.capture = none) (vRef time : Nat) :
    k.cross vRef time = { k with capture := some time, armed := false, fallback := 0, count := 0, sumSq := 0 } := by
  simp only [Tracker.cross, h]

/-- A later crossing closes the period since the one before (R8, R9). -/
theorem Tracker.cross_later {k : Tracker} {old : Nat} (h : k.capture = some old) (vRef time : Nat) :
    k.cross vRef time =
      { k.formRms vRef with
        capture := some time
        armed := false
        fallback := 0
        count := 0
        sumSq := 0
        period := some ((time + 4294967296 - old) % 4294967296)
        freq := if periodValid ((time + 4294967296 - old) % 4294967296) then
            some (periodFreq ((time + 4294967296 - old) % 4294967296)) else k.freq
        freqValid := periodValid ((time + 4294967296 - old) % 4294967296) } := by
  simp only [Tracker.cross, h]

/-- What a set makes of a tracker, case by case (R7 to R9, R11). -/
theorem Tracker.takeSet_tookSet (k : Tracker) (vRef step : Nat) {n : Nat} (hn : n < 16777216) (v : Int) (w : Option Int) :
    k.tookSet vRef step n v w (k.takeSet vRef n (step - 1) v w).tracker := by
  have hg : k.fallback + (step - 1) + 1 = k.fallback + max 1 step := by omega
  refine ⟨fun h => ?_, fun h hnone => ?_, fun old h hold => ?_⟩
  · rw [Tracker.takeSet_of_not_rises h, hg]
    rfl
  · rw [Tracker.takeSet_of_rises h, Tracker.cross_first (k := { k with fallback := k.fallback + (step - 1) + 1 }) hnone,
      captureTime_eq_capturedAt hn]
    simp only [Tracker.accumulate, Nat.zero_add]
  · rw [Tracker.takeSet_of_rises h, Tracker.cross_later (k := { k with fallback := k.fallback + (step - 1) + 1 }) hold,
      captureTime_eq_capturedAt hn]
    refine ⟨rfl, rfl, rfl, rfl, Nat.zero_add _, rfl, rfl, ?_, fun hc => ?_, fun hc => ?_⟩
    · simp only [Tracker.accumulate, periodValid, periodFreq, decide_eq_true_eq]
    · rw [Tracker.formRms_of_empty (k := { k with fallback := k.fallback + (step - 1) + 1 }) hc]
      exact ⟨rfl, rfl⟩
    · exact Tracker.rmsOf_formRms (k := { k with fallback := k.fallback + (step - 1) + 1 }) hc vRef rfl rfl

/-! ### Phase differences (R10) -/

theorem PhaseDiff.renew_formedFrom (o : PhaseDiff) (x y : Tracker) : o.formedFrom x y (o.renew x y) := by
  refine ⟨fun tx ty py hx hy hp hvx hvy => ?_, fun hbad => ?_⟩
  · simp only [PhaseDiff.renew, hx, hy, hp, hvx, hvy, Bool.and_self, if_true]
    rfl
  · simp only [PhaseDiff.renew]
    split
    · rename_i hx hy hp
      simp only [hx, hy, hp, reduceCtorEq, false_or] at hbad
      rw [if_neg (by simpa [or_comm, imp_iff_not_or] using hbad)]
    · rfl

end Sys2Proof.Machine

namespace Sys2Proof.Machine

/-! ### A set at the power quantities (R8, R13, R16) -/

/-- A close over an empty window forms nothing (R9, R13). -/
theorem Msu.cellClose_of_empty {m : Msu} (h : m.cell.count = 0) (cfg : Cfg) (withQ : Bool) : m.cellClose cfg withQ = m := if_pos h

/-- R13, R16: what a close over sets forms. -/
theorem Msu.cellClose_of_filled {m : Msu} (h : m.cell.count ≠ 0) (cfg : Cfg) (withQ : Bool) :
    m.cellClose cfg withQ = (m.formPower cfg.rating withQ).overloadTest cfg.limitPu := if_neg h

/-- A close touches P, Q, pu and the overload timer alone. -/
theorem Msu.cellClose_eta (m : Msu) (cfg : Cfg) (withQ : Bool) :
    m.cellClose cfg withQ =
      { m with
        p := (m.cellClose cfg withQ).p
        q := (m.cellClose cfg withQ).q
        pu := (m.cellClose cfg withQ).pu
        overload := (m.cellClose cfg withQ).overload } := by
  by_cases h : m.cell.count = 0
  · rw [Msu.cellClose_of_empty h]
  · rw [Msu.cellClose_of_filled h]; rfl

/-- The quantities after the close that a set may bring. -/
def Msu.closedBy (m : Msu) (cfg : Cfg) (k : Tracked) : Msu := if k.closed then m.cellClose cfg true else m

theorem Msu.closedBy_eta (m : Msu) (cfg : Cfg) (k : Tracked) :
    m.closedBy cfg k =
      { m with
        p := (m.closedBy cfg k).p
        q := (m.closedBy cfg k).q
        pu := (m.closedBy cfg k).pu
        overload := (m.closedBy cfg k).overload } := by
  unfold Msu.closedBy
  split
  · exact m.cellClose_eta cfg true
  · rfl

/-- The reactive product of a set with the phase voltages of a delay (R13). -/
def Msu.reactiveWith (m : Msu) (c : Channels) (k : Option Nat) : Int := ({ m with delayK := k } : Msu).reactive c

/-- A set at the cell tracker writes the tracker, the sums with the delay and its line, and what a close forms; nothing else. -/
theorem Msu.cellSet_eq (m : Msu) (cfg : Cfg) (c : Channels) (k : Tracked) :
    m.cellSet cfg c k =
      { m with
        cell := k.tracker
        sumP := (if k.crossed then 0 else m.sumP) + c.power
        sumQ := (if k.crossed then 0 else m.sumQ) + m.reactiveWith c (newDelay m.delayK k)
        delayK := newDelay m.delayK k
        delayLine := ((c.va, c.vb, c.vc) :: m.delayLine).take 64
        secSum := m.secSum + c.power
        p := (m.closedBy cfg k).p
        q := (m.closedBy cfg k).q
        pu := (m.closedBy cfg k).pu
        overload := (m.closedBy cfg k).overload } := by
  change ({ { m.closedBy cfg k with delayK := newDelay m.delayK k } with
    cell := k.tracker
    sumP := (if k.crossed then 0 else m.sumP) + c.power
    sumQ := (if k.crossed then 0 else m.sumQ) + ({ m.closedBy cfg k with delayK := newDelay m.delayK k } : Msu).reactive c
    delayLine := ((c.va, c.vb, c.vc) :: m.delayLine).take 64
    secSum := m.secSum + c.power } : Msu) = _
  rw [Msu.closedBy_eta]
  rfl

/-! ### The measured quantities of an admitted set (R2 to R16) -/

/-- The set count at a set (R4). -/
def Dev.countAt (d : Dev) (r : RawSet) : Nat := (d.msu.setCount + d.positions r) % 16777216

theorem Dev.countAt_lt (d : Dev) (r : RawSet) : d.countAt r < 16777216 := Nat.mod_lt _ (by decide)

/-- A set that is no repeat advances at least one position, but for the first (R2, R4). -/
theorem Dev.positions_pos {d : Dev} {r : RawSet} (h : d.admits r) (hl : d.msu.lastSeq ≠ none) : 0 < d.positions r := by
  obtain ⟨-, -, hs⟩ := h
  obtain ⟨l, hl⟩ := Option.ne_none_iff_exists'.1 hl
  have hne : r.seq ≠ l := fun e => hs (by rw [hl, e])
  have hp : d.positions r = seqGap l r.seq + 1 := by rw [seqGap_add_one hne]; simp only [Dev.positions, hl]
  omega

/-- The record of a set before its trackers run: what every admitted set writes (R2 to R6), its positions on the overload timer (R16). -/
def Dev.recorded (d : Dev) (r : RawSet) : Msu :=
  { d.msu with
    setCount := d.countAt r
    lastSeq := some r.seq
    lastSet := some (calibrated d.cfg.gains r)
    watch := true
    setGap := 0
    vRef := d.vRefNow
    overload := d.msu.overload.map (fun k => k + max 1 (d.positions r)) }

/-- A set at the cell tracker, and at the bus and the ship tracker of the assignment. -/
def Dev.cellTracked (d : Dev) (r : RawSet) : Tracked :=
  d.msu.cell.takeSet d.vRefNow (d.countAt r) (d.positions r - 1)
    ((calibrated d.cfg.gains r).va - (calibrated d.cfg.gains r).vb) (d.msu.lastSet.map (fun l => l.va - l.vb))

def Dev.busTracked (d : Dev) (r : RawSet) : Tracked :=
  outletTracked d.hoc.assignment d.msu.bus d.vRefNow (d.countAt r) (d.positions r - 1) (fun o l => l.busOf o)
    (calibrated d.cfg.gains r) d.msu.lastSet

def Dev.shipTracked (d : Dev) (r : RawSet) : Tracked :=
  outletTracked d.hoc.assignment d.msu.ship d.vRefNow (d.countAt r) (d.positions r - 1) (fun o l => l.shipOf o)
    (calibrated d.cfg.gains r) d.msu.lastSet

/-- The measurement of an admitted set: its record, the cell tracker with the power sums, the outlet trackers, the overcurrent count, and
the phase differences of its crossings. -/
theorem Dev.measured_eq {d : Dev} {r : RawSet} (h : d.admits r) :
    d.measured r =
      ({ (d.recorded r).cellSet d.cfg (calibrated d.cfg.gains r) (d.cellTracked r) with
          bus := (d.busTracked r).tracker
          ship := (d.shipTracked r).tracker
          ocRun := ocNext d.msu.ocRun (overLevel d.cfg.iTrip (calibrated d.cfg.gains r)) } : Msu).phases
        (d.cellTracked r).crossed (d.busTracked r).crossed (d.shipTracked r).crossed := by
  have hn : (if d.msu.lastSeq.isNone then 0 else max 1 (d.positions r)) = d.positions r := by
    by_cases hl : d.msu.lastSeq = none
    · simp [Dev.positions, hl]
    · have hp := Dev.positions_pos h hl
      rw [if_neg (by simpa using hl)]; omega
  have hm : d.positions r - 1 + 1 = max 1 (d.positions r) := by omega
  simp only [Dev.measured, Msu.takeSet, hm, hn, Dev.recorded, Dev.cellTracked, Dev.busTracked, Dev.shipTracked, Dev.countAt]

variable {d : Dev} {r : RawSet}

theorem Dev.measured_cell (h : d.admits r) : (d.measured r).cell = (d.cellTracked r).tracker := by rw [Dev.measured_eq h]; rfl
theorem Dev.measured_bus (h : d.admits r) : (d.measured r).bus = (d.busTracked r).tracker := by rw [Dev.measured_eq h]; rfl
theorem Dev.measured_ship (h : d.admits r) : (d.measured r).ship = (d.shipTracked r).tracker := by rw [Dev.measured_eq h]; rfl
theorem Dev.measured_ocRun (h : d.admits r) :
    (d.measured r).ocRun = ocNext d.msu.ocRun (overLevel d.cfg.iTrip (calibrated d.cfg.gains r)) := by
  rw [Dev.measured_eq h]; rfl

/-- R2 to R6, R14: the record of the set stands in the quantities, and its power in the sum of the second. -/
theorem Dev.measured_record (h : d.admits r) :
    (d.measured r).setCount = d.countAt r ∧ (d.measured r).lastSeq = some r.seq ∧
      (d.measured r).lastSet = some (calibrated d.cfg.gains r) ∧ (d.measured r).watch = true ∧ (d.measured r).setGap = 0 ∧
      (d.measured r).vRef = d.vRefNow ∧ (d.measured r).secSum = d.msu.secSum + (calibrated d.cfg.gains r).power := by
  rw [Dev.measured_eq h, Msu.cellSet_eq]
  exact ⟨rfl, rfl, rfl, rfl, rfl, rfl, rfl⟩

/-! ### Crossings of the set -/

/-- The cell voltage of a set, and that of the set before it (R6). -/
def Dev.cellRises (d : Dev) (r : RawSet) : Prop :=
  d.msu.cell.rises ((calibrated d.cfg.gains r).va - (calibrated d.cfg.gains r).vb) (d.msu.lastSet.map (fun l => l.va - l.vb))

theorem Dev.cellTracked_crossed (d : Dev) (r : RawSet) : (d.cellTracked r).crossed = true ↔ d.cellRises r :=
  Tracker.takeSet_crossed ..

theorem Dev.cellTracked_closed (d : Dev) (r : RawSet) :
    (d.cellTracked r).closed = true ↔ d.cellRises r ∧ d.msu.cell.capture ≠ none := Tracker.takeSet_closed ..

/-- A tracker of the assignment sees a crossing only with an outlet assigned (R6). -/
theorem outletTracked_crossed (x : Option Outlet) (t : Tracker) (vRef n gap : Nat) (pick : Outlet → Channels → Int) (c : Channels)
    (last : Option Channels) :
    (outletTracked x t vRef n gap pick c last).crossed = true ↔ ∃ o, x = some o ∧ t.rises (pick o c) (last.map (pick o)) := by
  cases x with
  | none => simp [outletTracked, Tracked.idle]
  | some o => simp [outletTracked, Tracker.takeSet_crossed]

theorem outletTracked_tookSet {x : Option Outlet} {o : Outlet} (hx : x = some o) (t : Tracker) (vRef step : Nat) {n : Nat}
    (hn : n < 16777216) (pick : Outlet → Channels → Int) (c : Channels) (last : Option Channels) :
    t.tookSet vRef step n (pick o c) (last.map (pick o)) (outletTracked x t vRef n (step - 1) pick c last).tracker := by
  rw [hx]
  exact Tracker.takeSet_tookSet t vRef step hn _ _

/-! ### The power quantities (R13, R16) -/

/-- R13, R16: P, Q, pu and the overload timer at a set that closes a cell period over the sets before it. -/
theorem Dev.measured_power_of_closes (h : d.admits r) (hc : d.cellRises r ∧ d.msu.cell.capture ≠ none ∧ d.msu.cell.count ≠ 0) :
    (d.measured r).p = sat16 (tdiv (tdiv d.msu.sumP d.msu.cell.count) 10000) ∧
      (d.measured r).q = sat16 (tdiv (tdiv d.msu.sumQ d.msu.cell.count) 10000) ∧
      (d.measured r).pu = sat16 (tdiv ((d.measured r).p * 10000) d.cfg.rating) ∧
      (d.measured r).overload =
        (if (d.cfg.limitPu : Int) ≤ (d.measured r).pu then
          some ((d.msu.overload.map (fun k => k + max 1 (d.positions r))).getD 0) else none) := by
  obtain ⟨hr, hcap, hn⟩ := hc
  have hcl : (d.recorded r).closedBy d.cfg (d.cellTracked r) = (d.recorded r).cellClose d.cfg true :=
    if_pos ((d.cellTracked_closed r).2 ⟨hr, hcap⟩)
  have hne : (d.recorded r).cell.count ≠ 0 := hn
  rw [Dev.measured_eq h, Msu.cellSet_eq, hcl, Msu.cellClose_of_filled hne]
  exact ⟨rfl, rfl, rfl, rfl⟩

/-- R13, R16: a set that closes no period over sets leaves P, Q and pu, and its positions count on the overload timer. -/
theorem Dev.measured_power_of_not_closes (h : d.admits r)
    (hn : ¬(d.cellRises r ∧ d.msu.cell.capture ≠ none ∧ d.msu.cell.count ≠ 0)) :
    (d.measured r).p = d.msu.p ∧ (d.measured r).q = d.msu.q ∧ (d.measured r).pu = d.msu.pu ∧
      (d.measured r).overload = d.msu.overload.map (fun k => k + max 1 (d.positions r)) := by
  have hcl : (d.recorded r).closedBy d.cfg (d.cellTracked r) = d.recorded r := by
    unfold Msu.closedBy
    split
    · rename_i hc
      obtain ⟨hr, hcap⟩ := (d.cellTracked_closed r).1 hc
      exact Msu.cellClose_of_empty (m := d.recorded r) (not_not.1 fun hne => hn ⟨hr, hcap, hne⟩) _ _
    · rfl
  rw [Dev.measured_eq h, Msu.cellSet_eq, hcl]
  exact ⟨rfl, rfl, rfl, rfl⟩

/-- R13: the sums after a set; a crossing begins them anew with the set itself. -/
theorem Dev.measured_sums (h : d.admits r) :
    (d.measured r).sumP = (if (d.cellTracked r).crossed then 0 else d.msu.sumP) + (calibrated d.cfg.gains r).power ∧
      (d.measured r).sumQ = (if (d.cellTracked r).crossed then 0 else d.msu.sumQ) +
        d.msu.reactiveWith (calibrated d.cfg.gains r) (d.measured r).delayK := by
  rw [Dev.measured_eq h, Msu.cellSet_eq]
  exact ⟨rfl, rfl⟩

/-- R13: the delay of the reactive product, and the line of the sets that it reaches back to. -/
theorem Dev.measured_delay (h : d.admits r) :
    (d.measured r).delayK = newDelay d.msu.delayK (d.cellTracked r) ∧
      (d.measured r).delayLine =
        (((calibrated d.cfg.gains r).va, (calibrated d.cfg.gains r).vb, (calibrated d.cfg.gains r).vc) :: d.msu.delayLine).take 64 := by
  rw [Dev.measured_eq h, Msu.cellSet_eq]
  exact ⟨rfl, rfl⟩

/-- R10: both phase differences, each formed anew at a crossing of one of its trackers. -/
theorem Dev.measured_phases (h : d.admits r) :
    (d.measured r).cellBus =
        (if (d.cellTracked r).crossed || (d.busTracked r).crossed then
          d.msu.cellBus.renew (d.measured r).cell (d.measured r).bus else d.msu.cellBus) ∧
      (d.measured r).busShip =
        (if (d.busTracked r).crossed || (d.shipTracked r).crossed then
          d.msu.busShip.renew (d.measured r).bus (d.measured r).ship else d.msu.busShip) := by
  rw [Dev.measured_eq h, Msu.cellSet_eq]
  exact ⟨rfl, rfl⟩

end Sys2Proof.Machine

namespace Sys2Proof.Machine

/-! ### Notices at a sample set -/

/-- The kinds that the blocks behind a set raise on their way stand apart: the store's and the synchroniser's (R160, R156, R100). -/
abbrev NoticeKind.apart (j : NoticeKind) : Prop := j ≠ .badRecord ∧ j ≠ .storeFull ∧ j ≠ .syncTimeout

theorem Dev.raiseIf_entry (d : Dev) (c : Bool) {j k : NoticeKind} (h : j ≠ k) :
    (d.raiseIf c k).ntu.entry j = d.ntu.entry j := by
  simp only [Dev.raiseIf]
  split
  · exact d.raise_entry j k h
  · rfl

theorem Dev.meterSet_entry (d : Dev) (p : Int) {j : NoticeKind} (h : j.apart) :
    (d.meterSet p).ntu.entry j = d.ntu.entry j := by
  simp only [Dev.meterSet]
  split
  · rfl
  · split
    · exact Dev.beginMembership_entry _ _ _ _ h
    · rfl

theorem Dev.takeMet_entry (d : Dev) {j : NoticeKind} (h : j.apart) : d.takeMet.ntu.entry j = d.ntu.entry j := by
  simp only [Dev.takeMet]
  split
  · rfl
  · split
    · exact Dev.changeCon_entry _ _ _ _ _ h
    · rfl

theorem Dev.busCrossing_entry (d : Dev) {j : NoticeKind} (h : j.apart) : d.busCrossing.ntu.entry j = d.ntu.entry j := by
  simp only [Dev.busCrossing]
  split
  · split
    · rw [Dev.takeMet_entry _ h]; simp
    · simp
  · rfl

theorem Dev.takeCrossings_entry (d : Dev) (bus ship : Bool) {j : NoticeKind} (h : j.apart) :
    (d.takeCrossings bus ship).ntu.entry j = d.ntu.entry j := by
  simp only [Dev.takeCrossings]
  cases bus <;> cases ship <;> simp [Dev.busCrossing_entry _ h]

/-- A trip counts the notice of its own cause once (R82, Table 5-4, R165). -/
theorem Dev.trip_own (d : Dev) (cause : TripCause) (on : Option Outlet) {k : NoticeKind} (hk : cause.notice = some k) (h : k.apart) :
    d.ntu.raisedOnce k (d.trip cause on).ntu := by
  have h0 : ((d.setSyu d.syu.clearRun).hocTrip.raiseTrip cause).ntu.entry k = ⟨true, min 255 ((d.ntu.entry k).count + 1)⟩ := by
    simp only [Dev.raiseTrip, hk, Dev.raise_own]
    simp
  unfold Ntu.raisedOnce
  simp only [Dev.trip]
  split
  · rw [Dev.bothChanged_entry _ _ _ _ _ h, Dev.requestEvent_entry _ _ _ h]; simpa using h0
  · rw [Dev.requestEvent_entry _ _ _ h, Dev.bothChanged_entry _ _ _ _ _ h]; simpa using h0

/-- The one trip that a set brings is the overcurrent comparator's (R15). -/
theorem Dev.overTrip_entry (d : Dev) {c : Bool} {j : NoticeKind} (h : j.apart) (hc : c = false ∨ j ≠ .overcurrent) :
    (d.overTrip c).ntu.entry j = d.ntu.entry j := by
  simp only [Dev.overTrip]
  split
  · rename_i hct
    have hj : j ≠ .overcurrent := hc.resolve_left (by simp [hct])
    exact d.trip_entry _ _ _ h (fun e => hj (Option.some.inj e).symm)
  · rfl

/-- R15: the comparator hands a trip on at the set that brings its count to 2. -/
def Dev.comparatorTrips (d : Dev) (r : RawSet) : Bool :=
  decide (d.msu.ocRun < 2) && decide (ocNext d.msu.ocRun (overLevel d.cfg.iTrip (calibrated d.cfg.gains r)) = 2)

/-- The part as an admitted set finds it at the overcurrent comparator: measured, stepped and metered, behind SAMPLE_GAP. -/
def Dev.metered (d : Dev) (r : RawSet) : Dev :=
  let d0 := d.raiseIf (decide (2 ≤ d.positions r)) .sampleGap
  (((d0.setMsu (d.measured r)).watchesBy (d.positions r - 1 + 1)).synthesisSet (d.positions r - 1)).meterSet
    (calibrated d.cfg.gains r).power

/-- An admitted set behind the measurement: the comparator's trip, the bus condition, the crossings (log entry 8). -/
theorem Dev.sampleSet_eq {d : Dev} {r : RawSet} (h : d.admits r) :
    ∃ c bus ship, d.sampleSet r = (((d.metered r).overTrip (d.comparatorTrips r)).takeCond c).takeCrossings bus ship := by
  rw [Dev.sampleSet_of_admits h]
  simp only [Dev.admitSet, Dev.vRefNow, Dev.raiseIf_frame]
  exact ⟨_, _, _, rfl⟩

/-- SAMPLE_GAP counts once for positions missing before the set, whatever their number (R4). -/
theorem Dev.metered_entry (d : Dev) (r : RawSet) {j : NoticeKind} (h : j.apart) :
    (d.metered r).ntu.entry j = (d.raiseIf (decide (2 ≤ d.positions r)) .sampleGap).ntu.entry j := by
  simp [Dev.metered, Dev.meterSet_entry _ _ h]

theorem Dev.takeCond_ntu (d : Dev) (c : Option BusCond) : (d.takeCond c).ntu = d.ntu := by simp

theorem Dev.sampleSet_entry {d : Dev} {r : RawSet} (h : d.admits r) {j : NoticeKind} (hj : j.apart)
    (hc : d.comparatorTrips r = false ∨ j ≠ .overcurrent) :
    (d.sampleSet r).ntu.entry j = (d.raiseIf (decide (2 ≤ d.positions r)) .sampleGap).ntu.entry j := by
  obtain ⟨c, bus, ship, he⟩ := Dev.sampleSet_eq h
  rw [he, Dev.takeCrossings_entry _ _ _ hj, Dev.takeCond_ntu, Dev.overTrip_entry _ hj hc,
    Dev.metered_entry _ _ hj]

/-! ### The admitted set -/

theorem overLevel_iff (i : Nat) (c : Channels) : Sys2Proof.Machine.overLevel i c = true ↔ c.overLevel i := by
  simp [Sys2Proof.Machine.overLevel, Channels.overLevel, or_assoc]

theorem Dev.sampleSet_ocRun {d : Dev} {r : RawSet} (h : d.admits r) :
    ((calibrated d.cfg.gains r).overLevel d.cfg.iTrip → (d.sampleSet r).msu.ocRun = min 2 (d.msu.ocRun + 1)) ∧
      (¬(calibrated d.cfg.gains r).overLevel d.cfg.iTrip → (d.sampleSet r).msu.ocRun = 0) := by
  obtain ⟨b, hb⟩ := Dev.sampleSet_msu h
  simp only [hb, Dev.measured_ocRun h, ← overLevel_iff]
  exact ⟨fun hi => if_pos hi, fun hi => if_neg hi⟩

/-- Settles O10: the record of the set from the measurement, SAMPLE_GAP from the notices, and the frame of the sample port. -/
theorem sampleSetAdmitted : Obligations.SampleSetAdmitted := by
  intro s raw h
  refine ⟨_, exec_sampleSet_up h.1 raw, rfl, ?_⟩
  obtain ⟨b, hb⟩ := Dev.sampleSet_msu h
  obtain ⟨hcount, hseq, hset, hwatch, hgap, hvref, hsec⟩ := Dev.measured_record h
  obtain ⟨hhigh, hlow⟩ := Dev.sampleSet_ocRun h
  obtain ⟨hrun, hpins, hcfg, hlnk, hptb⟩ := s.dev.sampleSet_frame raw
  have hentry := Dev.sampleSet_entry h (j := .sampleGap) (by decide) (.inr (by decide))
  refine ⟨?_, ?_, ?_, ?_, ?_, ?_, ?_, hhigh, hlow, fun hp => ?_, fun hp => ?_, hrun, hpins, hcfg, hlnk, hptb,
    s.dev.sampleSet_mem raw⟩
  · exact (congrArg Msu.setCount hb).trans hcount
  · exact (congrArg Msu.lastSeq hb).trans hseq
  · exact (congrArg Msu.lastSet hb).trans hset
  · exact (congrArg Msu.watch hb).trans hwatch
  · exact (congrArg Msu.setGap hb).trans hgap
  · exact (congrArg Msu.vRef hb).trans hvref
  · exact (congrArg Msu.secSum hb).trans hsec
  · rw [decide_eq_true hp] at hentry
    exact hentry.trans (s.dev.raise_own .sampleGap)
  · rw [decide_eq_false (by omega)] at hentry
    exact hentry

end Sys2Proof.Machine

namespace Sys2Proof.Machine

/-! ### Crossings at an admitted set (R6 to R11, R13, R16) -/

section
variable {d : Dev} {r : RawSet}

/-- R7 to R9: the cell tracker takes the cell voltage of every set. -/
theorem Dev.measured_cell_tookSet (h : d.admits r) :
    d.msu.cell.tookSet d.vRefNow (d.positions r) (d.countAt r)
      ((calibrated d.cfg.gains r).va - (calibrated d.cfg.gains r).vb) (d.msu.lastSet.map (fun l => l.va - l.vb)) (d.measured r).cell := by
  rw [Dev.measured_cell h]
  exact Tracker.takeSet_tookSet _ _ _ (d.countAt_lt r) _ _

/-- R6: the outlet trackers rest without an assignment. -/
theorem Dev.measured_outlets_unassigned (h : d.admits r) (hx : d.hoc.assignment = none) :
    (d.measured r).bus = d.msu.bus ∧ (d.measured r).ship = d.msu.ship := by
  rw [Dev.measured_bus h, Dev.measured_ship h]
  simp only [Dev.busTracked, Dev.shipTracked, hx]
  exact ⟨rfl, rfl⟩

/-- R6 to R9: the bus and the ship tracker take the voltages of the assigned outlet. -/
theorem Dev.measured_outlets_tookSet (h : d.admits r) {x : Outlet} (hx : d.hoc.assignment = some x) :
    d.msu.bus.tookSet d.vRefNow (d.positions r) (d.countAt r) ((calibrated d.cfg.gains r).busOf x)
        (d.msu.lastSet.map (fun l => l.busOf x)) (d.measured r).bus ∧
      d.msu.ship.tookSet d.vRefNow (d.positions r) (d.countAt r) ((calibrated d.cfg.gains r).shipOf x)
        (d.msu.lastSet.map (fun l => l.shipOf x)) (d.measured r).ship := by
  rw [Dev.measured_bus h, Dev.measured_ship h]
  exact ⟨outletTracked_tookSet hx _ _ _ (d.countAt_lt r) (fun o l => l.busOf o) _ _,
    outletTracked_tookSet hx _ _ _ (d.countAt_lt r) (fun o l => l.shipOf o) _ _⟩

def Dev.busRises (d : Dev) (r : RawSet) : Prop :=
  ∃ x, d.hoc.assignment = some x ∧ d.msu.bus.rises ((calibrated d.cfg.gains r).busOf x) (d.msu.lastSet.map (fun l => l.busOf x))

def Dev.shipRises (d : Dev) (r : RawSet) : Prop :=
  ∃ x, d.hoc.assignment = some x ∧ d.msu.ship.rises ((calibrated d.cfg.gains r).shipOf x) (d.msu.lastSet.map (fun l => l.shipOf x))

theorem Dev.busTracked_crossed (d : Dev) (r : RawSet) : (d.busTracked r).crossed = true ↔ d.busRises r := outletTracked_crossed ..
theorem Dev.shipTracked_crossed (d : Dev) (r : RawSet) : (d.shipTracked r).crossed = true ↔ d.shipRises r :=
  outletTracked_crossed ..

/-- R13: a crossing begins both sums anew with the set; without one the set adds to them. -/
theorem Dev.measured_sums_of_rises (h : d.admits r) (hr : d.cellRises r) :
    (d.measured r).sumP = (calibrated d.cfg.gains r).power ∧
      (d.measured r).sumQ = d.msu.reactiveWith (calibrated d.cfg.gains r) (d.measured r).delayK := by
  obtain ⟨hp, hq⟩ := Dev.measured_sums h
  have hc := (d.cellTracked_crossed r).2 hr
  exact ⟨by rw [hp, if_pos hc, Int.zero_add], by rw [hq, if_pos hc, Int.zero_add]⟩

theorem Dev.measured_sums_of_not_rises (h : d.admits r) (hr : ¬d.cellRises r) :
    (d.measured r).sumP = d.msu.sumP + (calibrated d.cfg.gains r).power ∧
      (d.measured r).sumQ = d.msu.sumQ + d.msu.reactiveWith (calibrated d.cfg.gains r) (d.measured r).delayK := by
  obtain ⟨hp, hq⟩ := Dev.measured_sums h
  have hc : ¬(d.cellTracked r).crossed = true := mt (d.cellTracked_crossed r).1 hr
  exact ⟨by rw [hp, if_neg hc], by rw [hq, if_neg hc]⟩

/-- R13: a period in range gives the delay of the reactive product. -/
theorem Dev.measured_delayK_of_closes (h : d.admits r)
    (hc : d.cellRises r ∧ d.msu.cell.capture ≠ none ∧ (d.measured r).cell.freqValid = true) :
    (d.measured r).delayK = (d.measured r).cell.period.map (fun p => p / 1024) := by
  obtain ⟨hr, hcap, hv⟩ := hc
  rw [Dev.measured_cell h] at hv ⊢
  rw [(Dev.measured_delay h).1, newDelay, if_pos (by rw [(d.cellTracked_closed r).2 ⟨hr, hcap⟩, hv]; rfl)]

theorem Dev.measured_delayK_of_not_closes (h : d.admits r)
    (hc : ¬(d.cellRises r ∧ d.msu.cell.capture ≠ none ∧ (d.measured r).cell.freqValid = true)) :
    (d.measured r).delayK = d.msu.delayK := by
  rw [Dev.measured_cell h] at hc
  rw [(Dev.measured_delay h).1, newDelay, if_neg]
  intro hk
  obtain ⟨hcl, hv⟩ := Bool.and_eq_true_iff.1 hk
  obtain ⟨hr, hcap⟩ := (d.cellTracked_closed r).1 hcl
  exact hc ⟨hr, hcap, hv⟩

/-- R10: each phase difference is formed once at a crossing of either of its trackers, and kept otherwise. -/
theorem Dev.measured_cellBus (h : d.admits r) :
    (d.cellRises r ∨ d.busRises r → d.msu.cellBus.formedFrom (d.measured r).cell (d.measured r).bus (d.measured r).cellBus) ∧
      (¬d.cellRises r → ¬d.busRises r → (d.measured r).cellBus = d.msu.cellBus) := by
  rw [← d.cellTracked_crossed r, ← d.busTracked_crossed r, (Dev.measured_phases h).1]
  refine ⟨fun hc => ?_, fun h1 h2 => if_neg (by simp [h1, h2])⟩
  rw [if_pos (Bool.or_eq_true_iff.2 hc)]
  exact PhaseDiff.renew_formedFrom _ _ _

theorem Dev.measured_busShip (h : d.admits r) :
    (d.busRises r ∨ d.shipRises r → d.msu.busShip.formedFrom (d.measured r).bus (d.measured r).ship (d.measured r).busShip) ∧
      (¬d.busRises r → ¬d.shipRises r → (d.measured r).busShip = d.msu.busShip) := by
  rw [← d.busTracked_crossed r, ← d.shipTracked_crossed r, (Dev.measured_phases h).2]
  refine ⟨fun hc => ?_, fun h1 h2 => if_neg (by simp [h1, h2])⟩
  rw [if_pos (Bool.or_eq_true_iff.2 hc)]
  exact PhaseDiff.renew_formedFrom _ _ _

/-- A crossing of the cell voltage with no missing set before it closes a period in range: what the tracker and the power quantities show
(R7, R8, R11, R13). -/
theorem Dev.measured_of_cell_period (h : d.admits r) {old : Nat} (hp : d.positions r = 1) (hr : d.cellRises r)
    (hcap : d.msu.cell.capture = some old) (hn : d.msu.cell.count ≠ 0)
    (time : Nat) (ht : time = capturedAt 1 (d.countAt r) ((calibrated d.cfg.gains r).va - (calibrated d.cfg.gains r).vb)
      (d.msu.lastSet.map (fun l => l.va - l.vb)))
    (hlo : 35109 ≤ (time + 4294967296 - old) % 4294967296) (hhi : (time + 4294967296 - old) % 4294967296 ≤ 61440) :
    (d.measured r).cell.capture = some time ∧ (d.measured r).cell.period = some ((time + 4294967296 - old) % 4294967296) ∧
      (d.measured r).cell.freqValid = true ∧
      (d.measured r).cell.freq = some ((2457600000 + (time + 4294967296 - old) % 4294967296 / 2) /
        ((time + 4294967296 - old) % 4294967296)) ∧
      (d.measured r).cell.armed = false ∧ (d.measured r).cell.count = 1 ∧
      (d.measured r).cell.rmsOf d.msu.cell.sumSq d.msu.cell.count d.vRefNow := by
  have htook := Dev.measured_cell_tookSet h
  rw [hp] at htook
  obtain ⟨-, -, hlater⟩ := htook
  obtain ⟨hc, ha, -, hcount, -, hper, hvalid, hfreq, -, hrms⟩ := hlater old hr hcap
  rw [← ht] at hc hper hvalid hfreq
  exact ⟨hc, hper, hvalid.trans (decide_eq_true ⟨hlo, hhi⟩), hfreq.trans (if_pos ⟨hlo, hhi⟩), ha, hcount, hrms hn⟩

end

/-- Settles O11: the measured quantities of the set stand in the part, since nothing behind the measurement touches any of them but the bus
condition. -/
theorem cellCrossingClosesThePeriod : Obligations.CellCrossingClosesThePeriod := by
  constructor
  · intro s raw l old h hp hl hneg harm hcap hn c v time period hv hlo hhi
    have hr : s.dev.cellRises raw := ⟨harm, hv, _, by rw [hl]; rfl, hneg⟩
    have ht : time = capturedAt 1 (s.dev.countAt raw) v (s.dev.msu.lastSet.map (fun l => l.va - l.vb)) := by
      simp only [hl, Option.map_some, capturedAt, Dev.countAt, hp, time, Nat.le_refl, if_true]
    obtain ⟨b, hb⟩ := Dev.sampleSet_msu h
    obtain ⟨htime, hper, hvalid, hfreq, harmed, hcount, hrms⟩ := Dev.measured_of_cell_period h hp hr hcap hn time ht hlo hhi
    obtain ⟨hP, -, hpu, -⟩ := Dev.measured_power_of_closes h ⟨hr, by simp [hcap], hn⟩
    refine ⟨_, exec_sampleSet_up h.1 raw, rfl, ?_⟩
    rw [State.onDev_dev, hb]
    exact ⟨htime, hper, hvalid, hfreq, harmed, hcount, hrms, hP, hpu, (Dev.measured_sums_of_rises h hr).1⟩
  · intro s raw h
    obtain ⟨b, hb⟩ := Dev.sampleSet_msu h
    refine ⟨_, exec_sampleSet_up h.1 raw, rfl, ?_⟩
    rw [State.onDev_dev, hb]
    exact ⟨Dev.measured_cell_tookSet h, Dev.measured_outlets_unassigned h, fun x hx => Dev.measured_outlets_tookSet h hx,
      Dev.measured_power_of_closes h, Dev.measured_power_of_not_closes h, Dev.measured_sums_of_rises h,
      Dev.measured_sums_of_not_rises h, (Dev.measured_delay h).2, Dev.measured_delayK_of_closes h,
      Dev.measured_delayK_of_not_closes h, (Dev.measured_cellBus h).1, (Dev.measured_cellBus h).2, (Dev.measured_busShip h).1,
      (Dev.measured_busShip h).2⟩

end Sys2Proof.Machine

namespace Sys2Proof.Machine

/-! ### A set behind the overcurrent trip (R15, R82, R126) -/

theorem Dev.reconsider_of_tripped {d : Dev} (h : d.hoc.state = .tripped) : d.reconsider = d := by simp only [Dev.reconsider, h]

/-- A bus condition formed in TRIPPED moves nothing. -/
theorem Dev.takeCond_of_tripped {d : Dev} (h : d.hoc.state = .tripped) (c : Option BusCond) :
    (d.takeCond c).hoc = d.hoc ∧ (d.takeCond c).syu = d.syu ∧ (d.takeCond c).ctc = d.ctc := by
  cases c with
  | none => exact ⟨rfl, rfl, rfl⟩
  | some v =>
    simp only [Dev.takeCond, Dev.setBusCond]
    split
    · exact ⟨rfl, rfl, rfl⟩
    · rw [Dev.reconsider_of_tripped (by simpa using h)]
      exact ⟨rfl, rfl, rfl⟩

/-- The joining offsets are written in JOINING only (R34). -/
theorem Dev.joinBy_of_not_joining {d : Dev} (h : d.hoc.state ≠ .joining) (x : Int) : d.joinBy x = d := by
  simp [Dev.joinBy, Dev.joinOpen, h]

theorem Dev.steerVoltageBy_of_not_joining {d : Dev} (h : d.hoc.state ≠ .joining) (x : Int) : d.steerVoltageBy x = d := by
  simp [Dev.steerVoltageBy, Dev.joinOpen, h]

/-- The steering of the ship channel writes f_ramp in MATCHING only (Table 2-2). -/
theorem Dev.rampBy_ship_of_not_matching {d : Dev} (h : d.hoc.state ≠ .matching) (x : Int) : d.rampBy .shipSteering x = d := by
  simp [Dev.rampBy, Writer.listed, h]

theorem Dev.steerCell_of_not_joining {d : Dev} (h : d.hoc.state ≠ .joining) : d.steerCell = d := by
  simp only [Dev.steerCell]
  split
  · simp [Dev.joinBy_of_not_joining h]
  · rfl

theorem Dev.steerVoltage_of_not_joining {d : Dev} (h : d.hoc.state ≠ .joining) : d.steerVoltage = d := by
  simp only [Dev.steerVoltage]
  split
  · simp [Dev.steerVoltageBy_of_not_joining h]
  · rfl

theorem Dev.steerShip_of_not_matching {d : Dev} (h : d.hoc.state ≠ .matching) : d.steerShip = d := by
  simp only [Dev.steerShip]
  split
  · simp [Dev.rampBy_ship_of_not_matching h]
  · rfl

theorem Dev.cellCrossing_syu {d : Dev} (h : d.hoc.state ≠ .joining) : d.cellCrossing.syu = d.syu := by
  simp only [Dev.cellCrossing]
  split
  · rw [Dev.steerCell_of_not_joining (by simpa using h), Dev.steerVoltage_of_not_joining (by simpa using h)]
    simp
  · rfl

theorem Dev.shipCrossing_syu {d : Dev} (h : d.hoc.state ≠ .matching) : d.shipCrossing.syu = d.syu := by
  simp only [Dev.shipCrossing]
  split
  · rw [Dev.steerShip_of_not_matching (by simpa using h)]
    simp
  · rfl

theorem Dev.takeMet_of_not_joining {d : Dev} (h : d.hoc.state ≠ .joining) : d.takeMet = d := by
  simp only [Dev.takeMet]
  split
  · rfl
  · simp [h]

/-- Outside JOINING a bus crossing is the evaluation of the cell channel alone (R91, R115). -/
theorem Dev.busCrossing_of_not_joining {d : Dev} (h : d.hoc.state ≠ .joining) : d.busCrossing = d.cellCrossing := by
  simp only [Dev.busCrossing]
  split
  · rw [Dev.takeMet_of_not_joining (by simpa using h), ite_self]
  · rename_i hn
    simp only [Dev.cellCrossing, if_neg hn]

/-- The crossings of a set move nothing in TRIPPED: no steering, and no close for a MET. -/
theorem Dev.takeCrossings_of_tripped {d : Dev} (h : d.hoc.state = .tripped) (bus ship : Bool) :
    (d.takeCrossings bus ship).hoc = d.hoc ∧ (d.takeCrossings bus ship).syu = d.syu ∧ (d.takeCrossings bus ship).ctc = d.ctc := by
  have hj : d.hoc.state ≠ .joining := by simp [h]
  have hm : d.hoc.state ≠ .matching := by simp [h]
  have hb : d.cellCrossing.hoc.state ≠ .matching := by simpa using hm
  cases bus <;> cases ship <;>
    simp [Dev.takeCrossings, Dev.busCrossing_of_not_joining hj, Dev.cellCrossing_syu hj, Dev.shipCrossing_syu hm,
      Dev.shipCrossing_syu hb]

/-- The measurement, the step and the meter leave the handover controller, the contactors and the configuration. -/
theorem Dev.metered_frame (d : Dev) (r : RawSet) :
    (d.metered r).hoc = d.hoc ∧ (d.metered r).ctc = d.ctc ∧ (d.metered r).cfg = d.cfg := by
  simp [Dev.metered]

/-- R15, R82: a set that trips leaves the handover controller, the synthesis unit and the contactors as its trip leaves them. -/
theorem Dev.sampleSet_of_comparatorTrips {d : Dev} {r : RawSet} (h : d.admits r) (hc : d.comparatorTrips r = true) :
    (d.sampleSet r).hoc = ((d.metered r).trip .overcurrent none).hoc ∧
      (d.sampleSet r).syu = ((d.metered r).trip .overcurrent none).syu ∧
      (d.sampleSet r).ctc = ((d.metered r).trip .overcurrent none).ctc := by
  obtain ⟨c, bus, ship, he⟩ := Dev.sampleSet_eq h
  obtain ⟨ht, -⟩ := (d.metered r).trip_effect .overcurrent none
  have htrip : (d.metered r).overTrip true = (d.metered r).trip .overcurrent none := rfl
  obtain ⟨hh, hs, hk⟩ := Dev.takeCond_of_tripped ht c
  obtain ⟨hh2, hs2, hk2⟩ := Dev.takeCrossings_of_tripped (hh ▸ ht) bus ship
  rw [he, hc, htrip]
  exact ⟨hh2.trans hh, hs2.trans hs, hk2.trans hk⟩

/-- R15: the notice of the comparator's trip, counted once. -/
theorem Dev.sampleSet_overcurrent {d : Dev} {r : RawSet} (h : d.admits r) (hc : d.comparatorTrips r = true) :
    d.ntu.raisedOnce .overcurrent (d.sampleSet r).ntu := by
  obtain ⟨c, bus, ship, he⟩ := Dev.sampleSet_eq h
  have hgap : (d.metered r).ntu.entry .overcurrent = d.ntu.entry .overcurrent := by
    rw [Dev.metered_entry _ _ (by decide), Dev.raiseIf_entry _ _ (by decide)]
  have hown := (d.metered r).trip_own .overcurrent none rfl (k := .overcurrent) (by decide)
  rw [Ntu.raisedOnce, hgap] at hown
  rw [he, hc, Ntu.raisedOnce, Dev.takeCrossings_entry _ _ _ (by decide), Dev.takeCond_ntu]
  exact hown

/-- R15: the count reaches 2 at an over-level set that finds it at 1, and at no other. -/
theorem Dev.comparatorTrips_iff (d : Dev) (r : RawSet) :
    d.comparatorTrips r = true ↔ (calibrated d.cfg.gains r).overLevel d.cfg.iTrip ∧ d.msu.ocRun = 1 := by
  simp only [Dev.comparatorTrips, ocNext, Bool.and_eq_true, decide_eq_true_eq, overLevel_iff]
  by_cases hi : (calibrated d.cfg.gains r).overLevel d.cfg.iTrip
  · simp only [if_pos hi]
    omega
  · simp [hi]

/-- R15: a set at which no trip is handed on leaves the notice as it was. -/
theorem Dev.sampleSet_no_overcurrent {d : Dev} {r : RawSet} (h : d.admits r) (hc : ¬d.comparatorTrips r = true) :
    (d.sampleSet r).ntu.entry .overcurrent = d.ntu.entry .overcurrent := by
  rw [Dev.sampleSet_entry h (by decide) (.inl (by simpa using hc)), Dev.raiseIf_entry _ _ (by decide)]

/-- Settles O14: the comparator's count at every set, and the trip at the one set that brings it to 2. -/
theorem overcurrentComparatorTripsOnce : Obligations.OvercurrentComparatorTripsOnce := by
  constructor
  · intro s raw h _ c i high
    obtain ⟨hhigh, hlow⟩ := Dev.sampleSet_ocRun h
    refine ⟨_, exec_sampleSet_up h.1 raw, rfl, fun hn => ⟨hlow hn, ?_⟩, hhigh, fun _ hrun => ?_, fun hi hrun => ?_⟩
    · exact Dev.sampleSet_no_overcurrent h fun ht => hn ((s.dev.comparatorTrips_iff raw).1 ht).1
    · exact Dev.sampleSet_no_overcurrent h fun ht => hrun ((s.dev.comparatorTrips_iff raw).1 ht).2
    · have hc := (s.dev.comparatorTrips_iff raw).2 ⟨hi, hrun⟩
      obtain ⟨hhoc, hsyu, hctc⟩ := Dev.sampleSet_of_comparatorTrips h hc
      obtain ⟨hst, hdrop, ⟨hclear, hv, hf, hlim, -⟩, hmode, ha, hb, -⟩ := (s.dev.metered raw).trip_effect .overcurrent none
      obtain ⟨mhoc, mctc, mcfg⟩ := s.dev.metered_frame raw
      rw [mhoc] at hdrop
      rw [mctc, mcfg] at ha hb
      simp only [State.onDev_dev, hhoc, hsyu, hctc]
      exact ⟨Dev.sampleSet_overcurrent h hc, hst, hdrop, hclear, hmode, hv, hf, hlim, ha, hb⟩
  · rintro c i hi (h | h | h)
    · exact .inl (h ▸ hi)
    · exact .inr (.inl (h ▸ hi))
    · exact .inr (.inr (h ▸ hi))

end Sys2Proof.Machine

namespace Sys2Proof.Machine

/-! ### Fallback closes (R9) -/

/-- Below 480 positions no fallback close is due. -/
theorem Dev.fallbackClose_cell_of_lt {d : Dev} (h : d.msu.cell.fallback < 480) : d.fallbackClose .cell = d := if_neg (by omega)
theorem Dev.fallbackClose_bus_of_lt {d : Dev} (h : d.msu.bus.fallback < 480) : d.fallbackClose .bus = d := if_neg (by omega)
theorem Dev.fallbackClose_ship_of_lt {d : Dev} (h : d.msu.ship.fallback < 480) : d.fallbackClose .ship = d := if_neg (by omega)

/-- R9: a fallback close keeps the last crossing and the frequency, marks it invalid, and empties the window. -/
theorem Tracker.fallbackClose_eq (k : Tracker) (vRef : Nat) :
    k.fallbackClose vRef =
      { k with
        freqValid := false
        fallback := 0
        count := 0
        sumSq := 0
        rms := (k.fallbackClose vRef).rms
        ratio := (k.fallbackClose vRef).ratio } := by
  unfold Tracker.fallbackClose
  rw [k.formRms_eta vRef]

theorem Tracker.fallbackClose_of_empty {k : Tracker} (h : k.count = 0) (vRef : Nat) :
    (k.fallbackClose vRef).rms = k.rms ∧ (k.fallbackClose vRef).ratio = k.ratio := by
  simp only [Tracker.fallbackClose, Tracker.formRms_of_empty h, and_self]

theorem Tracker.fallbackClose_rmsOf {k : Tracker} (h : k.count ≠ 0) (vRef : Nat) :
    (k.fallbackClose vRef).rmsOf k.sumSq k.count vRef := Tracker.rmsOf_formRms h vRef rfl rfl

/-- R9, R13: the cell tracker's fallback close forms P and pu with Q 0, and empties both sums. -/
theorem Msu.cellFallback_eq (m : Msu) (cfg : Cfg) :
    m.cellFallback cfg =
      { m with
        cell := m.cell.fallbackClose m.vRef
        p := (m.cellClose cfg false).p
        q := (m.cellClose cfg false).q
        pu := (m.cellClose cfg false).pu
        overload := (m.cellClose cfg false).overload
        sumP := 0
        sumQ := 0 } := by
  unfold Msu.cellFallback
  rw [m.cellClose_eta cfg false]

/-- R12: the condition that a fallback close of the bus tracker forms, none over an empty window. -/
theorem closedCond_fallback (k : Tracker) (vRef : Nat) :
    closedCond k ⟨k.fallbackClose vRef, false, true⟩ vRef =
      if k.count = 0 then none else (k.fallbackClose vRef).rms.map (fun r => busCondOf r vRef) := by
  by_cases h : k.count = 0 <;> simp [closedCond, h]

theorem Dev.fallbackClose_cell {d : Dev} (h : 480 ≤ d.msu.cell.fallback) :
    d.fallbackClose .cell = d.setMsu (d.msu.cellFallback d.cfg) := if_pos h

theorem Dev.fallbackClose_bus {d : Dev} (h : 480 ≤ d.msu.bus.fallback) :
    d.fallbackClose .bus = (d.setMsu { d.msu with bus := d.msu.bus.fallbackClose d.msu.vRef }).takeCond
      (closedCond d.msu.bus ⟨d.msu.bus.fallbackClose d.msu.vRef, false, true⟩ d.msu.vRef) := if_pos h

theorem Dev.fallbackClose_ship {d : Dev} (h : 480 ≤ d.msu.ship.fallback) :
    d.fallbackClose .ship = d.setMsu { d.msu with ship := d.msu.ship.fallbackClose d.msu.vRef } := if_pos h

/-- A part that differs from another in no block but the measurement, the synthesis unit, the synchroniser and the handover controller. -/
theorem Dev.eq_of_frame {d e : Dev} (hrun : e.run = d.run) (hpins : e.pins = d.pins) (hcfg : e.cfg = d.cfg) (hlnk : e.lnk = d.lnk)
    (hptb : e.ptb = d.ptb) (hctc : e.ctc = d.ctc) (hmtr : e.mtr = d.mtr) (hrst : e.rst = d.rst) (hntu : e.ntu = d.ntu)
    (hfree : e.freeIdx = d.freeIdx) : e = { d with msu := e.msu, syu := e.syu, syn := e.syn, hoc := e.hoc } := by
  rw [← hrun, ← hpins, ← hcfg, ← hlnk, ← hptb, ← hctc, ← hmtr, ← hrst, ← hntu, ← hfree]

/-- A bus condition handed out reaches the synthesis unit, the synchroniser and the handover controller, and no other block (R12). -/
theorem Dev.takeCond_eq (d : Dev) (c : Option BusCond) :
    d.takeCond c =
      { d with
        msu := { d.msu with busCond := c.getD d.msu.busCond }
        syu := (d.takeCond c).syu
        syn := (d.takeCond c).syn
        hoc := (d.takeCond c).hoc } := by
  obtain ⟨hrun, hpins, hcfg, hlnk, hptb, hctc, hmtr, hrst, hntu, hfree⟩ := d.takeCond_frame c
  rw [← Dev.takeCond_msu]
  exact Dev.eq_of_frame hrun hpins hcfg hlnk hptb hctc hmtr hrst hntu hfree

/-- The fallback close of the cell tracker: P, pu and the overload timer over the window, Q 0, and the sums empty. -/
theorem Dev.cellFallback_shows (d : Dev) {t : Dev} (ht : t = d.setMsu (d.msu.cellFallback d.cfg)) :
    t = { d with msu := t.msu } ∧
      t.msu.cell = { d.msu.cell with
        freqValid := false, fallback := 0, count := 0, sumSq := 0, rms := t.msu.cell.rms, ratio := t.msu.cell.ratio } ∧
      t.msu = { d.msu with
        cell := t.msu.cell, p := t.msu.p, q := t.msu.q, pu := t.msu.pu, overload := t.msu.overload, sumP := 0, sumQ := 0 } ∧
      (d.msu.cell.count = 0 → t.msu.cell.rms = d.msu.cell.rms ∧ t.msu.cell.ratio = d.msu.cell.ratio ∧ t.msu.p = d.msu.p ∧
        t.msu.q = d.msu.q ∧ t.msu.pu = d.msu.pu ∧ t.msu.overload = d.msu.overload) ∧
      (d.msu.cell.count ≠ 0 → t.msu.cell.rmsOf d.msu.cell.sumSq d.msu.cell.count d.msu.vRef ∧ t.msu.q = 0 ∧
        t.msu.p = sat16 (tdiv (tdiv d.msu.sumP d.msu.cell.count) 10000) ∧
        t.msu.pu = sat16 (tdiv (t.msu.p * 10000) d.cfg.rating) ∧
        t.msu.overload = (if (d.cfg.limitPu : Int) ≤ t.msu.pu then some (d.msu.overload.getD 0) else none)) := by
  subst ht
  rw [Msu.cellFallback_eq]
  refine ⟨rfl, Tracker.fallbackClose_eq _ _, rfl, fun hz => ?_, fun hn => ?_⟩
  · obtain ⟨hrms, hratio⟩ := Tracker.fallbackClose_of_empty hz d.msu.vRef
    rw [Msu.cellClose_of_empty hz]
    exact ⟨hrms, hratio, rfl, rfl, rfl, rfl⟩
  · rw [Msu.cellClose_of_filled hn]
    exact ⟨Tracker.fallbackClose_rmsOf hn _, rfl, rfl, rfl, rfl⟩

/-- Settles O16, tracker by tracker, due and not due. -/
theorem fallbackCloseOfEachTracker : Obligations.FallbackCloseOfEachTracker := by
  intro s hup m
  refine ⟨fun hdue => ⟨_, exec_fallbackClose_up hup _, rfl, ?_⟩, fun hdue => ⟨_, exec_fallbackClose_up hup _, rfl, ?_⟩,
    fun hdue => ⟨_, exec_fallbackClose_up hup _, rfl, ?_⟩, fun h => ?_, fun h => ?_, fun h => ?_⟩
  · obtain ⟨hdev, hcell, hmsu, hempty, hfilled⟩ := s.dev.cellFallback_shows (Dev.fallbackClose_cell hdue)
    refine ⟨hdev, hcell, ?_, ?_, ?_, ?_, ?_, ?_, ?_, hmsu, hempty, hfilled⟩ <;>
      rw [State.onDev_dev, Dev.fallbackClose_cell hdue, Msu.cellFallback_eq] <;> rfl
  · rw [State.onDev_dev, Dev.fallbackClose_bus hdue, closedCond_fallback, Dev.takeCond_msu]
    refine ⟨Dev.takeCond_eq _ _, Tracker.fallbackClose_eq _ _, rfl, rfl, rfl, rfl, rfl, fun hz => ?_, fun hn => ?_⟩
    · obtain ⟨hrms, hratio⟩ := Tracker.fallbackClose_of_empty hz m.vRef
      exact ⟨hrms, hratio, by rw [if_pos hz]; rfl⟩
    · refine ⟨Tracker.fallbackClose_rmsOf hn _, fun r hr => ?_⟩
      have hrms : (s.dev.msu.bus.fallbackClose s.dev.msu.vRef).rms = some r := hr
      rw [if_neg hn, hrms]
      rfl
  · rw [State.onDev_dev, Dev.fallbackClose_ship hdue]
    exact ⟨rfl, Tracker.fallbackClose_eq _ _, rfl, rfl, fun hz => Tracker.fallbackClose_of_empty hz _,
      fun hn => Tracker.fallbackClose_rmsOf hn _⟩
  · rw [exec_fallbackClose_up hup, State.onDev_eq_self (Dev.fallbackClose_cell_of_lt h)]
  · rw [exec_fallbackClose_up hup, State.onDev_eq_self (Dev.fallbackClose_bus_of_lt h)]
  · rw [exec_fallbackClose_up hup, State.onDev_eq_self (Dev.fallbackClose_ship_of_lt h)]

end Sys2Proof.Machine

namespace Sys2Proof.Machine

/-! ### Records staged (R149, R153) -/

/-- The engine's choice neither numbers nor takes a record: it may drop a slot found bad, and marks entries in program (R152, R160). -/
theorem Rst.staged_markFirst (k : Nat) (l : List Staged) :
    (markFirst k l).map (fun e => (e.seq, e.image)) = l.map (fun e => (e.seq, e.image)) := by
  induction l generalizing k with
  | nil => cases k <;> rfl
  | cons e l ih =>
    cases k with
    | zero => rfl
    | succ k =>
      simp only [markFirst]
      split <;> simp [ih]

/-- A store that holds the same staged records under the same newest number. -/
def Rst.sameStaged (r t : Rst) : Prop := t.newest = r.newest ∧ t.staged = r.staged

theorem Rst.sameStaged_refl (r : Rst) : r.sameStaged r := ⟨rfl, rfl⟩

theorem Rst.sameStaged.trans {r t u : Rst} (h : r.sameStaged t) (g : t.sameStaged u) : r.sameStaged u :=
  ⟨g.1.trans h.1, g.2.trans h.2⟩

theorem Rst.startProgram_sameStaged (r : Rst) : r.sameStaged r.startProgram := by
  simp only [Rst.startProgram]
  (repeat' split) <;> exact ⟨rfl, Rst.staged_markFirst 4 r.queue⟩

theorem Dev.readLoop_sameStaged (n : Nat) (j : Job) (d : Dev) : d.rst.sameStaged (Dev.readLoop n j d).rst := by
  induction n generalizing d with
  | zero => exact d.rst.sameStaged_refl
  | succ n ih =>
    simp only [Dev.readLoop]
    split
    · exact ⟨rfl, rfl⟩
    · rename_i h _
      exact Rst.sameStaged.trans (t := d.rst.dropSlot h) ⟨rfl, rfl⟩ (ih _)

theorem Dev.engineChoice_sameStaged (d : Dev) : d.rst.sameStaged d.engineChoice.rst := by
  have hread : d.rst.sameStaged d.collectionRead.rst := by
    simp only [Dev.collectionRead]
    (repeat' split)
    · exact d.rst.sameStaged_refl
    · exact d.rst.sameStaged_refl
    · exact d.readLoop_sameStaged _ _
  have hwork : ∀ e : Dev, e.rst.sameStaged e.engineWork.rst := by
    intro e
    simp only [Dev.engineWork]
    (repeat' split)
    · exact ⟨rfl, rfl⟩
    · exact ⟨rfl, rfl⟩
    · exact ⟨rfl, rfl⟩
    · exact e.rst.startProgram_sameStaged
    · exact e.rst.sameStaged_refl
  simp only [Dev.engineChoice]
  split
  · exact hread.trans (hwork _)
  · exact d.rst.sameStaged_refl

/-- The timers and the demand that an entry brings leave the records. -/
theorem Rst.afterJoin_sameStaged (c : Cfg) (r : Rst) : r.sameStaged (r.afterJoin c) := by
  have htimers : r.sameStaged (r.joinTimers c) := by
    simp only [Rst.joinTimers]
    split <;> exact ⟨rfl, rfl⟩
  have hdemand : ∀ q : Rst, q.sameStaged q.demand := by
    intro q
    simp only [Rst.demand]
    split <;> exact ⟨rfl, rfl⟩
  simp only [Rst.afterJoin]
  split
  · exact htimers.trans (hdemand _)
  · exact htimers

theorem Rst.join_staged (r : Rst) (x : Rec) :
    (r.join x).staged = r.staged ++ [(r.newest + 1, recordImage (r.newest + 1) x)] := by
  simp [Rst.join, Rst.staged]

/-- R149: an offer that finds room is taken under the next number. -/
theorem Dev.stage_tookRecords {d : Dev} (h : d.rst.free ≠ 0) (x : Rec) : d.rst.tookRecords [x] (d.stage x).rst := by
  simp only [Dev.stage, if_neg h]
  obtain ⟨hn, hs⟩ := ((d.rst.join x).afterJoin_sameStaged d.cfg).trans
    (Dev.engineChoice_sameStaged (d.setRst ((d.rst.join x).afterJoin d.cfg)))
  exact ⟨hn, hs.trans (d.rst.join_staged x)⟩

/-- Records taken in turn are the records taken together. -/
theorem Rst.tookRecords_append {r t u : Rst} {l m : List Rec} (h : r.tookRecords l t) (g : t.tookRecords m u) :
    r.tookRecords (l ++ m) u := by
  obtain ⟨hn, hs⟩ := h
  obtain ⟨gn, gs⟩ := g
  refine ⟨by rw [gn, hn, List.length_append]; omega, ?_⟩
  rw [gs, hs, hn, List.mapIdx_append, List.append_assoc]
  congr 3
  funext i x
  have hi : r.newest + l.length + 1 + i = r.newest + 1 + (i + l.length) := by omega
  rw [hi]

theorem Rst.tookRecords_nil (r : Rst) : r.tookRecords [] r := ⟨rfl, by simp⟩

/-- The free count falls by the records taken, short of the last sequence numbers (R149). -/
theorem Rst.free_of_tookRecords {r t : Rst} {l : List Rec} (h : r.tookRecords l t) (hn : r.newest + l.length < 4294967295) :
    t.free = r.free - l.length := by
  obtain ⟨tn, ts⟩ := h
  have hq : t.queue.length = r.queue.length + l.length := by
    have := congrArg List.length ts
    simpa [Rst.staged] using this
  rw [Rst.free, Rst.free, if_neg (by omega), if_neg (by omega), hq]
  omega

end Sys2Proof.Machine

namespace Sys2Proof.Machine

/-! ### The join age (R116) -/

theorem Dev.joinSecond_of_not_due {d : Dev} (h : d.ownMember = false ∨ d.hoc.joinTicks < 500) : d.joinSecond = d := by
  refine if_neg fun hd => ?_
  rcases h with h | h
  · simp [h] at hd
  · omega

theorem Dev.joinSecond_of_due {d : Dev} (hm : d.ownMember = true) (ht : 500 ≤ d.hoc.joinTicks) :
    d.joinSecond = d.setHoc { d.hoc with joinTicks := d.hoc.joinTicks - 500, joinAge := min 65535 (d.hoc.joinAge + 1) } :=
  if_pos ⟨hm, ht⟩

/-! ### The second and its boundary (R133, R136 to R138) -/

/-- The demand of the second ended: own mean, and that of the outlet with the other members' announced P (R138). -/
def Dev.outletDemand (d : Dev) : Int := max d.msu.secondMean (sat16 (d.msu.secondMean + d.othersP))

/-- The open interval with the demand of the second in its peaks, where a set of the second was metered (R138). -/
def Dev.countedInterval (d : Dev) : Interval :=
  if d.mtr.meteredMark = true then
    { d.mtr.interval with
      ownPeak := if d.mtr.interval.seconds = 0 then d.msu.secondMean else max d.mtr.interval.ownPeak d.msu.secondMean
      outletPeak := if d.mtr.interval.seconds = 0 then d.outletDemand else max d.mtr.interval.outletPeak d.outletDemand
      seconds := d.mtr.interval.seconds + 1 }
  else d.mtr.interval

/-- The demand moves the peaks and the seconds of the interval alone. -/
theorem Dev.countedInterval_frame (d : Dev) :
    d.countedInterval.metered = d.mtr.interval.metered ∧ d.countedInterval.first = d.mtr.interval.first ∧
      d.countedInterval.cls = d.mtr.interval.cls := by
  unfold Dev.countedInterval
  split <;> exact ⟨rfl, rfl, rfl⟩

/-- The meter when the second has passed: the time advanced, the demand counted, and the mark of the second clear. -/
def Dev.secondPassed (d : Dev) : Mtr := { d.mtr.nextSecond with meteredMark := false, interval := d.countedInterval }

/-- The part when the second has passed, its boundary not yet taken. -/
def Dev.passSecond (d : Dev) : Dev := (d.setMsu { d.msu with mean := d.msu.secondMean, secSum := 0 }).setMtr d.secondPassed

theorem Mtr.demand_eq (m : Mtr) (mean outlet : Int) :
    m.demand mean outlet =
      { m with
        meteredMark := false
        interval := if m.meteredMark = true then
            { m.interval with
              ownPeak := if m.interval.seconds = 0 then mean else max m.interval.ownPeak mean
              outletPeak := if m.interval.seconds = 0 then outlet else max m.interval.outletPeak outlet
              seconds := m.interval.seconds + 1 }
          else m.interval } := by
  unfold Mtr.demand
  split
  · rfl
  · rename_i h; rw [← Bool.eq_false_iff.2 h]

theorem Dev.secondClose_eq (d : Dev) : (d.setMtr d.mtr.nextSecond).secondClose = d.passSecond := by
  simp only [Dev.secondClose, Mtr.demand_eq]
  rfl

theorem Dev.secondAdvance_of_not_due {d : Dev} (h : d.mtr.cycleCount < 500) : d.secondAdvance = d := if_neg (by omega)
theorem Dev.secondAdvance_of_due {d : Dev} (h : 500 ≤ d.mtr.cycleCount) : d.secondAdvance = d.advanceSecond := if_pos h

/-- The second advance passes on to a boundary on a multiple of 900 s of valid time (R136). -/
theorem Dev.advanceSecond_of_boundary {d : Dev} (hv : d.mtr.timeValid = true) (hs : d.secondPassed.second % 900 = 0) :
    d.advanceSecond = d.passSecond.boundary (some (d.secondPassed.day * 96 + d.secondPassed.second / 900)) := by
  have hi : d.passSecond.mtr.index = some (d.secondPassed.day * 96 + d.secondPassed.second / 900) := if_pos hv
  have hc : (d.passSecond.mtr.timeValid && d.passSecond.mtr.second % 900 == 0) = true := by
    simp only [Bool.and_eq_true, beq_iff_eq]
    exact ⟨hv, hs⟩
  simp only [Dev.advanceSecond, Dev.secondClose_eq, hc, if_true, hi]

theorem Dev.advanceSecond_of_no_boundary {d : Dev} (h : ¬(d.mtr.timeValid = true ∧ d.secondPassed.second % 900 = 0)) :
    d.advanceSecond = d.passSecond := by
  have hc : ¬(d.passSecond.mtr.timeValid && d.passSecond.mtr.second % 900 == 0) = true := by
    simp only [Bool.and_eq_true, beq_iff_eq]
    exact h
  simp only [Dev.advanceSecond, Dev.secondClose_eq, if_neg hc]

/-- An armed switch makes the standby copy active; nothing else of the meter moves (R136 stage 1). -/
theorem Mtr.switchTariff_eq (m : Mtr) :
    m.switchTariff = { m with
      armed := false, active := if m.armed = true then (if m.active = .a then .b else .a) else m.active } := by
  unfold Mtr.switchTariff
  split
  · rfl
  · rename_i h; rw [← Bool.eq_false_iff.2 h]

/-- R137: what a merge leaves of the interval, its rate class compared with the one looked up at the boundary. -/
theorem Mtr.merge_interval (m : Mtr) (n : Nat) {cls : Nat} {back : Bool} (hc : m.interval.cls = cls)
    (hb : backwardFrom m.interval.last (some n) = back) :
    (m.merge (some n)).interval =
      { m.interval with
        last := some n
        merged := true
        mixedRate := m.interval.mixedRate || (m.merge (some n)).classOf (some n) != cls
        backward := m.interval.backward || back } := by
  subst hc hb
  rfl

/-- R136 stage 2: an interval in which no set was metered is not recorded. -/
theorem Dev.boundary_of_unmetered {d : Dev} (h : d.mtr.interval.metered = false) (i : Option Nat) :
    d.boundary i = d.setMtr (d.mtr.switchTariff.renew i) := by
  have hm : d.mtr.switchTariff.interval.metered = false := by rw [Mtr.switchTariff_eq]; exact h
  simp [Dev.boundary, hm, Dev.setMtr]

/-- R136 stages 3 and 4: with room the interval is recorded, and a new one begun. -/
theorem Dev.boundary_of_room {d : Dev} (h : d.mtr.interval.metered = true) (hf : 2 ≤ d.rst.free) (hh : d.mtr.holder = [])
    (i : Option Nat) :
    d.boundary i =
      ((d.setMtr { d.mtr.switchTariff with totCount := d.mtr.totCount + 1 }).stage (.interval d.mtr.interval)).setMtr
        (({ d.mtr.switchTariff with totCount := d.mtr.totCount + 1 } : Mtr).renew i) := by
  simp [Dev.boundary, Mtr.switchTariff_eq, h, hf, hh, Dev.setMtr]

/-- R137: without room the interval is kept across the boundary. -/
theorem Dev.boundary_of_no_room {d : Dev} (h : d.mtr.interval.metered = true) (hr : d.rst.free < 2 ∨ d.mtr.holder ≠ [])
    (i : Option Nat) : d.boundary i = d.setMtr (d.mtr.switchTariff.merge i) := by
  have hn : ¬(2 ≤ d.rst.free ∧ d.mtr.switchTariff.holder.isEmpty = true) := by
    rw [Mtr.switchTariff_eq, List.isEmpty_iff]
    rintro ⟨hf, hh⟩
    exact hr.elim (by omega) (fun hne => hne hh)
  have hm : d.mtr.switchTariff.interval.metered = true := by rw [Mtr.switchTariff_eq]; exact h
  simp only [Dev.boundary, Dev.setMtr_mtr, Dev.setMtr_rst, hm, if_true, if_neg hn]
  rfl

/-- The second advance reaches the measurement, the meter, the store and the notices, and no other block. -/
theorem Dev.advanceSecond_eq (d : Dev) :
    d.advanceSecond = { d with
      msu := d.advanceSecond.msu, mtr := d.advanceSecond.mtr, rst := d.advanceSecond.rst, ntu := d.advanceSecond.ntu } := by
  obtain ⟨hrun, hpins, hcfg, hlnk, hptb, hsyu, hctc, hsyn, hhoc, hfree⟩ := d.advanceSecond_frame
  rw [← hrun, ← hpins, ← hcfg, ← hlnk, ← hptb, ← hsyu, ← hctc, ← hsyn, ← hhoc, ← hfree]

theorem Dev.boundary_msu (d : Dev) (i : Option Nat) : (d.boundary i).msu = d.msu := by simp

theorem Dev.advanceSecond_msu (d : Dev) : d.advanceSecond.msu = { d.msu with mean := d.msu.secondMean, secSum := 0 } := by
  by_cases h : d.mtr.timeValid = true ∧ d.secondPassed.second % 900 = 0
  · rw [Dev.advanceSecond_of_boundary h.1 h.2, Dev.boundary_msu]; rfl
  · rw [Dev.advanceSecond_of_no_boundary h]; rfl

/-- What the boundary leaves of the local time, and of the mark of the second. -/
theorem Dev.boundary_time (d : Dev) (i : Option Nat) :
    (d.boundary i).mtr.cycleCount = d.mtr.cycleCount ∧ (d.boundary i).mtr.second = d.mtr.second ∧
      (d.boundary i).mtr.day = d.mtr.day ∧ (d.boundary i).mtr.timeValid = d.mtr.timeValid ∧
      (d.boundary i).mtr.meteredMark = d.mtr.meteredMark ∧ (d.boundary i).mtr.armed = false ∧
      (d.boundary i).mtr.active = (if d.mtr.armed = true then (if d.mtr.active = .a then .b else .a) else d.mtr.active) := by
  by_cases hm : d.mtr.interval.metered = true
  · by_cases hr : 2 ≤ d.rst.free ∧ d.mtr.holder = []
    · rw [Dev.boundary_of_room hm hr.1 hr.2, Mtr.switchTariff_eq]
      exact ⟨rfl, rfl, rfl, rfl, rfl, rfl, rfl⟩
    · rw [Dev.boundary_of_no_room hm (by rw [not_and_or] at hr; exact hr.imp (by omega) id), Mtr.switchTariff_eq]
      exact ⟨rfl, rfl, rfl, rfl, rfl, rfl, rfl⟩
  · rw [Dev.boundary_of_unmetered (by simpa using hm), Mtr.switchTariff_eq]
    exact ⟨rfl, rfl, rfl, rfl, rfl, rfl, rfl⟩

/-- R133: the local time and the mark of the second after the second advance. -/
theorem Dev.advanceSecond_time (d : Dev) :
    d.advanceSecond.mtr.cycleCount = d.mtr.cycleCount - 500 ∧ d.advanceSecond.mtr.second = d.secondPassed.second ∧
      d.advanceSecond.mtr.day = d.secondPassed.day ∧ d.advanceSecond.mtr.timeValid = d.mtr.timeValid ∧
      d.advanceSecond.mtr.meteredMark = false := by
  by_cases h : d.mtr.timeValid = true ∧ d.secondPassed.second % 900 = 0
  · rw [Dev.advanceSecond_of_boundary h.1 h.2]
    obtain ⟨hcyc, hsec, hday, hvalid, hmark, -⟩ := d.passSecond.boundary_time
      (some (d.secondPassed.day * 96 + d.secondPassed.second / 900))
    exact ⟨hcyc, hsec, hday, hvalid, hmark⟩
  · rw [Dev.advanceSecond_of_no_boundary h]
    exact ⟨rfl, rfl, rfl, rfl, rfl⟩

/-- Settles O51: the join age, and the second advance through its demand to the boundary that closes, merges or discards. -/
theorem countersFallDueAtFiveHundred : Obligations.CountersFallDueAtFiveHundred := by
  intro s hup m sec day mean boundary index others outlet counted
  refine ⟨fun h => ?_, fun hm ht => ?_, fun h => ?_, fun hdue => ?_⟩
  · rw [exec_joinAgeTick_up hup, State.onDev_eq_self (Dev.joinSecond_of_not_due h)]
  · rw [exec_joinAgeTick_up hup, State.onDev, Dev.joinSecond_of_due hm ht]
    rfl
  · rw [exec_secondAdvance_up hup, State.onDev_eq_self (Dev.secondAdvance_of_not_due h)]
  · have hadv := Dev.secondAdvance_of_due hdue
    obtain ⟨hcyc, hsec, hday, hvalid, hmark⟩ := s.dev.advanceSecond_time
    refine ⟨_, exec_secondAdvance_up hup, rfl, ?_⟩
    rw [State.onDev_dev, hadv]
    refine ⟨hcyc, hsec, hday, hvalid, s.dev.advanceSecond_msu, hmark, s.dev.advanceSecond_eq, by simp, fun hb => ?_,
      fun hb => ?_⟩
    · rw [Dev.advanceSecond_of_no_boundary hb]
      exact ⟨rfl, rfl, rfl, rfl, rfl⟩
    · rw [Dev.advanceSecond_of_boundary hb.1 hb.2]
      obtain ⟨-, -, -, -, -, harmed, hactive⟩ := s.dev.passSecond.boundary_time (some index)
      obtain ⟨hmetered, hfirst, hcls⟩ := s.dev.countedInterval_frame
      refine ⟨hactive, harmed, fun hmet => ?_, fun hmet hfree hhold => ?_, fun hmet hfull => ?_⟩
      · rw [Dev.boundary_of_unmetered (d := s.dev.passSecond) (hmetered.trans hmet), Mtr.switchTariff_eq]
        exact ⟨rfl, rfl, rfl, rfl, rfl, rfl⟩
      · have htook := Dev.stage_tookRecords (d := s.dev.passSecond.setMtr
          { s.dev.passSecond.mtr.switchTariff with totCount := s.dev.passSecond.mtr.totCount + 1 })
          (x := .interval counted) (by change s.dev.rst.free ≠ 0; omega)
        rw [Dev.boundary_of_room (d := s.dev.passSecond) (hmetered.trans hmet) hfree hhold]
        refine ⟨htook, ?_⟩
        rw [Mtr.switchTariff_eq]
        exact ⟨rfl, rfl, rfl, rfl, rfl, rfl⟩
      · rw [Dev.boundary_of_no_room (d := s.dev.passSecond) (hmetered.trans hmet) hfull, Mtr.switchTariff_eq]
        have hback : backwardFrom s.dev.countedInterval.last (some index) =
            (match s.dev.countedInterval.last with
              | none => false
              | some o => decide (index < o)) := by
          cases s.dev.countedInterval.last <;> rfl
        exact ⟨rfl, rfl, hfirst, rfl, rfl, Mtr.merge_interval _ index hcls hback⟩

end Sys2Proof.Machine

namespace Sys2Proof.Machine

/-! ### Record requests (R141 to R143) -/

/-- A session record request that finds room and an empty holder is taken at once (R142). -/
theorem Dev.requestSession_tookRecords {d : Dev} (hh : d.mtr.holder = []) (hf : d.rst.free ≠ 0) (x : Rec) :
    d.rst.tookRecords [x] (d.requestSession x).rst ∧ (d.requestSession x).mtr = d.mtr := by
  have hc : (d.mtr.holder.isEmpty && decide (1 ≤ d.rst.free)) = true := by simp [hh]; omega
  simp only [Dev.requestSession, hc, if_true]
  exact ⟨Dev.stage_tookRecords hf x, by simp⟩

/-- R143: what the meter adds to an EVENT request. -/
def Dev.completed (d : Dev) (e : EventRec) : EventRec :=
  { e with session := d.mtr.membership.map Membership.id, time := d.mtr.stamp }

theorem Dev.requestEvent_taken {d : Dev} (hh : d.mtr.holder = []) (hf : 4 ≤ d.rst.free) (hr : d.run ≠ .shutdown) (e : EventRec) :
    d.rst.tookRecords [.event (d.completed e)] (d.requestEvent e).rst ∧ (d.requestEvent e).mtr = d.mtr := by
  have hc : (d.mtr.holder.isEmpty && decide (4 ≤ d.rst.free) && d.run != .shutdown) = true := by simp [hh, hf, hr]
  simp only [Dev.requestEvent, hc, if_true]
  exact ⟨Dev.stage_tookRecords (by omega) _, by simp⟩

theorem Dev.requestEvent_dropped {d : Dev} (h : d.mtr.holder ≠ [] ∨ d.rst.free < 4 ∨ d.run = .shutdown) (e : EventRec) :
    d.requestEvent e = d.setMtr { d.mtr with dropped := min 255 (d.mtr.dropped + 1) } := by
  refine if_neg fun hc => ?_
  simp only [Bool.and_eq_true, List.isEmpty_iff, decide_eq_true_eq, bne_iff_ne] at hc
  obtain ⟨⟨hh, hf⟩, hr⟩ := hc
  rcases h with h | h | h
  · exact h hh
  · omega
  · exact hr h

/-- An EVENT request at the meter: taken or dropped, with the membership kept (R141, R143). -/
theorem Dev.requestEvent_eventTaken (d : Dev) (e : EventRec) :
    d.eventTaken (d.completed e) (d.requestEvent e) ∧ (d.requestEvent e).mtr.membership = d.mtr.membership := by
  by_cases h : d.mtr.holder ≠ [] ∨ d.rst.free < 4 ∨ d.run = .shutdown
  · rw [Dev.requestEvent_dropped h]
    refine ⟨⟨fun hh hf hr => ?_, fun _ => ⟨rfl, rfl⟩⟩, rfl⟩
    rcases h with h | h | h
    · exact absurd hh h
    · omega
    · exact absurd h hr
  · simp only [not_or, not_not, not_lt] at h
    obtain ⟨hh, hf, hr⟩ := h
    obtain ⟨htook, hmtr⟩ := Dev.requestEvent_taken hh hf hr e
    refine ⟨⟨fun _ _ _ => ⟨htook, by rw [hmtr]⟩, fun hn => ?_⟩, by rw [hmtr]⟩
    rcases hn with hn | hn | hn
    · exact absurd hh hn
    · omega
    · exact absurd hn hr

/-! ### The end of a membership (R132) -/

theorem Mtr.length_leaveRecords_le (m : Mtr) (k : Membership) (c : LeaveCause) : (m.leaveRecords k c).length ≤ 2 := by
  simp only [Mtr.leaveRecords]
  split <;> simp

/-- R132 step 1: the PARTIAL interval, where it metered a set. -/
theorem Dev.closePartial_tookRecords {d : Dev} (hh : d.mtr.holder = []) (hf : d.rst.free ≠ 0) :
    d.rst.tookRecords (if d.mtr.interval.metered = true then [.interval { d.mtr.interval with isPartial := true }] else [])
        d.closePartial.rst ∧
      d.closePartial.mtr = { d.mtr with totCount := d.mtr.totCount + if d.mtr.interval.metered = true then 1 else 0 } := by
  simp only [Dev.closePartial]
  split
  · exact Dev.requestSession_tookRecords (d := d.setMtr { d.mtr with totCount := d.mtr.totCount + 1 }) hh hf _
  · exact ⟨d.rst.tookRecords_nil, rfl⟩

/-- R132: with room, the end of a membership records its last interval and its totals, and leaves no membership. -/
theorem Dev.endMembership_tookRecords {d : Dev} {k : Membership} (hk : d.mtr.membership = some k) (hh : d.mtr.holder = [])
    (hf : 2 ≤ d.rst.free) (hn : d.rst.newest + 1 < 4294967295) (c : LeaveCause) :
    d.rst.tookRecords (d.mtr.leaveRecords k c) (d.endMembership c).rst ∧ (d.endMembership c).mtr.membership = none ∧
      (d.endMembership c).mtr.holder = [] ∧ (d.endMembership c).mtr.stamp = d.mtr.stamp := by
  obtain ⟨htook, hmtr⟩ := Dev.closePartial_tookRecords hh (by omega)
  have hfree : d.closePartial.rst.free ≠ 0 := by
    have hle : (if d.mtr.interval.metered = true then [Rec.interval { d.mtr.interval with isPartial := true }] else []).length ≤ 1 := by
      split <;> simp
    rw [Rst.free_of_tookRecords htook (by omega)]
    omega
  obtain ⟨htook2, hmtr2⟩ := Dev.requestSession_tookRecords (d := d.closePartial) (by rw [hmtr]; exact hh) hfree
    (.sessionLeave k.id k.outlet d.closePartial.mtr.totImport d.closePartial.mtr.totExport d.closePartial.mtr.totCount c
      d.closePartial.mtr.time)
  have hboth := Rst.tookRecords_append htook htook2
  simp only [Dev.endMembership, hk, Dev.membershipGone, Dev.setMtr_rst, Dev.setMtr_mtr]
  rw [hmtr] at hboth hmtr2
  rw [hmtr, hmtr2]
  exact ⟨hboth, trivial, hh, rfl⟩

theorem Dev.endMembership_of_none {d : Dev} (h : d.mtr.membership = none) (c : LeaveCause) : d.endMembership c = d := by
  simp only [Dev.endMembership, h]

/-! ### The records of a trip (R82, R84, R132, R143) -/

/-- Without a membership a change of a contactor records nothing. -/
theorem Dev.conChanged_of_no_membership {d : Dev} (h : d.mtr.membership = none) (x : Outlet) (old : CState) (o : Origin) :
    (d.conChanged x old o).mtr = d.mtr ∧ (d.conChanged x old o).rst = d.rst := by
  have hl : (d.leftClosed o).mtr = d.mtr ∧ (d.leftClosed o).rst = d.rst := by
    rw [Dev.leftClosed, Dev.endMembership_of_none (by simpa using h)]
    simp
  simp only [Dev.conChanged]
  (repeat' split) <;> simp [hl]

theorem Dev.bothChanged_of_no_membership {d : Dev} (h : d.mtr.membership = none) (oldA oldB : CState) (o : Origin) :
    (d.bothChanged oldA oldB o).mtr = d.mtr ∧ (d.bothChanged oldA oldB o).rst = d.rst := by
  obtain ⟨ha, ha'⟩ := Dev.conChanged_of_no_membership h .a oldA o
  obtain ⟨hb, hb'⟩ := Dev.conChanged_of_no_membership (ha ▸ h) .b oldB o
  exact ⟨hb.trans ha, hb'.trans ha'⟩

/-- In TRIPPED a change of the contactor of another outlet than the assigned one moves nothing. -/
theorem Dev.conChanged_of_other {d : Dev} {x y : Outlet} (hx : d.hoc.assignment = some x) (hne : x ≠ y) (hs : d.hoc.state = .tripped)
    (old : CState) (o : Origin) : d.conChanged y old o = d := by
  simp [Dev.conChanged, hx, hne, hs]

/-- The assigned contactor that leaves CLOSED for OPENING is recorded as the end of the membership, and nothing else (R73, R132). -/
theorem Dev.conChanged_of_leaves {d : Dev} {x : Outlet} (hx : d.hoc.assignment = some x) (hc : d.con x = .opening) (o : Origin) :
    (d.conChanged x .closed o).mtr = (d.leftClosed o).mtr ∧ (d.conChanged x .closed o).rst = (d.leftClosed o).rst := by
  simp [Dev.conChanged, hx, hc]

/-- Both hand-outs of a trip, where the assigned contactor was CLOSED: the end of the membership once. -/
theorem Dev.bothChanged_of_leaves {d e : Dev} (h : d.tripStands e) {x : Outlet} (hx : d.hoc.assignment = some x)
    (hc : e.con x = .opening) {oldA oldB : CState} (ha : x = .a → oldA = .closed) (hb : x = .b → oldB = .closed) (o : Origin) :
    (e.bothChanged oldA oldB o).mtr = (e.leftClosed o).mtr ∧ (e.bothChanged oldA oldB o).rst = (e.leftClosed o).rst := by
  obtain ⟨hs, hd, hy, hm, -⟩ := h
  have hex : e.hoc.assignment = some x := by
    obtain ⟨-, -, -, -, hassign, -⟩ := hd
    rw [hassign, hx]
  simp only [Dev.bothChanged]
  cases x with
  | a =>
    rw [ha rfl]
    obtain ⟨hs', hd', -⟩ := Dev.conChanged_tripped d e .a .closed o (by simp [hc]) (by simp [hc]) hs hd hy hm
    obtain ⟨-, -, -, -, hassign, -⟩ := hd'
    rw [Dev.conChanged_of_other (hassign.trans hx) (by decide) hs']
    exact Dev.conChanged_of_leaves hex hc o
  | b =>
    rw [hb rfl, Dev.conChanged_of_other hex (by decide) hs]
    exact Dev.conChanged_of_leaves hex hc o

/-- The part in TRIPPED with both records opening, before a trip hands anything to the meter (R82). -/
def Dev.tripOpened (d : Dev) (cause : TripCause) : Dev :=
  let d1 := ((d.setSyu d.syu.clearRun).hocTrip).raiseTrip cause
  d1.setCtc (d1.ctc.tripped d.cfg.openPulse)

theorem Dev.tripOpened_stands (d : Dev) (cause : TripCause) : d.tripStands (d.tripOpened cause) := by
  obtain ⟨hs, hd, hy, hm⟩ := d.hocTrip_effect
  simpa [Dev.tripStands, Dev.tripOpened] using ⟨hs, hd, hy, hm⟩

@[simp] theorem Dev.tripOpened_frame (d : Dev) (cause : TripCause) :
    (d.tripOpened cause).run = d.run ∧ (d.tripOpened cause).mtr = d.mtr ∧ (d.tripOpened cause).rst = d.rst ∧
      (d.tripOpened cause).msu = d.msu ∧ (d.tripOpened cause).ctc = d.ctc.tripped d.cfg.openPulse := by
  simp [Dev.tripOpened]

/-- The EVENT that a trip requests, as the statements write it: the contactor states after it, the handover state before it, P. -/
def Dev.tripEvent (d : Dev) (cause : TripCause) (on : Option Outlet) (session : Option Nat) : EventRec :=
  ⟨some cause, on, (d.trip cause on).con .a, (d.trip cause on).con .b, d.hoc.state, d.msu.p, session, d.mtr.stamp⟩

/-- The EVENT request of a trip, not yet completed by the meter. -/
def Dev.tripRequest (d : Dev) (cause : TripCause) (on : Option Outlet) : EventRec :=
  (d.tripOpened cause).eventOf (some cause) on d.hoc.state

theorem Dev.completed_tripRequest {d e : Dev} {cause : TripCause} {on : Option Outlet} (hs : e.mtr.stamp = d.mtr.stamp) :
    e.completed (d.tripRequest cause on) = d.tripEvent cause on (e.mtr.membership.map Membership.id) := by
  simp only [Dev.completed, Dev.tripRequest, Dev.eventOf, Dev.tripEvent, Dev.con, Dev.trip_ctc, hs, Dev.tripOpened_frame]

/-- A trip hands the EVENT request and the changes of both records to the meter, in either order (R82, R143; log entry 3). -/
theorem Dev.trip_eq (d : Dev) (cause : TripCause) (on : Option Outlet) :
    d.trip cause on = ((d.tripOpened cause).spend.requestEvent (d.tripRequest cause on)).bothChanged (d.con .a) (d.con .b) .trip ∨
      d.trip cause on =
        ((d.tripOpened cause).spend.bothChanged (d.con .a) (d.con .b) .trip).requestEvent (d.tripRequest cause on) := by
  by_cases h : (d.tripOpened cause).choice = true
  · exact .inl (if_pos h)
  · exact .inr (if_neg h)

/-- R84, R143: without a membership a trip's EVENT is requested with no session ID, whichever hand-out comes first. -/
theorem Dev.trip_eventTaken {d : Dev} (h : d.mtr.membership = none) (cause : TripCause) (on : Option Outlet) :
    d.eventTaken (d.tripEvent cause on none) (d.trip cause on) := by
  have hcomp : ∀ e : Dev, e.mtr = d.mtr → e.completed (d.tripRequest cause on) = d.tripEvent cause on none := by
    intro e he
    rw [Dev.completed_tripRequest (by rw [he]), he, h]
    rfl
  rcases d.trip_eq cause on with ht | ht
  · obtain ⟨htaken, hmem⟩ := (d.tripOpened cause).spend.requestEvent_eventTaken (d.tripRequest cause on)
    obtain ⟨hmtr, hrst⟩ := Dev.bothChanged_of_no_membership (hmem.trans (by simpa using h)) (d.con .a) (d.con .b) .trip
    rw [hcomp _ (by simp)] at htaken
    rw [ht, Dev.eventTaken, hmtr, hrst]
    simpa [Dev.eventTaken] using htaken
  · obtain ⟨hmtr, hrst⟩ := Dev.bothChanged_of_no_membership (d := (d.tripOpened cause).spend) (by simpa using h)
      (d.con .a) (d.con .b) .trip
    obtain ⟨htaken, -⟩ := ((d.tripOpened cause).spend.bothChanged (d.con .a) (d.con .b) .trip).requestEvent_eventTaken
      (d.tripRequest cause on)
    rw [hcomp _ (hmtr.trans (by simp)), Dev.eventTaken, hmtr, hrst] at htaken
    rw [ht]
    simpa [Dev.eventTaken] using htaken

end Sys2Proof.Machine

namespace Sys2Proof.Machine

/-- The end of a membership as f_ramp falls to 0 (R32, R132). -/
theorem Dev.leftClosed_tookRecords {d : Dev} {k : Membership} (hk : d.mtr.membership = some k) (hh : d.mtr.holder = [])
    (hf : 2 ≤ d.rst.free) (hn : d.rst.newest + 1 < 4294967295) (o : Origin) :
    d.rst.tookRecords (d.mtr.leaveRecords k o.leaveCause) (d.leftClosed o).rst ∧ (d.leftClosed o).mtr.membership = none ∧
      (d.leftClosed o).mtr.holder = [] ∧ (d.leftClosed o).mtr.stamp = d.mtr.stamp :=
  Dev.endMembership_tookRecords (d := d.rampTo 0) hk hh hf hn o.leaveCause

/-- The part of a trip before its hand-outs: TRIPPED, the contactor of the outlet opening, meter and store as before the trip. -/
def Dev.beforeHandOut (d : Dev) (x : Outlet) (e : Dev) : Prop :=
  d.tripStands e ∧ e.con x = .opening ∧ e.run = d.run ∧ e.mtr = d.mtr ∧ e.rst = d.rst

theorem Dev.tripOpened_beforeHandOut {d : Dev} {x : Outlet} (hc : d.con x = .closed) (cause : TripCause) :
    d.beforeHandOut x (d.tripOpened cause).spend := by
  have h0 := d.tripOpened_stands cause
  have hst := Contactor.openRequested_state (d.ctc.get x) d.cfg.openPulse
  rw [if_pos (.inr hc)] at hst
  refine ⟨by simpa [Dev.tripStands] using h0, ?_, by simp, by simp, by simp⟩
  cases x <;> simpa [Dev.con, Ctc.tripped] using hst

section
variable {d e : Dev} {k : Membership} {x : Outlet} (he : d.beforeHandOut x e) (hk : d.mtr.membership = some k)
  (hx : d.hoc.assignment = some x) (hc : d.con x = .closed) (hh : d.mtr.holder = []) (hf : 7 ≤ d.rst.free)
  (hn : d.rst.newest < 4294967290) (hr : d.run = .running)
include he hk hx hc hh hf hn hr

/-- The EVENT first: it carries the session ID, and the records of the end stand behind it (R143). -/
theorem Dev.records_of_event_first (cause : TripCause) (on : Option Outlet) :
    d.rst.tookRecords (.event (d.tripEvent cause on (some k.id)) :: d.mtr.leaveRecords k .trip)
      ((e.requestEvent (d.tripRequest cause on)).bothChanged (d.con .a) (d.con .b) .trip).rst := by
  obtain ⟨hstands, hopening, hrun, hmtr, hrst⟩ := he
  obtain ⟨hevent, hmtr'⟩ := Dev.requestEvent_taken (d := e) (by rw [hmtr, hh]) (by rw [hrst]; omega) (by simp [hrun, hr])
    (d.tripRequest cause on)
  rw [Dev.completed_tripRequest (by rw [hmtr]), hmtr, hk, hrst] at hevent
  have hfree := Rst.free_of_tookRecords hevent (by simp; omega)
  have hnewest : (e.requestEvent (d.tripRequest cause on)).rst.newest = d.rst.newest + 1 := hevent.1
  rw [List.length_singleton] at hfree
  obtain ⟨hleave, -⟩ := Dev.leftClosed_tookRecords (d := e.requestEvent (d.tripRequest cause on)) (k := k)
    (by rw [hmtr', hmtr, hk]) (by rw [hmtr', hmtr, hh]) (by omega) (by omega) .trip
  obtain ⟨-, hboth⟩ := Dev.bothChanged_of_leaves (d := d) (e := e.requestEvent (d.tripRequest cause on))
    (by simpa [Dev.tripStands] using hstands) hx (by simpa [Dev.con] using hopening) (oldA := d.con .a) (oldB := d.con .b)
    (fun h => h ▸ hc) (fun h => h ▸ hc) .trip
  rw [hmtr', hmtr] at hleave
  rw [hboth]
  exact Rst.tookRecords_append hevent hleave

/-- The contactor change first: the records of the end stand before the EVENT, which carries no session ID (R143). -/
theorem Dev.records_of_leave_first (cause : TripCause) (on : Option Outlet) :
    d.rst.tookRecords (d.mtr.leaveRecords k .trip ++ [.event (d.tripEvent cause on none)])
      ((e.bothChanged (d.con .a) (d.con .b) .trip).requestEvent (d.tripRequest cause on)).rst := by
  obtain ⟨hstands, hopening, hrun, hmtr, hrst⟩ := he
  obtain ⟨hbothMtr, hboth⟩ := Dev.bothChanged_of_leaves hstands hx hopening (oldA := d.con .a) (oldB := d.con .b)
    (fun h => h ▸ hc) (fun h => h ▸ hc) .trip
  obtain ⟨hleave, hmem, hhold, hstamp⟩ := Dev.leftClosed_tookRecords (d := e) (k := k) (by rw [hmtr, hk]) (by rw [hmtr, hh])
    (by rw [hrst]; omega) (by rw [hrst]; omega) .trip
  rw [hmtr, hrst, ← hboth] at hleave
  rw [hmtr] at hstamp
  rw [← hbothMtr] at hmem hhold hstamp
  have hlength : (d.mtr.leaveRecords k Origin.trip.leaveCause).length ≤ 2 := d.mtr.length_leaveRecords_le k .trip
  have hfree := Rst.free_of_tookRecords hleave (by omega)
  obtain ⟨hevent, -⟩ := Dev.requestEvent_taken (d := e.bothChanged (d.con .a) (d.con .b) .trip) hhold (by omega)
    (by simp [hrun, hr]) (d.tripRequest cause on)
  rw [Dev.completed_tripRequest hstamp, hmem] at hevent
  exact Rst.tookRecords_append hleave hevent

end

/-- R132, R143: a trip that ends a membership records its end behind the EVENT or before it. -/
theorem Dev.trip_records {d : Dev} {k : Membership} {x : Outlet} (hk : d.mtr.membership = some k) (hx : d.hoc.assignment = some x)
    (hc : d.con x = .closed) (hh : d.mtr.holder = []) (hf : 7 ≤ d.rst.free) (hn : d.rst.newest < 4294967290)
    (hr : d.run = .running) (cause : TripCause) (on : Option Outlet) :
    d.rst.tookRecords (.event (d.tripEvent cause on (some k.id)) :: d.mtr.leaveRecords k .trip) (d.trip cause on).rst ∨
      d.rst.tookRecords (d.mtr.leaveRecords k .trip ++ [.event (d.tripEvent cause on none)]) (d.trip cause on).rst := by
  have he := Dev.tripOpened_beforeHandOut hc cause
  rcases d.trip_eq cause on with ht | ht
  · exact .inl (ht ▸ Dev.records_of_event_first he hk hx hc hh hf hn hr cause on)
  · exact .inr (ht ▸ Dev.records_of_leave_first he hk hx hc hh hf hn hr cause on)

/-! ### The protection timers (R5, R16) -/

theorem Dev.watchTimerExpiry_of_stopped {d : Dev} (h : d.msu.watch = false) : d.watchTimerExpiry = d := by
  simp [Dev.watchTimerExpiry, h]

theorem Dev.watchTimerExpiry_counts {d : Dev} (h : d.msu.watch = true) (hg : d.msu.setGap ≠ 2) :
    d.watchTimerExpiry = d.setMsu { d.msu with setGap := min 3 (d.msu.setGap + 1) } := by
  simp only [Dev.watchTimerExpiry, h, if_true, if_neg hg]

theorem Dev.watchTimerExpiry_trips {d : Dev} (h : d.msu.watch = true) (hg : d.msu.setGap = 2) :
    d.watchTimerExpiry = (d.setMsu { d.msu with setGap := 3 }).trip .sampleLoss none := by
  simp only [Dev.watchTimerExpiry, h, hg, if_true]
  rfl

theorem Dev.overloadExpiry_of_not_due {d : Dev} (h : ∀ n, d.msu.overload = some n → n < 96000) : d.overloadExpiry = d := by
  simp only [Dev.overloadExpiry]
  split
  · rfl
  · rename_i n hn
    exact if_neg (by have := h n hn; omega)

theorem Dev.overloadExpiry_trips {d : Dev} {n : Nat} (h : d.msu.overload = some n) (hn : 96000 ≤ n) :
    d.overloadExpiry = (d.setMsu { d.msu with overload := none }).trip .overload none := by
  simp only [Dev.overloadExpiry, h, if_pos hn]

/-- What the statements ask of the records of a trip without an outlet: the EVENT alone, or with the records of the membership's end. -/
def Dev.tripRecorded (d : Dev) (cause : TripCause) (t : Dev) : Prop :=
  let event (session : Option Nat) : EventRec :=
    ⟨some cause, none, t.con .a, t.con .b, d.hoc.state, d.msu.p, session, d.mtr.stamp⟩
  (d.mtr.membership = none → d.eventTaken (event none) t) ∧
    ∀ k x, d.mtr.membership = some k → d.hoc.assignment = some x → d.con x = .closed → d.mtr.holder = [] → 7 ≤ d.rst.free →
      d.rst.newest < 4294967290 → d.run = .running →
      d.rst.tookRecords (.event (event (some k.id)) :: d.mtr.leaveRecords k .trip) t.rst ∨
        d.rst.tookRecords (d.mtr.leaveRecords k .trip ++ [.event (event none)]) t.rst

theorem Dev.trip_tripRecorded (d : Dev) (cause : TripCause) : d.tripRecorded cause (d.trip cause none) :=
  ⟨fun hm => Dev.trip_eventTaken hm cause none,
    fun _ _ hk hx hc hh hf hn hr => Dev.trip_records hk hx hc hh hf hn hr cause none⟩

/-- The protection inputs are no part of what a trip records, but for P (Table 5-5). -/
theorem Dev.tripRecorded_setMsu {d t : Dev} {m : Msu} {cause : TripCause} (hp : m.p = d.msu.p)
    (h : (d.setMsu m).tripRecorded cause t) : d.tripRecorded cause t := by
  simp only [Dev.tripRecorded, Dev.setMsu_msu, hp] at h
  exact h

/-- Settles O15: each timer counts or trips, and a trip stands, is raised once and requests its records. -/
theorem protectionTimers : Obligations.ProtectionTimers := by
  intro s hup event recorded
  refine ⟨fun h => ?_, fun h hg => ?_, fun h hg => ⟨_, exec_watchTimerExpiry_up hup, rfl, ?_⟩,
    fun n h hn => ⟨_, exec_overloadTimerExpiry_up hup, rfl, ?_⟩, fun h => ?_⟩
  · rw [exec_watchTimerExpiry_up hup, State.onDev_eq_self (Dev.watchTimerExpiry_of_stopped h)]
  · rw [exec_watchTimerExpiry_up hup, State.onDev, Dev.watchTimerExpiry_counts h hg]
    rfl
  · rw [State.onDev, Dev.watchTimerExpiry_trips h hg]
    have hown := Dev.trip_own (s.dev.setMsu { s.dev.msu with setGap := 3 }) .sampleLoss none rfl (by decide)
    have hrec := Dev.trip_tripRecorded (s.dev.setMsu { s.dev.msu with setGap := 3 }) .sampleLoss
    exact ⟨Dev.trip_effect _ _ _, hown, Dev.tripRecorded_setMsu (d := s.dev) rfl hrec⟩
  · rw [State.onDev, Dev.overloadExpiry_trips h hn]
    have hown := Dev.trip_own (s.dev.setMsu { s.dev.msu with overload := none }) .overload none rfl (by decide)
    have hrec := Dev.trip_tripRecorded (s.dev.setMsu { s.dev.msu with overload := none }) .overload
    exact ⟨Dev.trip_effect _ _ _, hown, Dev.tripRecorded_setMsu (d := s.dev) rfl hrec⟩
  · rw [exec_overloadTimerExpiry_up hup, State.onDev_eq_self (Dev.overloadExpiry_of_not_due h)]

end Sys2Proof.Machine

namespace Sys2Proof.Machine

/-! ### Orders answered (R55, R169) -/

theorem exec_assign {s : State} {h : OrderHead} (ht : s.dev.takes h) (code : Byte) :
    exec (.assign h code) s = .next { s with dev := Dev.reply ((s.dev.routed .assign h).assign code) } := by
  have hrun : (s.dev.routed (Order.assign code).kind h).run ≠ .shutdown := by simp [ht.1]
  refine (State.run_order ht (.assign code) (by simp)).trans ?_
  simp only [Dev.decideOrder, if_neg hrun]
  rfl

theorem exec_sessionOpen {s : State} {h : OrderHead} (ht : s.dev.takes h) (f : SessionFields) :
    exec (.sessionOpen h f) s = .next { s with dev := Dev.reply ((s.dev.routed .sessionOpen h).sessionOpen f) } := by
  have hrun : (s.dev.routed (Order.sessionOpen f).kind h).run ≠ .shutdown := by simp [ht.1]
  refine (State.run_order ht (.sessionOpen f) (by simp)).trans ?_
  simp only [Dev.decideOrder, if_neg hrun]
  rfl

/-- An order that is answered without an effect leaves the tag remembered and the reply queued. -/
theorem State.next_reply {s : State} {h : OrderHead} (ht : s.dev.takes h) (k : OrderKind) (r : Result) :
    (.next { s with dev := Dev.reply (s.dev.routed k h, r) } : Host.Outcome State Fault Refusal) =
      .next { s with dev := s.dev.answered k h r } := by
  rw [Dev.reply_routed ht]

/-- An accepted order whose effect stays in the measurement, the synthesis unit, the synchroniser and the handover controller, replied to. -/
theorem Dev.reply_accept {d e : Dev} {h : OrderHead} (ht : d.takes h) {k : OrderKind}
    (he : e = { d.routed k h with msu := e.msu, syu := e.syu, syn := e.syn, hoc := e.hoc }) :
    Dev.reply e.accept = { d.answered k h .accepted with msu := e.msu, syu := e.syu, syn := e.syn, hoc := e.hoc } := by
  have hntu : e.ntu = d.ntu.takePlace k h := by rw [he]; rfl
  simp only [Dev.reply, Dev.accept, hntu, Ntu.fill_taken ht.2.2.2.2]
  rw [he]
  rfl

/-! ### Assignment and session table through the moves (R106, R107) -/

/-- Assignment and session table stand as they were. -/
def Hoc.sameTable (h t : Hoc) : Prop := t.assignment = h.assignment ∧ t.sessionA = h.sessionA ∧ t.sessionB = h.sessionB

theorem Hoc.sameTable_refl (h : Hoc) : h.sameTable h := ⟨rfl, rfl, rfl⟩

theorem Hoc.sameTable.trans {h t u : Hoc} (a : h.sameTable t) (b : t.sameTable u) : h.sameTable u :=
  ⟨b.1.trans a.1, b.2.1.trans a.2.1, b.2.2.trans a.2.2⟩

theorem Hoc.sameTable.session {h t : Hoc} (a : h.sameTable t) (x : Outlet) : t.session x = h.session x := by
  obtain ⟨-, ha, hb⟩ := a
  cases x
  · exact ha
  · exact hb

theorem Hoc.enter_state (h : Hoc) (st : HState) : (h.enter st).state = st := by
  simp only [Hoc.enter]
  split <;> rfl

theorem Dev.move_state (d : Dev) (st : HState) : (d.move st).hoc.state = st := Hoc.enter_state _ _

theorem Dev.move_sameTable (d : Dev) (st : HState) : d.hoc.sameTable (d.move st).hoc := by
  simp only [Dev.move, Dev.setHoc_hoc, Hoc.enter]
  split <;> exact ⟨rfl, rfl, rfl⟩

/-- R112: what the energising test can do: nothing, or the move into FORMING or JOINING of a cell in ASSIGNED with its channel IDLE. -/
theorem Dev.energise_cases (d : Dev) :
    d.energise = d ∨
      (d.hoc.state = .assigned ∧ d.syn.cell.state = .idle ∧ (d.energise = d.move .forming ∨ d.energise = d.move .joining)) := by
  unfold Dev.energise
  split
  · exact .inl rfl
  · split
    · rename_i hs
      obtain ⟨hst, hmay⟩ := hs
      have hidle : d.syn.cell.state = .idle := by
        simp only [Dev.mayEnergise, Bool.and_eq_true, beq_iff_eq] at hmay
        tauto
      split
      · split
        · exact .inl rfl
        · exact .inr ⟨hst, hidle, .inl rfl⟩
      · exact .inr ⟨hst, hidle, .inr rfl⟩
      · exact .inl rfl
    · exact .inl rfl

theorem Dev.energise_of_uncertain {d : Dev} (h : d.msu.busCond = .uncertain) : d.energise = d := by
  simp only [Dev.energise, h]
  (repeat' split) <;> rfl

theorem Dev.energise_of_not_assigned {d : Dev} (h : d.hoc.state ≠ .assigned) : d.energise = d := by
  rcases d.energise_cases with he | ⟨hs, -⟩
  · exact he
  · exact absurd hs h

theorem Dev.energise_sameTable (d : Dev) : d.hoc.sameTable d.energise.hoc := by
  rcases d.energise_cases with he | ⟨-, -, he | he⟩ <;> rw [he]
  · exact d.hoc.sameTable_refl
  · exact d.move_sameTable _
  · exact d.move_sameTable _

theorem Dev.toAssigned_sameTable (d : Dev) : d.hoc.sameTable d.toAssigned.hoc :=
  (d.move_sameTable .assigned).trans (Dev.energise_sameTable _)

theorem Dev.reconsider_sameTable (d : Dev) : d.hoc.sameTable d.reconsider.hoc := by
  unfold Dev.reconsider
  (repeat' split)
  · exact d.toAssigned_sameTable
  · exact d.hoc.sameTable_refl
  · exact d.toAssigned_sameTable
  · exact d.hoc.sameTable_refl
  · exact d.energise_sameTable
  · exact d.hoc.sameTable_refl

theorem Dev.setBusCond_sameTable (d : Dev) (c : BusCond) : d.hoc.sameTable (d.setBusCond c).hoc := by
  unfold Dev.setBusCond
  split
  · exact d.hoc.sameTable_refl
  · exact Dev.reconsider_sameTable (d.setMsu { d.msu with busCond := c })

/-! ### SESSION OPEN (R107) -/

theorem sessionInRange_iff (f : SessionFields) :
    sessionInRange f = true ↔
      (f.fNom.toNat = 50000 ∨ f.fNom.toNat = 60000) ∧ 400 ≤ f.vNom.toNat ∧ f.vNom.toNat ≤ 15000 ∧
        (f.demand.toNat = 0 ∨ 100 ≤ f.demand.toNat ∧ f.demand.toNat ≤ 40000) ∧ 20 ≤ f.closing.toNat ∧ f.closing.toNat ≤ 250 ∧
        50 ≤ f.release.toNat ∧ f.release.toNat ≤ 2000 := by
  simp only [sessionInRange, Bool.and_eq_true, Bool.or_eq_true, beq_iff_eq, decide_eq_true_eq, and_assoc]

theorem outletOfCode_eq_none {code : Byte} : outletOfCode code = none ↔ code ≠ 1 ∧ code ≠ 2 := by
  unfold outletOfCode
  split
  · rename_i h; exact ⟨nofun, fun hn => absurd h hn.1⟩
  · split
    · rename_i h; exact ⟨nofun, fun hn => absurd h hn.2⟩
    · rename_i h1 h2; exact ⟨fun _ => ⟨h1, h2⟩, fun _ => rfl⟩

theorem Dev.sessionOpen_of_range {d : Dev} {f : SessionFields}
    (h : (f.outlet ≠ 1 ∧ f.outlet ≠ 2) ∨ ¬sessionInRange f = true) : d.sessionOpen f = d.refuse .range := by
  unfold Dev.sessionOpen
  split
  · rfl
  · rename_i x hx
    have hin : ¬sessionInRange f = true := h.resolve_left fun hn => by simp [outletOfCode_eq_none.2 hn] at hx
    simp [hin]

section
variable {d : Dev} {f : SessionFields} {x : Outlet} (hx : outletOfCode f.outlet = some x) (hin : sessionInRange f = true)
include hx hin

theorem Dev.sessionOpen_of_none (hn : d.hoc.session x = none) : d.sessionOpen f = (d.openSession x f).accept := by
  simp [Dev.sessionOpen, hx, hin, hn]

/-- An OPEN record is kept: the same ID is a repeat, another is refused. -/
theorem Dev.sessionOpen_of_open {ses : Session} (hs : d.hoc.session x = some ses) :
    d.sessionOpen f = if ses.id = f.id.toNat then d.accept else d.refuse .state := by
  simp [Dev.sessionOpen, hx, hin, hs]

end

/-- The record opened stands through the tests that it sets off, with the other record and the assignment as they were. -/
theorem Dev.openSession_table (d : Dev) (x : Outlet) (f : SessionFields) :
    (d.hoc.setSession x (some (sessionOf f))).sameTable (d.openSession x f).hoc := by
  simp only [Dev.openSession, Dev.sessionChanged]
  refine Hoc.sameTable.trans ?_ (Dev.energise_sameTable _)
  split
  · exact Dev.setBusCond_sameTable (d.setHoc (d.hoc.setSession x (some (sessionOf f)))) .uncertain
  · exact Hoc.sameTable_refl _

/-- R6, R12: the record of the assigned outlet makes the bus condition UNCERTAIN; the measurement is otherwise kept. -/
theorem Dev.openSession_msu (d : Dev) (x : Outlet) (f : SessionFields) :
    (d.openSession x f).msu =
      { d.msu with busCond := if d.hoc.assignment = some x then .uncertain else d.msu.busCond } := by
  have ha : (d.setHoc (d.hoc.setSession x (some (sessionOf f)))).hoc.assignment = d.hoc.assignment :=
    Hoc.setSession_assignment _ _ _
  simp only [Dev.openSession, Dev.energise_frame, Dev.sessionChanged, ha]
  split
  · exact Dev.setBusCond_msu _ _
  · rfl

/-- Settles O35: the tests in their order, and the record opened behind them. -/
theorem sessionOpenMakesTheRecord : Obligations.SessionOpenMakesTheRecord := by
  intro s h f ht good
  have hgood : sessionInRange f = true ↔ good := sessionInRange_iff f
  refine ⟨fun hr => ?_, fun x hx hg => ⟨fun ses hs hne => ?_, fun ses hs heq => ?_, fun hn => ?_⟩⟩
  · rw [exec_sessionOpen ht, Dev.sessionOpen_of_range (hr.imp_right (mt hgood.1))]
    exact State.next_reply ht _ _
  · rw [exec_sessionOpen ht, Dev.sessionOpen_of_open hx (hgood.2 hg) (by simpa using hs), if_neg hne]
    exact State.next_reply ht _ _
  · rw [exec_sessionOpen ht, Dev.sessionOpen_of_open hx (hgood.2 hg) (by simpa using hs), if_pos heq]
    exact State.next_reply ht _ _
  · obtain ⟨hrun, hpins, hcfg, hlnk, hptb, hctc, hmtr, hrst, hntu, hfree⟩ :=
      (s.dev.routed .sessionOpen h).openSession_frame x f
    have htable := (s.dev.routed .sessionOpen h).openSession_table x f
    have hmsu := (s.dev.routed .sessionOpen h).openSession_msu x f
    simp only [Dev.routed_frame] at htable hmsu
    rw [exec_sessionOpen ht, Dev.sessionOpen_of_none hx (hgood.2 hg) (by simpa using hn),
      Dev.reply_accept ht (Dev.eq_of_frame hrun hpins hcfg hlnk hptb hctc hmtr hrst hntu hfree)]
    refine ⟨_, rfl, rfl, rfl, ?_, ?_, ?_, hmsu⟩
    · exact (htable.session x).trans (Hoc.session_setSession_same _ _ _)
    · exact (htable.session (otherOutlet x)).trans (Hoc.session_setSession_other _ _ _)
    · exact htable.1.trans (Hoc.setSession_assignment _ _ _)

end Sys2Proof.Machine

namespace Sys2Proof.Machine

/-! ### ASSIGN (R101, R109) -/

theorem Ctc.anyWelded_iff (c : Ctc) : c.anyWelded = true ↔ c.a.state = .welded ∨ c.b.state = .welded := by
  simp [Ctc.anyWelded]

section
variable {d : Dev} {code : Byte} {x : Outlet}

theorem Dev.assign_of_range (h : code ≠ 1 ∧ code ≠ 2) : d.assign code = d.refuse .range := by
  simp only [Dev.assign, outletOfCode_eq_none.2 h]

theorem Dev.assign_of_configBad (hx : outletOfCode code = some x) (hb : d.cfg.configBad = true) :
    d.assign code = d.refuse .state := by
  simp only [Dev.assign, hx, hb, if_true]

theorem Dev.assign_of_welded (hx : outletOfCode code = some x) (hb : d.cfg.configBad = false)
    (hw : d.con .a = .welded ∨ d.con .b = .welded) : d.assign code = d.refuse .interlock := by
  simp only [Dev.assign, hx, hb, d.ctc.anyWelded_iff.2 hw, if_true, Bool.false_eq_true, if_false]

/-- R109: behind the tests of the configuration and the contactors, TRIPPED refuses, and any other state takes the order. -/
theorem Dev.assign_of_tested (hx : outletOfCode code = some x) (hb : d.cfg.configBad = false) (ha : d.con .a ≠ .welded)
    (hw : d.con .b ≠ .welded) : d.assign code = if d.hoc.state = .tripped then d.refuse .state else d.assignTo x := by
  have hn : ¬d.ctc.anyWelded = true := fun h => (d.ctc.anyWelded_iff.1 h).elim ha hw
  simp only [Dev.assign, hx, hb, Bool.false_eq_true, if_false, if_neg hn]

theorem Dev.assignTo_of_leaving (h : d.hoc.state = .leaving) : d.assignTo x = (d.redirect (some x)).accept := if_pos h

theorem Dev.assignTo_of_same (h : d.hoc.state ≠ .leaving) (hx : d.hoc.assignment = some x) :
    d.assignTo x = ((d.setCellCh d.syn.cell.reissue).energise).accept := by
  simp only [Dev.assignTo, if_neg h, hx, if_true]

/-- From OFF the outlet is assigned; its bus condition is UNCERTAIN, so the test of R112 moves nothing yet. -/
theorem Dev.assignTo_of_off (hs : d.hoc.state = .off) (ha : d.hoc.assignment = none) :
    d.assignTo x = ((d.move .assigned).reassign (some x)).accept := by
  have hn : (d.move .assigned).hoc.assignment ≠ some x := by rw [(d.move_sameTable .assigned).1, ha]; simp
  have hu : ((d.move .assigned).reassign (some x)).msu.busCond = .uncertain := by
    simp only [Dev.reassign, if_neg hn]
    rfl
  simp only [Dev.assignTo, Dev.takeLeave, hs, ha, reduceCtorEq, if_false, Dev.applyDestination, Dev.energise_of_uncertain hu]

end

/-- R6, R101, R109: a change of assignment at the measurement, the synchroniser and the handover controller. -/
theorem Dev.reassign_of_ne {d : Dev} {x : Option Outlet} (h : d.hoc.assignment ≠ x) :
    (d.reassign x).hoc = { d.hoc with assignment := x, acted := x.bind d.ptb.shipView } ∧
      (d.reassign x).msu = d.msu.reassigned ∧ (d.reassign x).syn.cell = d.syn.cell.reset := by
  simp only [Dev.reassign, if_neg h]
  exact ⟨rfl, rfl, rfl⟩

/-- A move with a change of assignment stays in the measurement, the synthesis unit, the synchroniser and the handover controller. -/
theorem Dev.move_reassign_eq (d : Dev) (st : HState) (x : Option Outlet) :
    (d.move st).reassign x =
      { d with
        msu := ((d.move st).reassign x).msu
        syu := ((d.move st).reassign x).syu
        syn := ((d.move st).reassign x).syn
        hoc := ((d.move st).reassign x).hoc } := by
  apply Dev.eq_of_frame <;> simp

/-- ASSIGN from OFF: what `assignTo` leaves. -/
theorem Dev.assigned_from_off {d : Dev} {x : Outlet} (ha : d.hoc.assignment = none) :
    ((d.move .assigned).reassign (some x)).hoc.assignment = some x ∧
      ((d.move .assigned).reassign (some x)).hoc.state = .assigned ∧
      ((d.move .assigned).reassign (some x)).hoc.acted = d.ptb.shipView x ∧
      ((d.move .assigned).reassign (some x)).msu = d.msu.reassigned ∧
      ((d.move .assigned).reassign (some x)).syn.cell = (d.move .assigned).syn.cell.reset := by
  have hn : (d.move .assigned).hoc.assignment ≠ some x := by rw [(d.move_sameTable .assigned).1, ha]; simp
  obtain ⟨hhoc, hmsu, hcell⟩ := Dev.reassign_of_ne hn
  rw [hhoc, hmsu, hcell]
  exact ⟨rfl, d.move_state .assigned, by simp, by simp, rfl⟩

theorem Channel.reissue_state (c : Channel) : c.reissue.state ≠ .spent := by
  simp only [Channel.reissue]
  split
  · decide
  · assumption

/-- From ASSIGNED the move into FORMING leaves the cell channel, and that into JOINING begins an attempt of an IDLE one (R89). -/
theorem Dev.move_forming_cell {d : Dev} (hs : d.hoc.state = .assigned) : (d.move .forming).syn.cell = d.syn.cell := by
  simp [Dev.move, Syn.enter, hs]

theorem Dev.move_joining_cell {d : Dev} (hs : d.hoc.state = .assigned) (hi : d.syn.cell.state = .idle) :
    (d.move .joining).syn.cell = d.syn.cell.attempt := by
  simp [Dev.move, Syn.enter, hs, hi]

/-- R101, R112: ASSIGN again in ASSIGNED clears the attempts, so the channel is not SPENT, and at most one attempt has begun behind it. -/
theorem Dev.reissued_in_assigned {d t : Dev} (hs : d.hoc.state = .assigned) (ht : t = (d.setCellCh d.syn.cell.reissue).energise) :
    (t.hoc.state = .assigned ∨ t.hoc.state = .forming ∨ t.hoc.state = .joining) ∧ t.syn.cell.state ≠ .spent ∧
      t.syn.cell.attempts ≤ 1 := by
  have hstate : (d.setCellCh d.syn.cell.reissue).hoc.state = .assigned := hs
  rcases (d.setCellCh d.syn.cell.reissue).energise_cases with he | ⟨-, hidle, he | he⟩ <;> rw [ht, he]
  · exact ⟨.inl hstate, d.syn.cell.reissue_state, Nat.zero_le 1⟩
  · rw [Dev.move_state, Dev.move_forming_cell hstate]
    exact ⟨.inr (.inl rfl), d.syn.cell.reissue_state, Nat.zero_le 1⟩
  · rw [Dev.move_state, Dev.move_joining_cell hstate hidle]
    exact ⟨.inr (.inr rfl), nofun, Nat.min_le_right _ _⟩

/-- ASSIGN to the outlet already assigned, replied to: a new cell channel and the energising test behind it leave the measurement. -/
theorem Dev.reply_assign_energised {d : Dev} {h : OrderHead} (ht : d.takes h) (c : Channel) :
    Dev.reply (((d.routed .assign h).setCellCh c).energise).accept =
      { d.answered .assign h .accepted with
        syu := (((d.routed .assign h).setCellCh c).energise).syu
        syn := (((d.routed .assign h).setCellCh c).energise).syn
        hoc := (((d.routed .assign h).setCellCh c).energise).hoc } := by
  obtain ⟨hrun, hpins, hcfg, hlnk, hptb, hmsu, hctc, hmtr, hrst, hntu, hfree⟩ :=
    ((d.routed .assign h).setCellCh c).energise_frame
  rw [Dev.reply_accept ht (Dev.eq_of_frame hrun hpins hcfg hlnk hptb hctc hmtr hrst hntu hfree), hmsu]
  rfl

/-- Settles O33: the tests in their order, and the table of R109 behind them. -/
theorem assignIsTestedAndTaken : Obligations.AssignIsTestedAndTaken := by
  intro s h code ht refused
  obtain ⟨d, hd⟩ : ∃ d, d = s.dev.routed .assign h := ⟨_, rfl⟩
  have hcfg : d.cfg = s.dev.cfg := by simp [hd]
  have hhoc : d.hoc = s.dev.hoc := by simp [hd]
  have hcon : ∀ y, d.con y = s.dev.con y := by simp [hd, Dev.con]
  have hexec : exec (.assign h code) s = .next { s with dev := Dev.reply (d.assign code) } := hd ▸ exec_assign ht code
  have hrefuse : ∀ r, d.assign code = d.refuse r → refused r := by
    intro r hr
    simp only [refused]
    rw [hexec, hr, hd]
    exact State.next_reply ht _ _
  refine ⟨fun hc => hrefuse _ (Dev.assign_of_range hc), fun x hx => ⟨fun hb => ?_, fun hb hw => ?_, fun hb ha hbw => ?_⟩⟩
  · exact hrefuse _ (Dev.assign_of_configBad hx (hcfg ▸ hb))
  · exact hrefuse _ (Dev.assign_of_welded hx (hcfg ▸ hb) (by rwa [hcon, hcon]))
  · have htested := Dev.assign_of_tested (d := d) hx (hcfg ▸ hb) (by rwa [hcon]) (by rwa [hcon])
    have htaken : s.dev.hoc.state ≠ .tripped → d.assign code = d.assignTo x := fun hn => htested.trans (if_neg (by rwa [hhoc]))
    refine ⟨fun hs => ?_, fun hs hnone => ?_, fun hsame hl htr hna => ?_, fun hsame hl => ?_, fun hsame hs => ?_⟩
    · exact hrefuse _ (htested.trans (if_pos (by rw [hhoc, hs])))
    · rw [hexec, htaken (by simp [hs]), Dev.assignTo_of_off (by rw [hhoc, hs]) (by rw [hhoc, hnone])]
      obtain ⟨hassign, hstate, hacted, hmsu, hcell⟩ := Dev.assigned_from_off (d := d) (x := x) (by rw [hhoc, hnone])
      subst hd
      rw [Dev.reply_accept ht (Dev.move_reassign_eq _ _ _)]
      refine ⟨_, rfl, rfl, rfl, hassign, hstate, by simpa using hacted, by simpa [Msu.reassigned] using hmsu, ?_⟩
      simp only [hcell]
      exact ⟨rfl, rfl, rfl⟩
    · rw [hexec, htaken htr, Dev.assignTo_of_same (by rwa [hhoc]) (by rw [hhoc, hsame])]
      subst hd
      rw [Dev.reply_assign_energised ht, Dev.energise_of_not_assigned (by simpa using hna)]
      rfl
    · rw [hexec, htaken (by simp [hl]), Dev.assignTo_of_leaving (by rw [hhoc, hl])]
      subst hd
      rw [Dev.reply_accept (k := .assign) ht rfl]
      rfl
    · rw [hexec, htaken (by simp [hs]), Dev.assignTo_of_same (by simp [hhoc, hs]) (by rw [hhoc, hsame])]
      obtain ⟨hstate, hspent, hattempts⟩ := Dev.reissued_in_assigned (d := d) (by rw [hhoc, hs]) rfl
      have hassign := ((d.setCellCh d.syn.cell.reissue).energise_sameTable).1.trans (congrArg Hoc.assignment hhoc)
      subst hd
      rw [Dev.reply_assign_energised ht]
      exact ⟨_, rfl, rfl, rfl, hassign.trans hsame, hstate, hspent, hattempts⟩

end Sys2Proof.Machine

/-! # The offsets and the commands of the synthesis unit stay inside their bounds -/

namespace Sys2Proof.Machine

theorem clampInt_mem {lo hi : Int} (h : lo ≤ hi) (x : Int) : lo ≤ clampInt lo hi x ∧ clampInt lo hi x ≤ hi := by
  simp only [clampInt]; omega

/-! ### The writes of the synthesis unit (R19 to R34) -/

/-- What the operations of the part make of a synthesis unit between two steps of it: the run flag cleared, also for good; the mode of a
handover state entered; the three offsets written. -/
inductive Syu.becomes (s : Syu) : Syu → Prop
  | same : s.becomes s
  | stopped {t : Syu} : s.becomes t → s.becomes t.clearRun
  | heldClear {t : Syu} : s.becomes t → s.becomes { t with heldClear := true }
  | entered {t : Syu} (old st : HState) (running : Bool) (ses : Option Session) : s.becomes t → s.becomes (t.enter old st running ses)
  | ramped {t : Syu} (v : Int) : s.becomes t → s.becomes { t with fRamp := clampInt (-3000) 3000 v }
  | joining {t : Syu} (v : Int) : s.becomes t → s.becomes { t with fJoin := clampInt (-3000) 3000 v }
  | steering {t : Syu} (v : Int) : s.becomes t → s.becomes { t with vSteer := clampInt (-100) 100 v }

@[simp] theorem Syu.becomes.rampBy {s : Syu} {d : Dev} (h : s.becomes d.syu) (w : Writer) (x : Int) : s.becomes (d.rampBy w x).syu := by
  simp only [Dev.rampBy]
  split
  · exact h.ramped _
  · exact h
@[simp] theorem Syu.becomes.rampTo {s : Syu} {d : Dev} (h : s.becomes d.syu) (v : Int) : s.becomes (d.rampTo v).syu := h.ramped v
@[simp] theorem Syu.becomes.joinBy {s : Syu} {d : Dev} (h : s.becomes d.syu) (x : Int) : s.becomes (d.joinBy x).syu := by
  simp only [Dev.joinBy]
  split
  · exact h.joining _
  · exact h
@[simp] theorem Syu.becomes.steerVoltageBy {s : Syu} {d : Dev} (h : s.becomes d.syu) (x : Int) : s.becomes (d.steerVoltageBy x).syu := by
  simp only [Dev.steerVoltageBy]
  split
  · exact h.steering _
  · exact h
@[simp] theorem Syu.becomes.move {s : Syu} {d : Dev} (h : s.becomes d.syu) (st : HState) : s.becomes (d.move st).syu := h.entered ..
@[simp] theorem Syu.becomes.syuWarning {s : Syu} {d : Dev} (h : s.becomes d.syu) : s.becomes d.syuWarning.syu := h.stopped.heldClear

/-! ### Steering and restoration (R31, R38, R97 to R99) -/

@[simp] theorem Syu.becomes.restore {s : Syu} {d : Dev} (h : s.becomes d.syu) :
    s.becomes d.restore.syu := by
  simp only [Dev.restore]
  (repeat' split) <;> simp [h]
@[simp] theorem Syu.becomes.steerCell {s : Syu} {d : Dev} (h : s.becomes d.syu) :
    s.becomes d.steerCell.syu := by
  simp only [Dev.steerCell]
  (repeat' split) <;> simp [h]
@[simp] theorem Syu.becomes.steerVoltage {s : Syu} {d : Dev} (h : s.becomes d.syu) :
    s.becomes d.steerVoltage.syu := by
  simp only [Dev.steerVoltage]
  (repeat' split) <;> simp [h]
@[simp] theorem Syu.becomes.steerShip {s : Syu} {d : Dev} (h : s.becomes d.syu) :
    s.becomes d.steerShip.syu := by
  simp only [Dev.steerShip]
  (repeat' split) <;> simp [h]
@[simp] theorem Syu.becomes.shipCrossing {s : Syu} {d : Dev} (h : s.becomes d.syu) :
    s.becomes d.shipCrossing.syu := by
  simp only [Dev.shipCrossing]
  (repeat' split) <;> simp [h]
@[simp] theorem Syu.becomes.cellCrossing {s : Syu} {d : Dev} (h : s.becomes d.syu) :
    s.becomes d.cellCrossing.syu := by
  simp only [Dev.cellCrossing]
  (repeat' split) <;> simp [h]

/-! ### Moves between the handover states (R19, R106, R112) -/

@[simp] theorem Syu.becomes.enter {s : Syu} {d : Dev} (h : s.becomes d.syu) (st : HState) :
    s.becomes (d.enter st).syu := by
  simp only [Dev.enter]
  (repeat' split) <;> simp [h]
@[simp] theorem Syu.becomes.energise {s : Syu} {d : Dev} (h : s.becomes d.syu) :
    s.becomes d.energise.syu := by
  simp only [Dev.energise]
  (repeat' split) <;> simp [h]
@[simp] theorem Syu.becomes.toAssigned {s : Syu} {d : Dev} (h : s.becomes d.syu) :
    s.becomes d.toAssigned.syu :=
  (h.move _).energise
@[simp] theorem Syu.becomes.reconsider {s : Syu} {d : Dev} (h : s.becomes d.syu) :
    s.becomes d.reconsider.syu := by
  simp only [Dev.reconsider]
  (repeat' split) <;> simp [h]
@[simp] theorem Syu.becomes.setBusCond {s : Syu} {d : Dev} (h : s.becomes d.syu) (c : BusCond) :
    s.becomes (d.setBusCond c).syu := by
  simp only [Dev.setBusCond]
  (repeat' split) <;> simp [h]
@[simp] theorem Syu.becomes.applyDestination {s : Syu} {d : Dev} (h : s.becomes d.syu) (x : Option Outlet) :
    s.becomes (d.applyDestination x).syu := by
  simp only [Dev.applyDestination]
  (repeat' split) <;> simp [h]
@[simp] theorem Syu.becomes.completeLeave {s : Syu} {d : Dev} (h : s.becomes d.syu) :
    s.becomes d.completeLeave.syu :=
  h.applyDestination _

/-! ### Changes of a contactor (R32, R73, R102, R111, R114 to R116) -/

@[simp] theorem Syu.becomes.cellTimeout {s : Syu} {d : Dev} (h : s.becomes d.syu) :
    s.becomes d.cellTimeout.syu := by
  simp only [Dev.cellTimeout]
  (repeat' split) <;> simp [h]
@[simp] theorem Syu.becomes.seekAfresh {s : Syu} {d : Dev} (h : s.becomes d.syu) :
    s.becomes d.seekAfresh.syu := by
  simp only [Dev.seekAfresh]
  (repeat' split) <;> simp [h]
@[simp] theorem Syu.becomes.assignedClosed {s : Syu} {d : Dev} (h : s.becomes d.syu) (x : Outlet) :
    s.becomes (d.assignedClosed x).syu := by
  simp only [Dev.assignedClosed]
  (repeat' split) <;> simp [h]
@[simp] theorem Syu.becomes.assignedLeftClosed {s : Syu} {d : Dev} (h : s.becomes d.syu) :
    s.becomes d.assignedLeftClosed.syu := by
  simp only [Dev.assignedLeftClosed]
  (repeat' split) <;> simp [h]
@[simp] theorem Syu.becomes.assignedOpened {s : Syu} {d : Dev} (h : s.becomes d.syu) (c : CState) :
    s.becomes (d.assignedOpened c).syu := by
  simp only [Dev.assignedOpened]
  (repeat' split) <;> simp [h]
@[simp] theorem Syu.becomes.assignedChanged {s : Syu} {d : Dev} (h : s.becomes d.syu) (x : Outlet) (o n : CState) :
    s.becomes (d.assignedChanged x o n).syu := by
  simp only [Dev.assignedChanged]
  (repeat' split) <;> simp [h]
@[simp] theorem Syu.becomes.leftClosed {s : Syu} {d : Dev} (h : s.becomes d.syu) (o : Origin) :
    s.becomes (d.leftClosed o).syu := by
  simp only [Dev.leftClosed]
  simp [h]
@[simp] theorem Syu.becomes.conChanged {s : Syu} {d : Dev} (h : s.becomes d.syu) (x : Outlet) (c : CState) (o : Origin) :
    s.becomes (d.conChanged x c o).syu := by
  simp only [Dev.conChanged]
  (repeat' split) <;> simp [h]

/-! ### The ship (R119, R125) -/

@[simp] theorem Syu.becomes.backToOnBus {s : Syu} {d : Dev} (h : s.becomes d.syu) :
    s.becomes d.backToOnBus.syu :=
  (h.move _).rampTo 0
@[simp] theorem Syu.becomes.breakerCloses {s : Syu} {d : Dev} (h : s.becomes d.syu) (n : Nat) :
    s.becomes (d.breakerCloses n).syu := by
  simp only [Dev.breakerCloses]
  (repeat' split) <;> simp [h]
@[simp] theorem Syu.becomes.breakerOpens {s : Syu} {d : Dev} (h : s.becomes d.syu) :
    s.becomes d.breakerOpens.syu := by
  simp only [Dev.breakerOpens]
  (repeat' split) <;> simp [h]
@[simp] theorem Syu.becomes.generatorEvent {s : Syu} {d : Dev} (h : s.becomes d.syu) (n : Nat) :
    s.becomes (d.generatorEvent n).syu := by
  simp only [Dev.generatorEvent]
  (repeat' split) <;> simp [h]
@[simp] theorem Syu.becomes.shipEvents {s : Syu} {d : Dev} (h : s.becomes d.syu) (u v : ShipFacts) :
    s.becomes (d.shipEvents u v).syu := by
  simp only [Dev.shipEvents]
  (repeat' split) <;> simp [h]
@[simp] theorem Syu.becomes.takeView {s : Syu} {d : Dev} (h : s.becomes d.syu) :
    s.becomes d.takeView.syu := by
  simp only [Dev.takeView]
  (repeat' split) <;> simp [h]
@[simp] theorem Syu.becomes.shipNotice {s : Syu} {d : Dev} (h : s.becomes d.syu) :
    s.becomes d.shipNotice.syu := by
  simp only [Dev.shipNotice]
  (repeat' split) <;> simp [h]

/-! ### The contactor controller and the trip (R73 to R82) -/

@[simp] theorem Syu.becomes.changeCon {s : Syu} {d : Dev} (h : s.becomes d.syu) (x : Outlet) (c : Contactor) (o : Origin) :
    s.becomes (d.changeCon x c o).syu :=
  Syu.becomes.conChanged (d := d.setCon x c) h _ _ _
@[simp] theorem Syu.becomes.startClose {s : Syu} {d : Dev} (h : s.becomes d.syu) (x : Outlet) :
    s.becomes (d.startClose x).syu :=
  h.changeCon _ _ _
@[simp] theorem Syu.becomes.openRequest {s : Syu} {d : Dev} (h : s.becomes d.syu) (x : Outlet) (o : Origin) :
    s.becomes (d.openRequest x o).syu :=
  h.changeCon _ _ _
@[simp] theorem Syu.becomes.takeHeld {s : Syu} {d : Dev} (h : s.becomes d.syu) (x : Outlet) :
    s.becomes (d.takeHeld x).syu := by
  simp only [Dev.takeHeld]
  (repeat' split) <;> simp [h]
@[simp] theorem Syu.becomes.becomeOpen {s : Syu} {d : Dev} (h : s.becomes d.syu) (x : Outlet) (o : Origin) :
    s.becomes (d.becomeOpen x o).syu :=
  (h.changeCon _ _ _).takeHeld _
@[simp] theorem Syu.becomes.becomeClosed {s : Syu} {d : Dev} (h : s.becomes d.syu) (x : Outlet) :
    s.becomes (d.becomeClosed x).syu :=
  h.changeCon _ _ _
@[simp] theorem Syu.becomes.hocTrip {s : Syu} {d : Dev} (h : s.becomes d.syu) :
    s.becomes d.hocTrip.syu :=
  h.move _
@[simp] theorem Syu.becomes.bothChanged {s : Syu} {d : Dev} (h : s.becomes d.syu) (p q : CState) (o : Origin) :
    s.becomes (d.bothChanged p q o).syu :=
  (h.conChanged _ _ _).conChanged _ _ _
@[simp] theorem Syu.becomes.trip {s : Syu} {d : Dev} (h : s.becomes d.syu) (c : TripCause) (x : Option Outlet) :
    s.becomes (d.trip c x).syu := by
  have hmove : s.becomes (d.setSyu d.syu.clearRun).hocTrip.syu :=
    Syu.becomes.hocTrip (d := d.setSyu d.syu.clearRun) h.stopped
  simp only [Dev.trip]
  split <;> simp [hmove]
@[simp] theorem Syu.becomes.closeFailed {s : Syu} {d : Dev} (h : s.becomes d.syu) (x : Outlet) :
    s.becomes (d.closeFailed x).syu := by
  simp only [Dev.closeFailed]
  simp [h]
@[simp] theorem Syu.becomes.openFailed {s : Syu} {d : Dev} (h : s.becomes d.syu) (x : Outlet) :
    s.becomes (d.openFailed x).syu := by
  simp only [Dev.openFailed]
  simp [h]
@[simp] theorem Syu.becomes.pulseEnd {s : Syu} {d : Dev} (h : s.becomes d.syu) (x : Outlet) :
    s.becomes (d.pulseEnd x).syu := by
  simp only [Dev.pulseEnd]
  (repeat' split) <;> simp [h]
@[simp] theorem Syu.becomes.confirmEnd {s : Syu} {d : Dev} (h : s.becomes d.syu) (x : Outlet) :
    s.becomes (d.confirmEnd x).syu := by
  simp only [Dev.confirmEnd]
  (repeat' split) <;> simp [h]
@[simp] theorem Syu.becomes.unexpectedClosure {s : Syu} {d : Dev} (h : s.becomes d.syu) (x : Outlet) :
    s.becomes (d.unexpectedClosure x).syu := by
  simp only [Dev.unexpectedClosure]
  simp [h]
@[simp] theorem Syu.becomes.auxEffect {s : Syu} {d : Dev} (h : s.becomes d.syu) (x : Outlet) (c : Bool) :
    s.becomes (d.auxEffect x c).syu := by
  simp only [Dev.auxEffect]
  (repeat' split) <;> simp [h]
@[simp] theorem Syu.becomes.auxLevel {s : Syu} {d : Dev} (h : s.becomes d.syu) (x : Outlet) (c : Bool) :
    s.becomes (d.auxLevel x c).syu := by
  simp only [Dev.auxLevel]
  (repeat' split) <;> simp [h]

/-! ### Crossings, cycle beginnings and superframe boundaries (R91, R112 to R124) -/

@[simp] theorem Syu.becomes.takeMet {s : Syu} {d : Dev} (h : s.becomes d.syu) :
    s.becomes d.takeMet.syu := by
  simp only [Dev.takeMet]
  (repeat' split) <;> simp [h]
@[simp] theorem Syu.becomes.busCrossing {s : Syu} {d : Dev} (h : s.becomes d.syu) :
    s.becomes d.busCrossing.syu := by
  simp only [Dev.busCrossing]
  (repeat' split) <;> simp [h]
@[simp] theorem Syu.becomes.formingClose {s : Syu} {d : Dev} (h : s.becomes d.syu) (x : Outlet) :
    s.becomes (d.formingClose x).syu := by
  simp only [Dev.formingClose]
  (repeat' split) <;> simp [h]
@[simp] theorem Syu.becomes.judgeForming {s : Syu} {d : Dev} (h : s.becomes d.syu) :
    s.becomes d.judgeForming.syu := by
  simp only [Dev.judgeForming]
  (repeat' split) <;> simp [h]
@[simp] theorem Syu.becomes.follow {s : Syu} {d : Dev} (h : s.becomes d.syu) :
    s.becomes d.follow.syu := by
  simp only [Dev.follow]
  (repeat' split) <;> simp [h]
@[simp] theorem Syu.becomes.energiseDead {s : Syu} {d : Dev} (h : s.becomes d.syu) :
    s.becomes d.energiseDead.syu := by
  simp only [Dev.energiseDead]
  (repeat' split) <;> simp [h]
@[simp] theorem Syu.becomes.hocCycle {s : Syu} {d : Dev} (h : s.becomes d.syu) :
    s.becomes d.hocCycle.syu := by
  have hlead : s.becomes d.judgeForming.judgeLead.syu := by simp [h]
  exact hlead.follow.energiseDead
@[simp] theorem Syu.becomes.leavingStep {s : Syu} {d : Dev} (h : s.becomes d.syu) :
    s.becomes d.leavingStep.syu := by
  simp only [Dev.leavingStep]
  (repeat' split) <;> simp [h]
@[simp] theorem Syu.becomes.upStep {s : Syu} {d : Dev} (h : s.becomes d.syu) (v : ShipFacts) :
    s.becomes (d.upStep v).syu := by
  simp only [Dev.upStep]
  (repeat' split) <;> simp [h]
@[simp] theorem Syu.becomes.upBoundary {s : Syu} {d : Dev} (h : s.becomes d.syu) :
    s.becomes d.upBoundary.syu := by
  simp only [Dev.upBoundary]
  (repeat' split) <;> simp [h]
@[simp] theorem Syu.becomes.downBoundary {s : Syu} {d : Dev} (h : s.becomes d.syu) :
    s.becomes d.downBoundary.syu := by
  simp only [Dev.downBoundary]
  (repeat' split) <;> simp [h]
@[simp] theorem Syu.becomes.hocBoundary {s : Syu} {d : Dev} (h : s.becomes d.syu) :
    s.becomes d.hocBoundary.syu := by
  simp only [Dev.hocBoundary]
  (repeat' split) <;> simp [h]
@[simp] theorem Syu.becomes.superframe {s : Syu} {d : Dev} (h : s.becomes d.syu) :
    s.becomes d.superframe.syu := by
  simp only [Dev.superframe]
  (repeat' split) <;> simp [h]

/-! ### Timers of the handover controller and the synchroniser -/

@[simp] theorem Syu.becomes.rampStall {s : Syu} {d : Dev} (h : s.becomes d.syu) :
    s.becomes d.rampStall.syu := by
  simp only [Dev.rampStall]
  simp [h]
@[simp] theorem Syu.becomes.progressExpiry {s : Syu} {d : Dev} (h : s.becomes d.syu) :
    s.becomes d.progressExpiry.syu := by
  simp only [Dev.progressExpiry]
  (repeat' split) <;> simp [h]
@[simp] theorem Syu.becomes.absoluteExpiry {s : Syu} {d : Dev} (h : s.becomes d.syu) :
    s.becomes d.absoluteExpiry.syu := by
  simp only [Dev.absoluteExpiry]
  (repeat' split) <;> simp [h]
@[simp] theorem Syu.becomes.releaseExpiry {s : Syu} {d : Dev} (h : s.becomes d.syu) :
    s.becomes d.releaseExpiry.syu := by
  simp only [Dev.releaseExpiry]
  (repeat' split) <;> simp [h]
@[simp] theorem Syu.becomes.releaseWaitExpiry {s : Syu} {d : Dev} (h : s.becomes d.syu) :
    s.becomes d.releaseWaitExpiry.syu := by
  simp only [Dev.releaseWaitExpiry]
  (repeat' split) <;> simp [h]
@[simp] theorem Syu.becomes.openOwn {s : Syu} {d : Dev} (h : s.becomes d.syu) :
    s.becomes d.openOwn.syu := by
  simp only [Dev.openOwn]
  (repeat' split) <;> simp [h]
@[simp] theorem Syu.becomes.lowLoadExpiry {s : Syu} {d : Dev} (h : s.becomes d.syu) :
    s.becomes d.lowLoadExpiry.syu := by
  simp only [Dev.lowLoadExpiry]
  (repeat' split) <;> simp [h]
@[simp] theorem Syu.becomes.leaveStalled {s : Syu} {d : Dev} (h : s.becomes d.syu) (st : HState) :
    s.becomes (d.leaveStalled st).syu := by
  simp only [Dev.leaveStalled]
  simp [h]
@[simp] theorem Syu.becomes.leaveStallExpiry {s : Syu} {d : Dev} (h : s.becomes d.syu) :
    s.becomes d.leaveStallExpiry.syu := by
  simp only [Dev.leaveStallExpiry]
  (repeat' split) <;> simp [h]
@[simp] theorem Syu.becomes.cellTimeoutExpiry {s : Syu} {d : Dev} (h : s.becomes d.syu) :
    s.becomes d.cellTimeoutExpiry.syu := by
  simp only [Dev.cellTimeoutExpiry]
  (repeat' split) <;> simp [h]
@[simp] theorem Syu.becomes.shipTimeoutExpiry {s : Syu} {d : Dev} (h : s.becomes d.syu) :
    s.becomes d.shipTimeoutExpiry.syu := by
  simp only [Dev.shipTimeoutExpiry]
  (repeat' split) <;> simp [h]
@[simp] theorem Syu.becomes.backOffExpiry {s : Syu} {d : Dev} (h : s.becomes d.syu) :
    s.becomes d.backOffExpiry.syu := by
  simp only [Dev.backOffExpiry]
  (repeat' split) <;> simp [h]

/-! ### The entries to MUTED and ALIGNED, and the supply warning -/

@[simp] theorem Syu.becomes.hocMuted {s : Syu} {d : Dev} (h : s.becomes d.syu) :
    s.becomes d.hocMuted.syu := by
  simp only [Dev.hocMuted]
  (repeat' split) <;> simp [h]
@[simp] theorem Syu.becomes.ctcMuted {s : Syu} {d : Dev} (h : s.becomes d.syu) (c : Bool) :
    s.becomes (d.ctcMuted c).syu := by
  simp only [Dev.ctcMuted]
  (repeat' split) <;> simp [h]
@[simp] theorem Syu.becomes.enterMuted {s : Syu} {d : Dev} (h : s.becomes d.syu) :
    s.becomes d.enterMuted.syu := by
  simp only [Dev.enterMuted]
  (repeat' split) <;> simp [h]
@[simp] theorem Syu.becomes.becomeAligned {s : Syu} {d : Dev} (h : s.becomes d.syu) :
    s.becomes d.becomeAligned.syu := by
  simp only [Dev.becomeAligned]
  simp [h]
@[simp] theorem Syu.becomes.hocWarning {s : Syu} {d : Dev} (h : s.becomes d.syu) :
    s.becomes d.hocWarning.syu := by
  simp only [Dev.hocWarning]
  (repeat' split) <;> simp [h]
@[simp] theorem Syu.becomes.ctcWarning {s : Syu} {d : Dev} (h : s.becomes d.syu) :
    s.becomes d.ctcWarning.syu :=
  (h.openRequest _ _).openRequest _ _
@[simp] theorem Syu.becomes.blocksWarned {s : Syu} {d : Dev} (h : s.becomes d.syu) :
    s.becomes d.blocksWarned.syu := by
  have hmeter : s.becomes d.syuWarning.mtrWarning.synWarning.syu := by simp [h.syuWarning]
  exact hmeter.ctcWarning.hocWarning
@[simp] theorem Syu.becomes.warn {s : Syu} {d : Dev} (h : s.becomes d.syu) :
    s.becomes d.warn.syu := by
  simp only [Dev.warn]
  (repeat' split) <;> simp [h]

/-! ### The sample port and the cycle timer -/

@[simp] theorem Syu.becomes.overTrip {s : Syu} {d : Dev} (h : s.becomes d.syu) (c : Bool) :
    s.becomes (d.overTrip c).syu := by
  simp only [Dev.overTrip]
  (repeat' split) <;> simp [h]
@[simp] theorem Syu.becomes.takeCond {s : Syu} {d : Dev} (h : s.becomes d.syu) (c : Option BusCond) :
    s.becomes (d.takeCond c).syu := by
  simp only [Dev.takeCond]
  (repeat' split) <;> simp [h]
@[simp] theorem Syu.becomes.takeCrossings {s : Syu} {d : Dev} (h : s.becomes d.syu) (p q : Bool) :
    s.becomes (d.takeCrossings p q).syu := by
  simp only [Dev.takeCrossings]
  (repeat' split) <;> simp [h]
@[simp] theorem Syu.becomes.watchTimerExpiry {s : Syu} {d : Dev} (h : s.becomes d.syu) :
    s.becomes d.watchTimerExpiry.syu := by
  simp only [Dev.watchTimerExpiry]
  (repeat' split) <;> simp [h]
@[simp] theorem Syu.becomes.fallbackClose {s : Syu} {d : Dev} (h : s.becomes d.syu) (t : TrackerId) :
    s.becomes (d.fallbackClose t).syu := by
  simp only [Dev.fallbackClose]
  (repeat' split) <;> simp [h]
@[simp] theorem Syu.becomes.overloadExpiry {s : Syu} {d : Dev} (h : s.becomes d.syu) :
    s.becomes d.overloadExpiry.syu := by
  simp only [Dev.overloadExpiry]
  (repeat' split) <;> simp [h]
@[simp] theorem Syu.becomes.beginCycle {s : Syu} {d : Dev} (h : s.becomes d.syu) (n : Nat) :
    s.becomes (d.beginCycle n).syu := by
  simp only [Dev.beginCycle]
  (repeat' split) <;> simp [h]
@[simp] theorem Syu.becomes.cycleExpiry {s : Syu} {d : Dev} (h : s.becomes d.syu) :
    s.becomes d.cycleExpiry.syu :=
  h.beginCycle _

/-! ### The orders -/

@[simp] theorem Syu.becomes.abandonClose {s : Syu} {d : Dev} (h : s.becomes d.syu) :
    s.becomes d.abandonClose.syu := by
  simp only [Dev.abandonClose]
  (repeat' split) <;> simp [h]
@[simp] theorem Syu.becomes.enterLeaving {s : Syu} {d : Dev} (h : s.becomes d.syu) (x : Option Outlet) :
    s.becomes (d.enterLeaving x).syu := by
  simp only [Dev.enterLeaving]
  simp [h]
@[simp] theorem Syu.becomes.leaveLoaded {s : Syu} {d : Dev} (h : s.becomes d.syu) (x : Option Outlet) :
    s.becomes (d.leaveLoaded x).1.syu := by
  simp only [Dev.leaveLoaded]
  (repeat' split) <;> simp [h]
@[simp] theorem Syu.becomes.takeLeave {s : Syu} {d : Dev} (h : s.becomes d.syu) (x : Option Outlet) :
    s.becomes (d.takeLeave x).1.syu := by
  simp only [Dev.takeLeave]
  (repeat' split) <;> simp [h]
@[simp] theorem Syu.becomes.assignTo {s : Syu} {d : Dev} (h : s.becomes d.syu) (x : Outlet) :
    s.becomes (d.assignTo x).1.syu := by
  simp only [Dev.assignTo]
  (repeat' split) <;> simp [h]
@[simp] theorem Syu.becomes.assign {s : Syu} {d : Dev} (h : s.becomes d.syu) (c : Byte) :
    s.becomes (d.assign c).1.syu := by
  simp only [Dev.assign]
  (repeat' split) <;> simp [h]
@[simp] theorem Syu.becomes.sessionChanged {s : Syu} {d : Dev} (h : s.becomes d.syu) (x : Outlet) :
    s.becomes (d.sessionChanged x).syu := by
  simp only [Dev.sessionChanged]
  (repeat' split) <;> simp [h]
@[simp] theorem Syu.becomes.openSession {s : Syu} {d : Dev} (h : s.becomes d.syu) (x : Outlet) (f : SessionFields) :
    s.becomes (d.openSession x f).syu := by
  simp only [Dev.openSession]
  simp [h]
@[simp] theorem Syu.becomes.sessionOpen {s : Syu} {d : Dev} (h : s.becomes d.syu) (f : SessionFields) :
    s.becomes (d.sessionOpen f).1.syu := by
  simp only [Dev.sessionOpen]
  (repeat' split) <;> simp [h]
@[simp] theorem Syu.becomes.sessionGone {s : Syu} {d : Dev} (h : s.becomes d.syu) :
    s.becomes d.sessionGone.syu := by
  simp only [Dev.sessionGone]
  (repeat' split) <;> simp [h]
@[simp] theorem Syu.becomes.closeSession {s : Syu} {d : Dev} (h : s.becomes d.syu) (x : Outlet) :
    s.becomes (d.closeSession x).syu := by
  simp only [Dev.closeSession]
  (repeat' split) <;> simp [h]
@[simp] theorem Syu.becomes.sessionClose {s : Syu} {d : Dev} (h : s.becomes d.syu) (c : Byte) (n : Nat) :
    s.becomes (d.sessionClose c n).1.syu := by
  simp only [Dev.sessionClose]
  (repeat' split) <;> simp [h]
@[simp] theorem Syu.becomes.leadTransfer {s : Syu} {d : Dev} (h : s.becomes d.syu) :
    s.becomes d.leadTransfer.1.syu := by
  simp only [Dev.leadTransfer]
  (repeat' split) <;> simp [h]
@[simp] theorem Syu.becomes.leadDeparture {s : Syu} {d : Dev} (h : s.becomes d.syu) :
    s.becomes d.leadDeparture.1.syu := by
  simp only [Dev.leadDeparture]
  (repeat' split) <;> simp [h]
@[simp] theorem Syu.becomes.clearTrip {s : Syu} {d : Dev} (h : s.becomes d.syu) :
    s.becomes d.clearTrip.1.syu := by
  simp only [Dev.clearTrip]
  (repeat' split) <;> simp [h]

/-! ### Marks, slots and views -/

@[simp] theorem Syu.becomes.faulty {s : Syu} {d : Dev} (h : s.becomes d.syu) (i : Nat) :
    s.becomes (d.faulty i).syu := by
  simp only [Dev.faulty]
  (repeat' split) <;> simp [h]
@[simp] theorem Syu.becomes.adoptMark {s : Syu} {d : Dev} (h : s.becomes d.syu) (m q : Nat) (r : Int) :
    s.becomes (d.adoptMark m q r).syu := by
  simp only [Dev.adoptMark]
  (repeat' split) <;> simp [h]
@[simp] theorem Syu.becomes.adoptOutside {s : Syu} {d : Dev} (h : s.becomes d.syu) (m q : Nat) :
    s.becomes (d.adoptOutside m q).syu := by
  simp only [Dev.adoptOutside]
  simp [h]
@[simp] theorem Syu.becomes.adoptEarly {s : Syu} {d : Dev} (h : s.becomes d.syu) (m q : Nat) :
    s.becomes (d.adoptEarly m q).syu :=
  h.cycleExpiry.adoptMark _ _ _
@[simp] theorem Syu.becomes.validMark {s : Syu} {d : Dev} (h : s.becomes d.syu) (m q : Nat) (r : Int) :
    s.becomes (d.validMark m q r).syu := by
  simp only [Dev.validMark]
  (repeat' split) <;> simp [h]
@[simp] theorem Syu.becomes.markCollision {s : Syu} {d : Dev} (h : s.becomes d.syu) :
    s.becomes d.markCollision.syu := by
  simp only [Dev.markCollision]
  (repeat' split) <;> simp [h]
@[simp] theorem Syu.becomes.markHeard {s : Syu} {d : Dev} (h : s.becomes d.syu) (b : List Byte) (r : Int) :
    s.becomes (d.markHeard b r).syu := by
  simp only [Dev.markHeard]
  (repeat' split) <;> simp [h]
@[simp] theorem Syu.becomes.markReadBack {s : Syu} {d : Dev} (h : s.becomes d.syu) (b : List Byte) (o : Bool) :
    s.becomes (d.markReadBack b o).syu := by
  simp only [Dev.markReadBack]
  (repeat' split) <;> simp [h]
@[simp] theorem Syu.becomes.markReceived {s : Syu} {d : Dev} (h : s.becomes d.syu) (b : List Byte) (r : MarkHeard) :
    s.becomes (d.markReceived b r).syu := by
  simp only [Dev.markReceived]
  (repeat' split) <;> simp [h]
@[simp] theorem Syu.becomes.silenceExpiry {s : Syu} {d : Dev} (h : s.becomes d.syu) :
    s.becomes d.silenceExpiry.syu := by
  simp only [Dev.silenceExpiry]
  (repeat' split) <;> simp [h]
@[simp] theorem Syu.becomes.listenSlot {s : Syu} {d : Dev} (h : s.becomes d.syu) :
    s.becomes d.listenSlot.syu := by
  simp only [Dev.listenSlot]
  (repeat' split) <;> simp [h]
@[simp] theorem Syu.becomes.readBack {s : Syu} {d : Dev} (h : s.becomes d.syu) (b : List Byte) (o : Bool) :
    s.becomes (d.readBack b o).syu := by
  simp only [Dev.readBack]
  (repeat' split) <;> simp [h]
@[simp] theorem Syu.becomes.ownSlotEnd {s : Syu} {d : Dev} (h : s.becomes d.syu) (b : List Byte) (o : Bool) :
    s.becomes (d.ownSlotEnd b o).syu := by
  simp only [Dev.ownSlotEnd]
  (repeat' split) <;> simp [h]
@[simp] theorem Syu.becomes.viewNotice {s : Syu} {d : Dev} (h : s.becomes d.syu) (t : Ptb) (v : Bool) :
    s.becomes (d.viewNotice t v).syu := by
  simp only [Dev.viewNotice]
  (repeat' split) <;> simp [h]
@[simp] theorem Syu.becomes.stepOrder {s : Syu} {d : Dev} (h : s.becomes d.syu) (c : Byte) {lead : Dev → Decision}
    (hl : s.becomes (lead d).1.syu) : s.becomes (d.stepOrder c lead).1.syu := by
  simp only [Dev.stepOrder]
  (repeat' split) <;> simp [h, hl]
theorem Syu.becomes.decideOrder {s : Syu} {d : Dev} (h : s.becomes d.syu) (g : OrderHead) (o : Order) :
    s.becomes (d.decideOrder g o).1.syu := by
  simp only [Dev.decideOrder]
  split
  · exact h
  · cases o <;> simp [h]

/-! ### The bounds through every write (R24, R28, R30, R34) -/

/-- Whatever bounds hold of a synthesis unit hold of another as well. -/
def Syu.stays (s t : Syu) : Prop := (s.bounded → t.bounded) ∧ (s.commandsBounded → t.commandsBounded)

theorem Syu.stays_refl (s : Syu) : s.stays s := ⟨id, id⟩

theorem Syu.stays.trans {s t u : Syu} (h : s.stays t) (g : t.stays u) : s.stays u := ⟨g.1 ∘ h.1, g.2 ∘ h.2⟩

theorem Syu.stays_clearRun (s : Syu) : s.stays s.clearRun := ⟨id, fun _ => nofun⟩

theorem Syu.stays_clearJoin (s : Syu) : s.stays s.clearJoin :=
  ⟨fun h => ⟨h.1, by simp [Syu.clearJoin], by simp [Syu.clearJoin]⟩, id⟩

/-- The window of R24 is never empty. -/
theorem Syu.window_le (n : Nat) : (n : Int) - 2500 ≤ n + 2500 := by omega

/-- The two commands are brought into their bounds where the run flag is set (R20; log entry 40). -/
theorem Syu.stays_setRunFlag (s : Syu) (ses : Option Session) : s.stays (s.setRunFlag ses) :=
  ⟨id, fun _ _ => ⟨clampInt_mem (Syu.window_le _) _, clampInt_mem (by decide) _⟩⟩

theorem Syu.stays_setMode (s : Syu) (m : Mode) (running : Bool) (ses : Option Session) : s.stays (s.setMode m running ses) := by
  have hmode : s.stays { s.clearJoin with mode := m } := s.stays_clearJoin
  simp only [Syu.setMode]
  split
  · exact s.stays_refl
  · split
    · exact hmode.trans ⟨fun h => ⟨by simp, h.2⟩, fun _ => nofun⟩
    · split
      · exact hmode.trans (Syu.stays_setRunFlag _ ses)
      · exact hmode

theorem Syu.stays_enter (s : Syu) (old st : HState) (running : Bool) (ses : Option Session) : s.stays (s.enter old st running ses) := by
  simp only [Syu.enter]
  split
  · exact (s.stays_setMode _ _ _).trans (Syu.stays_clearJoin _)
  · exact s.stays_setMode _ _ _

theorem Syu.becomes.stays {s t : Syu} (h : s.becomes t) : s.stays t := by
  induction h with
  | same => exact s.stays_refl
  | stopped _ ih => exact ih.trans (Syu.stays_clearRun _)
  | heldClear _ ih => exact ih
  | entered old st running ses _ ih => exact ih.trans (Syu.stays_enter _ _ _ _ _)
  | ramped v _ ih => exact ih.trans ⟨fun hb => ⟨clampInt_mem (by decide) v, hb.2⟩, id⟩
  | joining v _ ih => exact ih.trans ⟨fun hb => ⟨hb.1, clampInt_mem (by decide) v, hb.2.2⟩, id⟩
  | steering v _ ih => exact ih.trans ⟨fun hb => ⟨hb.1, hb.2.1, clampInt_mem (by decide) v⟩, id⟩

/-! ### The step at a sample set (R24, R28) -/

theorem Dev.voltageCommand_mem (d : Dev) : 900 ≤ d.voltageCommand ∧ d.voltageCommand ≤ 1100 := by
  simp only [Dev.voltageCommand]
  split
  · omega
  · exact clampInt_mem (by omega) _

/-- A step brings both commands into their bounds (R24, R28). -/
theorem Dev.synthesise_stays (d : Dev) (gap : Nat) : d.syu.stays (d.synthesise gap) :=
  ⟨id, fun _ _ => ⟨clampInt_mem (Syu.window_le _) _, d.voltageCommand_mem⟩⟩

theorem Dev.synthesisSet_stays (d : Dev) (gap : Nat) : d.syu.stays (d.synthesisSet gap).syu := by
  simp only [Dev.synthesisSet]
  split
  · exact (d.synthesise_stays gap).trans ⟨id, id⟩
  · exact ⟨id, id⟩

/-- The part as a set finds it behind the synthesis unit: measured, its watches counted, stepped. -/
def Dev.stepped (d : Dev) (seq : Byte) (gap : Nat) (c : Channels) : Dev :=
  ((d.setMsu (d.msu.takeSet d.cfg d.hoc.assignment d.vRefNow seq gap c).1).watchesBy (gap + 1)).synthesisSet gap

/-- Behind its step a set makes no further step (log entry 8). -/
theorem Dev.admitSet_becomes (d : Dev) (seq : Byte) (gap : Nat) (c : Channels) :
    (d.stepped seq gap c).syu.becomes (d.admitSet seq gap c).syu := by
  have hmeter : ∀ p, (d.stepped seq gap c).syu.becomes ((d.stepped seq gap c).meterSet p).syu := by simp [Syu.becomes.same]
  exact (((hmeter _).overTrip _).takeCond _).takeCrossings _ _

theorem Dev.admitSet_stays (d : Dev) (seq : Byte) (gap : Nat) (c : Channels) : d.syu.stays (d.admitSet seq gap c).syu := by
  have hstep : d.syu.stays (d.stepped seq gap c).syu := by
    simpa [Dev.stepped] using
      Dev.synthesisSet_stays ((d.setMsu (d.msu.takeSet d.cfg d.hoc.assignment d.vRefNow seq gap c).1).watchesBy (gap + 1)) gap
  exact hstep.trans (d.admitSet_becomes seq gap c).stays

theorem Dev.sampleSet_stays (d : Dev) (r : RawSet) : d.syu.stays (d.sampleSet r).syu := by
  simp only [Dev.sampleSet]
  split
  · exact d.syu.stays_refl
  · split
    · exact d.admitSet_stays _ _ _
    · split
      · simpa using d.syu.stays_refl
      · simpa using Dev.admitSet_stays (d.raiseIf _ .sampleGap) _ _ _

/-! ### START (R18, R172) -/

/-- START clears the offsets and the run flag (R18). -/
theorem Syu.stays_start (s : Syu) : s.stays Syu.start := ⟨fun _ => by simp [Syu.bounded, Syu.start], fun _ => nofun⟩

@[simp] theorem Dev.raiseMany_syu (k : NoticeKind) (n : Nat) (d : Dev) : (Dev.raiseMany k n d).syu = d.syu := by
  induction n generalizing d with
  | zero => rfl
  | succ n ih => rw [Dev.raiseMany, ih, (d.raise_frame k).2.2.2.2.2.2.1]

@[simp] theorem Dev.configure_syu (d : Dev) : d.configure.syu = d.syu := by simp [Dev.configure]

@[simp] theorem Syu.becomes.contactorCheck {s : Syu} {d : Dev} (h : s.becomes d.syu) : s.becomes d.contactorCheck.syu := by
  simp only [Dev.contactorCheck, Dev.startOpening]
  (repeat' split) <;> simp [h]

@[simp] theorem Syu.becomes.linkEntry {s : Syu} {d : Dev} (h : s.becomes d.syu) : s.becomes d.linkEntry.syu := by
  simp only [Dev.linkEntry]
  split <;> simp [h]

@[simp] theorem Syu.becomes.runEntry {s : Syu} {d : Dev} (h : s.becomes d.syu) : s.becomes d.runEntry.syu := by
  simp only [Dev.runEntry]
  split <;> simp [h]

/-- START answers a unit inside its bounds, whatever was before it. -/
theorem Dev.startOver_stays (s : Syu) (mem : List Host.Cell) (pins : Pins) (restart : Bool) (d : Dev) :
    s.stays (d.startOver mem pins restart).syu := by
  have hstage : Syu.start.becomes (((d.stage1 mem pins).configure.scan).interruption restart).syu := by
    simpa [Dev.stage1, Dev.reset] using Syu.becomes.same
  exact s.stays_start.trans hstage.contactorCheck.linkEntry.runEntry.stays

theorem Dev.powerFail_stays (s : Syu) (d : Dev) : s.stays d.powerFail.syu := s.stays_start

/-! ### The order path and the line -/

theorem Dev.route_stays (d : Dev) (g : OrderHead) (o : Order) : d.syu.stays (d.route g o).syu := by
  cases o with
  | restart pins =>
    simp only [Dev.route]
    split
    · exact Dev.startOver_stays _ _ _ _ _
    · exact d.syu.stays_refl
  | _ => exact (Syu.becomes.same.decideOrder g _).stays

theorem Dev.order_stays (d : Dev) (g : OrderHead) (o : Order) : d.syu.stays (d.order g o).syu := by
  simp only [Dev.order]
  split_ifs
  · exact d.syu.stays_refl
  · exact d.syu.stays_refl
  · exact Dev.route_stays ((d.setLnk (d.lnk.remember g.sender (some g.tag))).setNtu _) g o
  · exact d.syu.stays_refl

theorem Dev.byRole_stays (d : Dev) (k : Nat) (role : Role) (bytes : List Byte) (pins : Pins) (before : Ptb) :
    d.syu.stays (d.byRole k role bytes pins before).syu := by
  cases role with
  | cell => exact (Syu.becomes.same.viewNotice _ _).stays
  | vessel => exact (Syu.becomes.same.viewNotice _ _).stays
  | terminal =>
    have htime : d.syu.stays ((d.viewNotice before false).timeHandOff k bytes).syu := by
      simpa using (Syu.becomes.same.viewNotice before false).stays
    simp only [Dev.byRole, Dev.terminalOrder]
    split
    · exact htime
    · exact htime.trans (Dev.order_stays _ _ _)

theorem Dev.slotEnd_stays (d : Dev) (k : Nat) (pins : Pins) : d.syu.stays (d.slotEnd k pins).syu := by
  simp only [Dev.slotEnd, Dev.acceptedSlot]
  split_ifs
  · exact d.syu.stays_refl
  · split
    · split
      · simpa using d.syu.stays_refl
      · exact Syu.stays.trans (by simpa using d.syu.stays_refl) (Dev.byRole_stays _ _ _ _ _ _)
    · exact (Syu.becomes.viewNotice (by simpa using Syu.becomes.same) _ _).stays

/-! ### Every command -/

theorem Dev.resetPin_stays (d : Dev) (pins : Pins) : d.syu.stays (d.resetPin pins).syu := by
  simp only [Dev.resetPin]
  split
  · exact d.syu.stays_refl
  · exact Dev.startOver_stays _ _ _ _ _

theorem Dev.warningClear_stays (d : Dev) (pins : Pins) : d.syu.stays (d.warningClear pins).syu := by
  simp only [Dev.warningClear]
  split_ifs
  · exact Dev.startOver_stays _ _ _ _ _
  · exact d.syu.stays_refl
  · exact d.syu.stays_refl

theorem Dev.supplyWarning_becomes (d : Dev) : d.syu.becomes d.supplyWarning.syu := by
  simp only [Dev.supplyWarning]
  split_ifs
  · exact Syu.becomes.warn (d := d.setPins _) .same
  · exact .same
  · exact .same

/-- An effect that keeps the synthesis unit inside its bounds, whatever the part. -/
def keepsSyu (f : Dev → Dev) : Prop := ∀ d : Dev, d.syu.stays (f d).syu

theorem keepsSyu.ofEq {f : Dev → Dev} (h : ∀ d, (f d).syu = d.syu) : keepsSyu f := fun d => h d ▸ d.syu.stays_refl

theorem State.run_stays {f : Dev → Dev} (hf : keepsSyu f) {s t : State} (h : s.run f = .next t) : s.dev.syu.stays t.dev.syu := by
  obtain rfl : s.onDev f = t := by simpa [State.run] using h
  exact hf s.dev

theorem State.run_whenUp_stays {f : Dev → Dev} (hf : keepsSyu f) {s t : State} (h : s.run (Dev.whenUp f) = .next t) :
    s.dev.syu.stays t.dev.syu := by
  refine State.run_stays (f := Dev.whenUp f) (fun d => ?_) h
  simp only [Dev.whenUp]
  split
  · exact hf d
  · exact d.syu.stays_refl

/-- Every order runs through the order path (R55). -/
theorem State.run_order_stays {g : OrderHead} {o : Order} {s t : State} (h : s.run (Dev.whenUp (Dev.order g o)) = .next t) :
    s.dev.syu.stays t.dev.syu := State.run_whenUp_stays (fun d => d.order_stays g o) h

/-- Whatever the command, the synthesis unit stays inside its bounds. -/
theorem exec_stays {c : Instr} {s t : State} (h : exec c s = .next t) : s.dev.syu.stays t.dev.syu := by
  have same := fun d : Dev => (Syu.becomes.same : d.syu.becomes d.syu)
  cases c with
  | powerUp pins => exact State.run_stays (fun d => Dev.startOver_stays _ _ _ _ _) h
  | resetPin pins => exact State.run_stays (fun d => d.resetPin_stays pins) h
  | supplyWarning => exact State.run_stays (fun d => d.supplyWarning_becomes.stays) h
  | supplyWarningClear pins => exact State.run_stays (fun d => d.warningClear_stays pins) h
  | powerFail => exact State.run_stays (fun d => Dev.powerFail_stays _ d) h
  | sampleSet raw => exact State.run_whenUp_stays (fun d => d.sampleSet_stays raw) h
  | watchTimerExpiry => exact State.run_whenUp_stays (fun d => ((same d).watchTimerExpiry).stays) h
  | fallbackClose k => exact State.run_whenUp_stays (fun d => ((same d).fallbackClose k).stays) h
  | overloadTimerExpiry => exact State.run_whenUp_stays (fun d => ((same d).overloadExpiry).stays) h
  | cycleTimerExpiry => exact State.run_whenUp_stays (fun d => ((same d).cycleExpiry).stays) h
  | sendMark => exact State.run_whenUp_stays (keepsSyu.ofEq (by simp)) h
  | markReceived bytes start => exact State.run_whenUp_stays (fun d => ((same d).markReceived bytes start).stays) h
  | markWindowClose => exact State.run_whenUp_stays (keepsSyu.ofEq (by simp)) h
  | silenceCountExpiry => exact State.run_whenUp_stays (fun d => ((same d).silenceExpiry).stays) h
  | loneCountExpiry => exact State.run_whenUp_stays (keepsSyu.ofEq (by simp)) h
  | ownBulletinAssembly => exact State.run_whenUp_stays (keepsSyu.ofEq (by simp)) h
  | ownSlotEnd heard overdrive => exact State.run_whenUp_stays (fun d => ((same d).ownSlotEnd heard overdrive).stays) h
  | bulletinReceived bytes start => exact State.run_whenUp_stays (keepsSyu.ofEq (by simp)) h
  | slotEnd slot => exact State.run_whenUp_stays (fun d => d.slotEnd_stays _ _) h
  | auxLevelQualified x closed => exact State.run_whenUp_stays (fun d => ((same d).auxLevel x closed).stays) h
  | coilPulseTimerExpiry x => exact State.run_whenUp_stays (fun d => ((same d).pulseEnd x).stays) h
  | confirmTimerExpiry x => exact State.run_whenUp_stays (fun d => ((same d).confirmEnd x).stays) h
  | retryGapExpiry x => exact State.run_whenUp_stays (keepsSyu.ofEq (by simp)) h
  | crossingWatchExpiry k => exact State.run_whenUp_stays (keepsSyu.ofEq (by simp)) h
  | cellChannelTimeout => exact State.run_whenUp_stays (fun d => ((same d).cellTimeoutExpiry).stays) h
  | shipChannelTimeout => exact State.run_whenUp_stays (fun d => ((same d).shipTimeoutExpiry).stays) h
  | backOffExpiry => exact State.run_whenUp_stays (fun d => ((same d).backOffExpiry).stays) h
  | joinAgeTick => exact State.run_whenUp_stays (keepsSyu.ofEq (by simp)) h
  | progressTimerExpiry => exact State.run_whenUp_stays (fun d => ((same d).progressExpiry).stays) h
  | absoluteRampTimerExpiry => exact State.run_whenUp_stays (fun d => ((same d).absoluteExpiry).stays) h
  | lowGeneratorTimerExpiry => exact State.run_whenUp_stays (keepsSyu.ofEq (by simp)) h
  | releaseTimerExpiry => exact State.run_whenUp_stays (fun d => ((same d).releaseExpiry).stays) h
  | releaseWaitExpiry => exact State.run_whenUp_stays (fun d => ((same d).releaseWaitExpiry).stays) h
  | lowLoadTimerExpiry => exact State.run_whenUp_stays (fun d => ((same d).lowLoadExpiry).stays) h
  | leaveStallExpiry => exact State.run_whenUp_stays (fun d => ((same d).leaveStallExpiry).stays) h
  | secondAdvance => exact State.run_whenUp_stays (keepsSyu.ofEq (by simp)) h
  | packingTimerExpiry => exact State.run_whenUp_stays (keepsSyu.ofEq (by simp)) h
  | storeAbsoluteTimerExpiry => exact State.run_whenUp_stays (keepsSyu.ofEq (by simp)) h
  | pageProgramComplete => exact State.run_whenUp_stays (keepsSyu.ofEq (by simp)) h
  | sectorEraseComplete => exact State.run_whenUp_stays (keepsSyu.ofEq (by simp)) h
  | _ => exact State.run_order_stays h

theorem step_stays {s t : State} (h : step s = .next t) : s.dev.syu.stays t.dev.syu := by
  simp only [step] at h
  split at h
  · obtain rfl : s = t := by simpa using h
    exact s.dev.syu.stays_refl
  · have hrest := exec_stays h
    exact hrest

/-- Settles O56: every write of the synthesis unit keeps the bounds, and every command is made of such writes. -/
theorem offsetsStayBounded : Obligations.OffsetsStayBounded :=
  ⟨fun _ _ hb h => (step_stays h).1 hb, fun _ _ hc h => (step_stays h).2 hc⟩

end Sys2Proof.Machine

/-! # The phase increment and the accumulator -/

namespace Sys2Proof.Machine

/-- R26 over the natural numbers, where the truncated quotient is the floor. -/
theorem phaseIncrement_natCast (f : Nat) : phaseIncrement f = (f * 4294967296 + 4800000) / 9600000 := by
  have hcast : (f : Int) * 4294967296 + 4800000 = ((f * 4294967296 + 4800000 : Nat) : Int) := by push_cast; rfl
  have hquot : tdiv ((f : Int) * 4294967296 + 4800000) 9600000 = ((f * 4294967296 + 4800000) / 9600000 : Nat) := by
    rw [hcast, tdiv, Int.ofNat_tdiv]; norm_cast
  rw [phaseIncrement, hquot, Int.toNat_natCast]

/-- R26: each whole mHz is worth more than one unit. -/
theorem phaseIncrement_lt_succ (f : Nat) : phaseIncrement f < phaseIncrement ((f + 1 : Nat) : Int) := by
  rw [phaseIncrement_natCast, phaseIncrement_natCast]; omega

/-- R24, R26: the step advances the phase by the increment of its own command, inside the window of the latched frequency. -/
theorem Dev.synthesise_phase (d : Dev) (gap : Nat) :
    (d.synthesise gap).increment = phaseIncrement (d.synthesise gap).fCmd ∧
      (d.synthesise gap).phase =
        (d.syu.phase + (if d.syu.firstStep = true then 1 else gap + 1) * (d.synthesise gap).increment) % 4294967296 ∧
      (d.syu.fNom : Int) - 2500 ≤ (d.synthesise gap).fCmd ∧ (d.synthesise gap).fCmd ≤ d.syu.fNom + 2500 :=
  ⟨rfl, rfl, clampInt_mem (Syu.window_le _) _⟩

/-- Settles O53: over the natural numbers every clause is an inequality of the quotient. -/
theorem phaseIncrementFollowsTheFrequency : Obligations.PhaseIncrementFollowsTheFrequency := by
  refine ⟨fun f hlo hhi => ?_, by decide, by decide, by decide, by decide, Dev.synthesise_phase⟩
  refine ⟨phaseIncrement_natCast f, by omega, ?_, ?_, ?_, ?_, phaseIncrement_lt_succ f⟩ <;>
    (rw [phaseIncrement_natCast]; omega)

end Sys2Proof.Machine

/-! # The reference port at an admitted set -/

namespace Sys2Proof.Machine

/-! ### What of a step outlasts the rest of its event (R20, R29) -/

/-- The port, the phase and the share of a unit stand in another, and so do the commands and the limit of its step where the other still
runs on them. -/
def Syu.outlasts (s t : Syu) : Prop :=
  (t.port = s.port ∧ t.phase = s.phase ∧ t.share = s.share) ∧
    (t.run = true → t.firstStep = false → (s.run = true ∧ s.firstStep = false) ∧ t.fCmd = s.fCmd ∧ t.vCmd = s.vCmd ∧
      t.clamp = s.clamp ∧ t.puAtLimit = s.puAtLimit ∧ t.limit = s.limit)

theorem Syu.outlasts_refl (s : Syu) : s.outlasts s := ⟨⟨rfl, rfl, rfl⟩, fun hr hf => ⟨⟨hr, hf⟩, rfl, rfl, rfl, rfl, rfl⟩⟩

theorem Syu.outlasts.trans {s t u : Syu} (h : s.outlasts t) (g : t.outlasts u) : s.outlasts u := by
  obtain ⟨⟨hport, hphase, hshare⟩, hstep⟩ := h
  obtain ⟨⟨gport, gphase, gshare⟩, gstep⟩ := g
  refine ⟨⟨gport.trans hport, gphase.trans hphase, gshare.trans hshare⟩, fun hr hf => ?_⟩
  obtain ⟨⟨hrun, hfirst⟩, gf, gv, gc, gp, gl⟩ := gstep hr hf
  obtain ⟨hs, hf, hv, hc, hp, hl⟩ := hstep hrun hfirst
  exact ⟨hs, gf.trans hf, gv.trans hv, gc.trans hc, gp.trans hp, gl.trans hl⟩

/-- A write that leaves everything but the offsets, the mode and the hold of the supply warning. -/
theorem Syu.outlasts_offsets (s : Syu) (mode : Mode) (held : Bool) (fRamp fJoin vSteer : Int) :
    s.outlasts { s with mode := mode, heldClear := held, fRamp := fRamp, fJoin := fJoin, vSteer := vSteer } := s.outlasts_refl

theorem Syu.outlasts_clearRun (s : Syu) : s.outlasts s.clearRun := ⟨⟨rfl, rfl, rfl⟩, nofun⟩

/-- A run flag just set awaits its first step (R20, R27). -/
theorem Syu.outlasts_setRunFlag (s : Syu) (ses : Option Session) : s.outlasts (s.setRunFlag ses) := ⟨⟨rfl, rfl, rfl⟩, fun _ => nofun⟩

theorem Syu.outlasts_setMode (s : Syu) (m : Mode) (running : Bool) (ses : Option Session) : s.outlasts (s.setMode m running ses) := by
  have hmode : s.outlasts { s.clearJoin with mode := m } := s.outlasts_offsets m _ _ 0 0
  simp only [Syu.setMode]
  split_ifs
  · exact s.outlasts_refl
  · exact (hmode.trans (Syu.outlasts_clearRun _)).trans (Syu.outlasts_offsets _ _ _ 0 _ _)
  · exact hmode.trans (Syu.outlasts_setRunFlag _ ses)
  · exact hmode

theorem Syu.becomes.outlasts {s t : Syu} (h : s.becomes t) : s.outlasts t := by
  induction h with
  | same => exact s.outlasts_refl
  | stopped _ ih => exact ih.trans (Syu.outlasts_clearRun _)
  | entered old st running ses _ ih =>
    simp only [Syu.enter]
    split
    · exact (ih.trans (Syu.outlasts_setMode _ _ _ _)).trans (Syu.outlasts_offsets _ _ _ _ 0 0)
    · exact ih.trans (Syu.outlasts_setMode _ _ _ _)
  | heldClear _ ih | ramped _ _ ih | joining _ _ ih | steering _ _ ih => exact ih.trans (Syu.outlasts_offsets ..)

/-! ### The step in the words of the rules (R22 to R28) -/

theorem Dev.inShare_iff (d : Dev) (x : Outlet) : d.inShare x = true ↔ d.con x = .closed ∧ d.hoc.leave = none := by
  simp [Dev.inShare, Dev.memberOf]

/-- R22, R23: the share correction of the share set's mean, 0 outside the set. -/
theorem Dev.shareNow_eq (d : Dev) :
    d.shareNow =
      (match d.hoc.assignment with
       | none => 0
       | some x =>
         if d.con x = .closed ∧ d.hoc.leave = none then
           let others := (d.ptb.sharers x).map (fun c => c.2.2.pu)
           max (-500) (min 500 (tdiv (d.cfg.kShare * (tdiv (others.sum + d.msu.pu) (others.length + 1) - d.msu.pu)) 64))
         else 0) := by
  cases hx : d.hoc.assignment with
  | none => simp only [Dev.shareNow, hx]
  | some x => simp only [Dev.shareNow, hx, Dev.inShare_iff, Dev.puAvg, clampInt, List.length_map]

/-- R24: the command before the clamp, outside STOPPED. -/
theorem Dev.rawCommand_eq {d : Dev} (h : d.syu.mode ≠ .stopped) (share : Int) :
    d.rawCommand share =
      (if d.syu.mode = .forming then (d.syu.fNom : Int)
       else if d.syu.mode = .follow ∧ d.ownMember = false then d.syu.fNom + d.syu.fJoin - d.droop
       else d.syu.fNom + d.syu.fRamp + share - d.droop) := by
  cases hm : d.syu.mode <;> cases ho : d.ownMember <;> simp_all [Dev.rawCommand]

/-- A forming cell runs at its nominal values (R24, R28). -/
theorem Dev.synthesise_of_forming {d : Dev} (h : d.syu.mode = .forming) (gap : Nat) :
    (d.synthesise gap).fCmd = d.syu.fNom ∧ d.voltageCommand = 1000 := by
  refine ⟨?_, if_pos h⟩
  simp only [Dev.synthesise, Dev.rawCommand, h, clampInt]
  omega

theorem Dev.voltageCommand_eq {d : Dev} (h : d.syu.mode ≠ .forming) :
    d.voltageCommand =
      max 900 (min 1100 (1000 + d.syu.vSteer - tdiv (d.cfg.dQ * tdiv (d.msu.q * 10000) d.cfg.rating) 10000)) := if_neg h

/-- R24, R31: the limit flag stands for the load at its limit or a clamp that acted. -/
theorem Dev.synthesise_limit_iff (d : Dev) (gap : Nat) :
    (d.synthesise gap).limit = true ↔
      (d.cfg.limitPu : Int) ≤ d.msu.pu ∨ d.rawCommand d.shareNow < (d.syu.fNom : Int) - 2500 ∨
        (d.syu.fNom : Int) + 2500 < d.rawCommand d.shareNow := by
  simp only [Dev.synthesise, clampActs, Bool.or_eq_true, decide_eq_true_eq]
  by_cases hlo : d.rawCommand d.shareNow < (d.syu.fNom : Int) - 2500
  · simp [hlo]
  · by_cases hhi : (d.syu.fNom : Int) + 2500 < d.rawCommand d.shareNow <;> simp [hlo, hhi]

/-! ### The synthesis unit at an admitted set (R21, R29; log entry 8) -/

/-- What the synthesis unit reads at an admitted set: the part with the quantities measured. -/
def Dev.reading (d : Dev) (r : RawSet) : Dev := d.setMsu (d.measured r)

/-- The unit behind its part in an admitted set. -/
def Dev.steppedSyu (d : Dev) (r : RawSet) : Syu := ((d.reading r).synthesisSet (d.positions r - 1)).syu

/-- Notices and the crossing watches are no concern of the synthesis unit. -/
theorem Dev.synthesisSet_apart (d : Dev) (n : Ntu) (m : Msu) (y : Syn) (gap : Nat) :
    ((((d.setNtu n).setMsu m).setSyn y).synthesisSet gap).syu = ((d.setMsu m).synthesisSet gap).syu := rfl

theorem Dev.metered_syu (d : Dev) (r : RawSet) : (d.metered r).syu = d.steppedSyu r := by
  obtain ⟨n, hn⟩ : ∃ n, d.raiseIf (decide (2 ≤ d.positions r)) .sampleGap = d.setNtu n := by
    simp only [Dev.raiseIf]
    split
    · exact ⟨_, rfl⟩
    · exact ⟨d.ntu, rfl⟩
  simp only [Dev.metered, Dev.meterSet_frame, Dev.watchesBy, hn]
  exact d.synthesisSet_apart n (d.measured r) _ _

theorem Dev.sampleSet_becomes {d : Dev} {r : RawSet} (h : d.admits r) : (d.steppedSyu r).becomes (d.sampleSet r).syu := by
  obtain ⟨c, bus, ship, he⟩ := Dev.sampleSet_eq h
  have hmeter : (d.steppedSyu r).becomes (d.metered r).syu := d.metered_syu r ▸ .same
  rw [he]
  exact ((hmeter.overTrip _).takeCond _).takeCrossings _ _

theorem Dev.steppedSyu_of_run {d : Dev} (h : d.syu.run = true) (r : RawSet) :
    d.steppedSyu r =
      { (d.reading r).synthesise (d.positions r - 1) with
        port := some ((d.reading r).synthesise (d.positions r - 1)).output } := by
  have hrun : (d.reading r).syu.run = true := h
  simp only [Dev.steppedSyu, Dev.synthesisSet, if_pos hrun, Dev.setSyu_syu]

theorem Dev.steppedSyu_of_stopped {d : Dev} (h : d.syu.run = false) (r : RawSet) :
    d.steppedSyu r = { d.syu with port := some d.syu.output } := by
  simp [Dev.steppedSyu, Dev.synthesisSet, Dev.reading, h]

/-- Settles O12: the step reads the measured quantities, and what the set brings behind it leaves the port. -/
theorem referencePortOutput : Obligations.ReferencePortOutput := by
  intro s raw h
  obtain ⟨⟨hport, hphase, hshare⟩, hstep⟩ := (Dev.sampleSet_becomes h).outlasts
  refine ⟨fun hrun => ?_, fun hrun => ?_⟩
  · obtain ⟨b, hb⟩ := Dev.sampleSet_msu h
    have hpu : (s.dev.sampleSet raw).msu.pu = (s.dev.reading raw).msu.pu := by rw [hb]; rfl
    have hq : (s.dev.sampleSet raw).msu.q = (s.dev.reading raw).msu.q := by rw [hb]; rfl
    have hgap : s.dev.positions raw - 1 + 1 = max 1 (s.dev.positions raw) := by omega
    rw [Dev.steppedSyu_of_run hrun] at hport hshare hstep
    obtain ⟨hinc, hph, hlo, hhi⟩ := (s.dev.reading raw).synthesise_phase (s.dev.positions raw - 1)
    obtain ⟨hvlo, hvhi⟩ := (s.dev.reading raw).voltageCommand_mem
    refine ⟨_, ((s.dev.reading raw).synthesise (s.dev.positions raw - 1)).fCmd, (s.dev.reading raw).voltageCommand,
      exec_sampleSet_up h.1 raw, rfl, hlo, hhi, hvlo, hvhi, fun hm =>
      Dev.synthesise_of_forming (d := s.dev.reading raw) hm _, ?_, ?_⟩
    · intro pu droop share rawf lo hi hm
      have hpu' : pu = (s.dev.reading raw).msu.pu := hpu
      clear_value pu
      subst hpu'
      have hs : (s.dev.reading raw).shareNow = share := Dev.shareNow_eq _
      have hraw : (s.dev.reading raw).rawCommand share = rawf := Dev.rawCommand_eq (d := s.dev.reading raw) hm share
      clear_value share rawf
      subst hs hraw
      refine ⟨rfl, fun hf => ?_, hshare, fun hr hf => ?_⟩
      · rw [State.onDev_dev, hq]
        exact Dev.voltageCommand_eq (d := s.dev.reading raw) hf
      · obtain ⟨-, hfcmd, hvcmd, hclamp, hlim, hlimit⟩ := hstep hr hf
        refine ⟨hfcmd, hvcmd, hclamp, ?_, ?_⟩
        · rw [State.onDev_dev, hlim]; exact decide_eq_true_iff
        · rw [State.onDev_dev, hlimit]; exact Dev.synthesise_limit_iff _ (s.dev.positions raw - 1)
    · rw [State.onDev_dev, hport, ← hgap]
      have hrun' : ((s.dev.reading raw).synthesise (s.dev.positions raw - 1)).run = true := hrun
      simp only [Syu.output, hrun', hph, hinc]
      rfl
  · rw [Dev.steppedSyu_of_stopped hrun] at hport hphase
    refine ⟨_, exec_sampleSet_up h.1 raw, rfl, ?_, hphase⟩
    rw [State.onDev_dev, hport, Syu.output, hrun]
    rfl

end Sys2Proof.Machine

/-! # The supply warning at the store and the meter -/

namespace Sys2Proof.Machine

/-! ### Drain demands and the engine in SHUTDOWN (R150, R153, R164) -/

/-- A collection job, where there is one, waits for no read (R160). -/
def Rst.settled (r : Rst) : Prop := ∀ j, r.job = some j → j.ready ≠ none

/-- The engine cannot begin anything: it is busy, or its store is FULL with no read to make (R153, R156). -/
def Rst.stuck (r : Rst) : Prop := r.engine ≠ .idle ∨ (r.settled ∧ r.full = true)

/-- The engine is IDLE over an erased page, with no read to make and nothing in program. -/
def Rst.primed (r : Rst) : Prop :=
  r.engine = .idle ∧ r.settled ∧ r.full = false ∧ r.posErased = true ∧ ∀ e ∈ r.queue, e.inProgram = false

theorem Dev.collectionRead_of_settled {d : Dev} (h : d.rst.settled) : d.collectionRead = d := by
  simp only [Dev.collectionRead]
  cases hj : d.rst.job with
  | none => rfl
  | some j => simp [Option.isSome_iff_ne_none, h j hj]

theorem Dev.engineChoice_of_stuck {d : Dev} (h : d.rst.stuck) : d.engineChoice = d := by
  simp only [Dev.engineChoice]
  split
  · rename_i hi
    obtain hb | ⟨hs, hf⟩ := h
    · exact absurd hi hb
    · simp [Dev.collectionRead_of_settled hs, Dev.engineWork, hf]
  · rfl

theorem Dev.engineChoice_of_primed {d : Dev} (h : d.rst.primed) (hr : d.run = .shutdown) :
    d.engineChoice = if d.rst.writeBackDue then d.setRst d.rst.startProgram else d := by
  obtain ⟨hi, hs, hf, hp, -⟩ := h
  simp [Dev.engineChoice, hi, Dev.collectionRead_of_settled hs, Dev.engineWork, hp, hf, hr]

theorem Rst.demand_of_empty {r : Rst} (h : r.waiting = []) : r.demand = r := by simp only [Rst.demand, h]; rfl

theorem Rst.demand_of_last {r : Rst} {w : List Staged} {e : Staged} (h : r.waiting = w ++ [e]) :
    r.demand = { r with drain := some e.seq } := by
  simp only [Rst.demand, h, List.getLast?_concat]

/-- A demand that covers a waiting entry makes write-back due (R150). -/
theorem Rst.due_of_last {r : Rst} {w : List Staged} {e : Staged} (h : r.waiting = w ++ [e]) (hd : r.drain = some e.seq) :
    r.writeBackDue = true := by
  simp [Rst.writeBackDue, hd, h]

theorem Rst.not_due_of_empty {r : Rst} (h : r.waiting = []) : r.writeBackDue = false := by
  simp only [Rst.writeBackDue, h]
  split <;> simp

theorem Dev.engineChoice_at_rest {d : Dev} (h : d.rst.primed) (hr : d.run = .shutdown) (hw : d.rst.waiting = []) : d.engineChoice = d := by
  rw [Dev.engineChoice_of_primed h hr, Rst.not_due_of_empty hw]; rfl

theorem Rst.waiting_of_primed {r : Rst} (h : r.primed) : r.waiting = r.queue := by
  obtain ⟨-, -, -, -, hq⟩ := h
  exact List.filter_eq_self.2 fun e he => by simp [hq e he]

theorem Rst.startProgram_begins (r : Rst) :
    r.startProgram.engine = .programming r.posSector r.posPage ∧ r.startProgram.warned = r.warned := by
  simp only [Rst.startProgram]
  (repeat' split) <;> exact ⟨rfl, rfl⟩

/-! ### One entry taken (R149 to R151) -/

/-- The store with an entry taken, before the engine's choice. -/
def Rst.taken (c : Cfg) (x : Rec) (r : Rst) : Rst := (r.join x).afterJoin c

theorem Dev.stage_eq {d : Dev} (h : d.rst.free ≠ 0) (x : Rec) : d.stage x = (d.setRst (d.rst.taken d.cfg x)).engineChoice := if_neg h

/-- Timers and demand aside, an entry taken is an entry joined. -/
theorem Rst.taken_eq (c : Cfg) (x : Rec) (r : Rst) :
    ∃ drain pack abs, r.taken c x = { r.join x with drain := drain, packTimer := pack, absTimer := abs } ∧
      (r.warned = true → drain = some (r.newest + 1)) := by
  obtain ⟨pack, abs, ht⟩ : ∃ pack abs, (r.join x).joinTimers c = { r.join x with packTimer := pack, absTimer := abs } := by
    simp only [Rst.joinTimers]
    split
    · exact ⟨_, _, rfl⟩
    · exact ⟨_, _, rfl⟩
  have hlast : ((r.join x).joinTimers c).waiting = r.waiting ++ [⟨r.newest + 1, recordImage (r.newest + 1) x, false⟩] := by
    rw [ht]
    simp [Rst.waiting, Rst.join]
  simp only [Rst.taken, Rst.afterJoin]
  split
  · rw [Rst.demand_of_last hlast, ht]
    exact ⟨_, _, _, rfl, fun _ => rfl⟩
  · rename_i hn
    have hw : (r.join x).warned = false := by simp at hn; exact hn.2
    rw [ht]
    exact ⟨_, _, _, rfl, fun hr => absurd hr (by simpa [Rst.join] using hw)⟩

theorem Rst.taken_waiting (c : Cfg) (x : Rec) (r : Rst) : ∃ e, (r.taken c x).waiting = r.waiting ++ [e] ∧ e.seq = r.newest + 1 := by
  obtain ⟨drain, pack, abs, ht, -⟩ := r.taken_eq c x
  exact ⟨⟨r.newest + 1, recordImage (r.newest + 1) x, false⟩, by rw [ht]; simp [Rst.waiting, Rst.join], rfl⟩

/-- What a store that cannot begin anything is after some records were taken: the entries wait, each demanded once the store is warned. -/
def Rst.grewBy (r : Rst) (l : List Rec) (t : Rst) : Prop :=
  (t.engine = r.engine ∧ t.full = r.full ∧ t.job = r.job ∧ t.warned = r.warned) ∧
    (l = [] → t.waiting = r.waiting ∧ t.drain = r.drain) ∧
    (l ≠ [] → (∃ w e, t.waiting = w ++ [e] ∧ e.seq = t.newest) ∧ (r.warned = true → t.drain = some t.newest))

theorem Rst.grewBy_nil (r : Rst) : r.grewBy [] r := ⟨⟨rfl, rfl, rfl, rfl⟩, fun _ => ⟨rfl, rfl⟩, fun h => absurd rfl h⟩

theorem Rst.grewBy.stuck {r t : Rst} {l : List Rec} (h : r.grewBy l t) (hs : r.stuck) : t.stuck := by
  obtain ⟨⟨he, hf, hj, -⟩, -⟩ := h
  simpa only [Rst.stuck, Rst.settled, he, hf, hj] using hs

theorem Dev.stage_grewBy {d : Dev} (hs : d.rst.stuck) (hf : d.rst.free ≠ 0) (x : Rec) : d.rst.grewBy [x] (d.stage x).rst := by
  obtain ⟨drain, pack, abs, ht, hd⟩ := d.rst.taken_eq d.cfg x
  obtain ⟨e, hw, he⟩ := d.rst.taken_waiting d.cfg x
  have hstuck : (d.setRst (d.rst.taken d.cfg x)).rst.stuck := by rw [Dev.setRst_rst, ht]; exact hs
  have hnew : (d.rst.taken d.cfg x).newest = d.rst.newest + 1 := by rw [ht]; rfl
  rw [Dev.stage_eq hf, Dev.engineChoice_of_stuck hstuck, Dev.setRst_rst]
  refine ⟨?_, fun h => absurd h (by simp), fun _ => ⟨⟨_, e, hw, he.trans hnew.symm⟩, fun hwarn => ?_⟩⟩
  · rw [ht]; exact ⟨rfl, rfl, rfl, rfl⟩
  · rw [hnew, ← hd hwarn, ht]

theorem Rst.grewBy.trans_one {r t u : Rst} {x : Rec} {l : List Rec} (h : r.grewBy [x] t) (g : t.grewBy l u) (hn : l = [] → u.newest = t.newest) :
    r.grewBy (x :: l) u := by
  obtain ⟨⟨he, hf, hj, hw⟩, -, hone⟩ := h
  obtain ⟨⟨ge, gf, gj, gw⟩, gnil, gcons⟩ := g
  obtain ⟨hlast, hdrain⟩ := hone (by simp)
  refine ⟨⟨ge.trans he, gf.trans hf, gj.trans hj, gw.trans hw⟩, fun h => absurd h (by simp), fun _ => ?_⟩
  by_cases hl : l = []
  · obtain ⟨gwait, gdrain⟩ := gnil hl
    rw [gwait, gdrain, hn hl]
    exact ⟨hlast, hdrain⟩
  · obtain ⟨glast, gd⟩ := gcons hl
    exact ⟨glast, fun hwarn => gd (hw.trans hwarn)⟩

/-- A store whose engine programs the page it stood on, or still may. -/
def Rst.onPageOf (r t : Rst) : Prop :=
  t.engine = .programming r.posSector r.posPage ∨ (t.primed ∧ t.posSector = r.posSector ∧ t.posPage = r.posPage)

/-- The engine's choice over an erased page in SHUTDOWN: the program, when it is due. -/
theorem Dev.engineChoice_onPageOf {r : Rst} {d : Dev} (h : r.onPageOf d.rst) (hr : d.run = .shutdown) :
    r.onPageOf d.engineChoice.rst ∧ d.engineChoice.rst.warned = d.rst.warned ∧
      (d.rst.engine = .programming r.posSector r.posPage ∨ d.rst.writeBackDue = true →
        d.engineChoice.rst.engine = .programming r.posSector r.posPage) := by
  obtain hb | ⟨hp, hx, hy⟩ := h
  · rw [Dev.engineChoice_of_stuck (.inl (by simp [hb]))]
    exact ⟨.inl hb, rfl, fun _ => hb⟩
  · obtain ⟨hstart, hwarn⟩ := d.rst.startProgram_begins
    rw [hx, hy] at hstart
    rw [Dev.engineChoice_of_primed hp hr]
    split
    · exact ⟨.inl hstart, hwarn, fun _ => hstart⟩
    · rename_i hdue
      refine ⟨.inr ⟨hp, hx, hy⟩, rfl, fun hor => ?_⟩
      obtain he | he := hor
      · exact he
      · exact absurd he hdue

theorem Dev.stage_onPageOf {r : Rst} {d : Dev} (h : r.onPageOf d.rst) (hr : d.run = .shutdown) (hf : d.rst.free ≠ 0) (x : Rec) :
    r.onPageOf (d.stage x).rst ∧
      (d.rst.engine = .programming r.posSector r.posPage ∨ d.rst.warned = true →
        (d.stage x).rst.engine = .programming r.posSector r.posPage) := by
  obtain ⟨drain, pack, abs, ht, hd⟩ := d.rst.taken_eq d.cfg x
  obtain ⟨e, hw, he⟩ := d.rst.taken_waiting d.cfg x
  have htaken : r.onPageOf (d.setRst (d.rst.taken d.cfg x)).rst := by
    rw [Dev.setRst_rst, ht]
    obtain hb | ⟨⟨hi, hset, hfull, hpos, hq⟩, hx, hy⟩ := h
    · exact .inl hb
    · refine .inr ⟨⟨hi, hset, hfull, hpos, fun e he => ?_⟩, hx, hy⟩
      obtain he | rfl : e ∈ d.rst.queue ∨ e = _ := by simpa [Rst.join] using he
      · exact hq e he
      · rfl
  obtain ⟨hpage, -, hdue⟩ := Dev.engineChoice_onPageOf htaken hr
  rw [Dev.stage_eq hf]
  refine ⟨hpage, fun hor => hdue (hor.imp (fun hb => ?_) fun hwarn => Rst.due_of_last hw ?_)⟩
  · rw [Dev.setRst_rst, ht]; exact hb
  · rw [Dev.setRst_rst, he, ← hd hwarn, ht]

/-! ### The store's own part of the warning (R164) -/

theorem Dev.rstWarning_sameStaged (d : Dev) : d.rst.sameStaged d.rstWarning.rst := by
  have hdemand : ∀ q : Rst, q.sameStaged q.demand := by
    intro q
    simp only [Rst.demand]
    split <;> exact ⟨rfl, rfl⟩
  exact Rst.sameStaged.trans (t := { d.rst with warned := true }) ⟨rfl, rfl⟩ ((hdemand _).trans (Dev.engineChoice_sameStaged _))

/-- The demand of the warning: every entry that waits (R150, R164). -/
theorem Rst.demand_warned (r : Rst) :
    ∃ drain, ({ r with warned := true } : Rst).demand = { r with warned := true, drain := drain } ∧
      (r.waiting = [] → drain = r.drain) ∧ ∀ w e, r.waiting = w ++ [e] → drain = some e.seq := by
  obtain hw | ⟨w, e, hw⟩ := r.waiting.eq_nil_or_concat
  · exact ⟨r.drain, Rst.demand_of_empty hw, fun _ => rfl, fun w e h => absurd (hw.symm.trans h) (by simp)⟩
  · rw [List.concat_eq_append] at hw
    refine ⟨some e.seq, Rst.demand_of_last hw, fun h => absurd (hw.symm.trans h) (by simp), fun w' e' h => ?_⟩
    have hlast := congrArg List.getLast? (hw.symm.trans h)
    simp only [List.getLast?_concat, Option.some.injEq] at hlast
    rw [hlast]

theorem Dev.rstWarning_of_stuck {d : Dev} (h : d.rst.stuck) :
    ∃ drain, d.rstWarning.rst = { d.rst with warned := true, drain := drain } ∧
      (d.rst.waiting = [] → drain = d.rst.drain) ∧ ∀ w e, d.rst.waiting = w ++ [e] → drain = some e.seq := by
  obtain ⟨drain, hd, hempty, hlast⟩ := d.rst.demand_warned
  refine ⟨drain, ?_, hempty, hlast⟩
  have hstuck : ((d.setRst { d.rst with warned := true }).setRst { d.rst with warned := true, drain := drain }).rst.stuck := h
  simp only [Dev.rstWarning, Dev.drainDemand, Dev.setRst_rst, hd]
  rw [Dev.engineChoice_of_stuck hstuck, Dev.setRst_rst]

theorem Dev.rstWarning_onPageOf {r : Rst} {d : Dev} (h : r.onPageOf d.rst) (hr : d.run = .shutdown) :
    r.onPageOf d.rstWarning.rst ∧ d.rstWarning.rst.warned = true ∧
      (d.rst.engine = .programming r.posSector r.posPage ∨ d.rst.queue ≠ [] →
        d.rstWarning.rst.engine = .programming r.posSector r.posPage) := by
  obtain ⟨drain, hd, -, hlast⟩ := d.rst.demand_warned
  have hwarn : d.rstWarning =
      ((d.setRst { d.rst with warned := true }).setRst { d.rst with warned := true, drain := drain }).engineChoice := by
    simp only [Dev.rstWarning, Dev.drainDemand, Dev.setRst_rst, hd]
  obtain ⟨hpage, hkept, hdue⟩ := Dev.engineChoice_onPageOf (r := r)
    (d := (d.setRst { d.rst with warned := true }).setRst { d.rst with warned := true, drain := drain }) h hr
  rw [hwarn]
  refine ⟨hpage, hkept, fun hor => hdue ?_⟩
  obtain hb | ⟨hp, -, -⟩ := h
  · exact .inl hb
  · refine hor.imp id fun hq => ?_
    obtain ⟨w, e, hw⟩ := (List.eq_nil_or_concat d.rst.queue).resolve_left hq
    rw [List.concat_eq_append, ← Rst.waiting_of_primed hp] at hw
    exact Rst.due_of_last hw (hlast w e hw)

/-- With nothing to write the engine stays IDLE. -/
theorem Dev.rstWarning_of_empty {d : Dev} (h : d.rst.primed) (hr : d.run = .shutdown) (hq : d.rst.queue = []) :
    d.rstWarning.rst = { d.rst with warned := true } := by
  have hw : d.rst.waiting = [] := (Rst.waiting_of_primed h).trans hq
  have hdemand : ({ d.rst with warned := true } : Rst).demand = { d.rst with warned := true } := Rst.demand_of_empty hw
  have hprimed : ((d.setRst { d.rst with warned := true }).setRst { d.rst with warned := true }).rst.primed := h
  simp only [Dev.rstWarning, Dev.drainDemand, Dev.setRst_rst, hdemand]
  rw [Dev.engineChoice_at_rest hprimed hr hw]
  rfl

/-! ### Session records requested in a row (R142) -/

/-- The parts of one device that a record request reads stand in another. -/
def Dev.sameStore (d e : Dev) : Prop :=
  e.rst = d.rst ∧ e.mtr.holder = d.mtr.holder ∧ e.mtr.dropped = d.mtr.dropped ∧ e.run = d.run

/-- Session record requests made one after the other, whatever other part of the device changes between them. -/
inductive Dev.requested : List Rec → Dev → Dev → Prop
  | none {d e : Dev} : d.sameStore e → Dev.requested [] d e
  | more {d e f : Dev} {l : List Rec} (x : Rec) : d.sameStore e → Dev.requested l (e.requestSession x) f → Dev.requested (x :: l) d f

/-- A request is staged where an entry is free and the holder is empty; else it goes to the holder. -/
theorem Dev.requestSession_cases (d : Dev) (x : Rec) :
    (d.mtr.holder = [] ∧ d.rst.free ≠ 0 ∧ d.requestSession x = d.stage x) ∨
      ((d.mtr.holder ≠ [] ∨ d.rst.free = 0) ∧ d.requestSession x = d.setMtr (d.mtr.hold x)) := by
  simp only [Dev.requestSession]
  split
  · rename_i h
    simp only [Bool.and_eq_true, List.isEmpty_iff, decide_eq_true_eq] at h
    exact .inl ⟨h.1, by omega, rfl⟩
  · rename_i h
    simp only [Bool.and_eq_true, List.isEmpty_iff, decide_eq_true_eq, not_and_or] at h
    exact .inr ⟨h.imp id (by omega), rfl⟩

theorem Mtr.hold_eq (m : Mtr) (x : Rec) : ∃ h n, m.hold x = { m with holder := h, dropped := n } := by
  simp only [Mtr.hold]
  split
  · exact ⟨_, _, rfl⟩
  · exact ⟨_, _, rfl⟩

/-- A request moves nothing of the meter but the holder and the count of what it drops. -/
theorem Dev.requestSession_mtr (d : Dev) (x : Rec) : ∃ h n, (d.requestSession x).mtr = { d.mtr with holder := h, dropped := n } := by
  obtain ⟨-, -, h⟩ | ⟨-, h⟩ := d.requestSession_cases x
  · exact ⟨d.mtr.holder, d.mtr.dropped, by rw [h]; simp⟩
  · rw [h]; exact d.mtr.hold_eq x

/-- R132: the end of a membership requests its records, with any cause, and leaves no membership. -/
theorem Dev.endMembership_requested {d : Dev} {k : Membership} (hk : d.mtr.membership = some k) (c : LeaveCause) :
    Dev.requested (d.mtr.leaveRecords k c) d (d.endMembership c) ∧ (d.endMembership c).mtr.membership = none := by
  have hlast : ∀ e : Dev, Dev.sameStore e e.membershipGone := fun e => ⟨rfl, rfl, rfl, rfl⟩
  simp only [Dev.endMembership, hk, Mtr.leaveRecords]
  refine ⟨?_, rfl⟩
  by_cases hm : d.mtr.interval.metered = true
  · simp only [Dev.closePartial, if_pos hm]
    obtain ⟨h, n, hmtr⟩ := Dev.requestSession_mtr (d.setMtr { d.mtr with totCount := d.mtr.totCount + 1 })
      (.interval { d.mtr.interval with isPartial := true })
    refine .more _ (e := d.setMtr { d.mtr with totCount := d.mtr.totCount + 1 }) ⟨rfl, rfl, rfl, rfl⟩ ?_
    refine .more _ ⟨rfl, rfl, rfl, rfl⟩ ?_
    rw [hmtr]
    exact .none (hlast _)
  · simp only [Dev.closePartial, if_neg hm]
    exact .more _ ⟨rfl, rfl, rfl, rfl⟩ (.none (hlast _))

/-- Requests that find the holder filled, or no entry free, all go to the holder, which keeps two (R142). -/
theorem Dev.requested.held {l : List Rec} {d e : Dev} (h : Dev.requested l d e) (hfull : d.mtr.holder ≠ [] ∨ d.rst.free = 0) :
    e.rst = d.rst ∧
      (d.mtr.holder.length ≤ 2 → e.mtr.holder = (d.mtr.holder ++ l).take 2 ∧
        e.mtr.dropped =
          (if d.mtr.holder.length + l.length ≤ 2 then d.mtr.dropped
           else min 255 (d.mtr.dropped + (d.mtr.holder.length + l.length - 2)))) := by
  induction h with
  | none hs =>
    obtain ⟨hrst, hhold, hdrop, -⟩ := hs
    refine ⟨hrst, fun hl => ⟨?_, ?_⟩⟩
    · rw [hhold, List.append_nil, List.take_of_length_le hl]
    · rw [hdrop, List.length_nil, if_pos (by omega)]
  | @more d m f l x hs _ ih =>
    obtain ⟨hrst, hhold, hdrop, -⟩ := hs
    obtain ⟨hn, hf, -⟩ | ⟨-, heq⟩ := m.requestSession_cases x
    · rw [hhold] at hn; rw [hrst] at hf
      exact absurd hfull (by simp [hn, hf])
    · rw [heq] at ih
      by_cases hlen : m.mtr.holder.length < 2
      · have hm : m.mtr.hold x = { m.mtr with holder := m.mtr.holder ++ [x] } := if_pos hlen
        simp only [hm, Dev.setMtr_mtr, Dev.setMtr_rst] at ih
        obtain ⟨ihr, ihl⟩ := ih (.inl (by simp))
        refine ⟨ihr.trans hrst, fun _ => ?_⟩
        obtain ⟨hh, hd⟩ := ihl (by simp; omega)
        have hlen3 : (m.mtr.holder ++ [x]).length + l.length = d.mtr.holder.length + (x :: l).length := by
          simp only [hhold, List.length_append, List.length_cons, List.length_nil]; omega
        rw [hh, hd, hlen3, hhold, hdrop, List.append_assoc, List.singleton_append]
        exact ⟨rfl, rfl⟩
      · have hm : m.mtr.hold x = { m.mtr with dropped := min 255 (m.mtr.dropped + 1) } := if_neg hlen
        simp only [hm, Dev.setMtr_mtr, Dev.setMtr_rst] at ih
        obtain ⟨ihr, ihl⟩ := ih (.inl (by intro h0; simp [h0] at hlen))
        refine ⟨ihr.trans hrst, fun hl => ?_⟩
        rw [← hhold] at hl ⊢
        obtain ⟨hh, hd⟩ := ihl hl
        have hlen2 : m.mtr.holder.length = 2 := by omega
        refine ⟨?_, ?_⟩
        · rw [hh, List.take_append_of_le_length (by omega), List.take_append_of_le_length (by omega)]
        · rw [hd, ← hdrop, hlen2, List.length_cons, if_neg (show ¬2 + (l.length + 1) ≤ 2 by omega)]
          split <;> omega

/-- Requests that find the holder empty are staged while entries are free (R142, R149). -/
theorem Dev.requested.staged {l : List Rec} {d e : Dev} (h : Dev.requested l d e) (hh : d.mtr.holder = [])
    (hn : d.rst.newest + l.length < 4294967295) :
    d.rst.tookRecords (l.take d.rst.free) e.rst ∧ (l.length ≤ 2 → e.mtr.holder = l.drop d.rst.free) := by
  induction h with
  | none hs =>
    obtain ⟨hrst, hhold, -⟩ := hs
    rw [hrst, hhold, hh]
    simpa using Rst.tookRecords_nil _
  | @more d m f l x hs h ih =>
    have hall := Dev.requested.more x hs h
    obtain ⟨hrst, hhold, -⟩ := hs
    rw [List.length_cons] at hn
    by_cases hf : d.rst.free = 0
    · obtain ⟨hr, hl⟩ := hall.held (.inr hf)
      rw [hr, hf]
      refine ⟨Rst.tookRecords_nil _, fun hlen => ?_⟩
      rw [(hl (by simp [hh])).1, hh]
      exact List.take_of_length_le hlen
    · obtain ⟨htook, hmtr⟩ := Dev.requestSession_tookRecords (d := m) (hhold.trans hh) (by rwa [hrst]) x
      rw [hrst] at htook
      have hfree := Rst.free_of_tookRecords htook (by simp only [List.length_cons, List.length_nil]; omega)
      have hnew := htook.1
      obtain ⟨iht, ihl⟩ := ih (by rw [hmtr]; exact hhold.trans hh) (by rw [hnew]; simp only [List.length_cons, List.length_nil]; omega)
      rw [hfree, List.length_singleton] at iht ihl
      obtain ⟨n, hfn⟩ : ∃ n, d.rst.free = n + 1 := ⟨d.rst.free - 1, by omega⟩
      rw [hfn, Nat.add_sub_cancel] at iht ihl
      rw [hfn]
      exact ⟨Rst.tookRecords_append htook iht, fun hlen => ihl (by simp at hlen; omega)⟩

/-- What a store that can begin nothing keeps through the requests. -/
theorem Dev.requested.grewBy {l : List Rec} {d e : Dev} (h : Dev.requested l d e) (hh : d.mtr.holder = []) (hs : d.rst.stuck)
    (hn : d.rst.newest + l.length < 4294967295) : d.rst.grewBy (l.take d.rst.free) e.rst := by
  induction h with
  | none hsame =>
    rw [hsame.1]
    simpa using Rst.grewBy_nil _
  | @more d m f l x hsame h ih =>
    have hall := Dev.requested.more x hsame h
    obtain ⟨hrst, hhold, -⟩ := hsame
    rw [List.length_cons] at hn
    by_cases hf : d.rst.free = 0
    · rw [(hall.held (.inr hf)).1, hf]
      exact Rst.grewBy_nil _
    · obtain ⟨htook, hmtr⟩ := Dev.requestSession_tookRecords (d := m) (hhold.trans hh) (by rwa [hrst]) x
      obtain ⟨-, -, heq⟩ | ⟨hbad, -⟩ := m.requestSession_cases x
      · have hone : d.rst.grewBy [x] (m.requestSession x).rst := by
          rw [heq, ← hrst]
          exact Dev.stage_grewBy (by rwa [hrst]) (by rwa [hrst]) x
        have hempty : (m.requestSession x).mtr.holder = [] := by rw [hmtr]; exact hhold.trans hh
        rw [hrst] at htook
        have hnew : (m.requestSession x).rst.newest + l.length < 4294967295 := by
          rw [htook.1]; simp only [List.length_cons, List.length_nil]; omega
        have hfree := Rst.free_of_tookRecords htook (by simp only [List.length_cons, List.length_nil]; omega)
        have hrest := ih hempty (hone.stuck hs) hnew
        have hrecs := (h.staged hempty hnew).1
        obtain ⟨n, hfn⟩ : ∃ n, d.rst.free = n + 1 := ⟨d.rst.free - 1, by omega⟩
        rw [hfree, hfn, List.length_singleton, Nat.add_sub_cancel] at hrest hrecs
        rw [hfn]
        exact hone.trans_one hrest fun hnil => by rw [hrecs.1, hnil]; rfl
      · exact absurd hbad (by simp [hhold.trans hh, hrst, hf])

/-- What a store over an erased page makes of the requests. -/
theorem Dev.requested.onPageOf {r : Rst} {l : List Rec} {d e : Dev} (h : Dev.requested l d e) (hp : r.onPageOf d.rst)
    (hr : d.run = .shutdown) :
    r.onPageOf e.rst ∧
      (d.rst.engine = .programming r.posSector r.posPage ∨
          (d.rst.warned = true ∧ d.mtr.holder = [] ∧ l.take d.rst.free ≠ []) →
        e.rst.engine = .programming r.posSector r.posPage) := by
  induction h with
  | none hsame =>
    rw [hsame.1]
    exact ⟨hp, fun hor => hor.elim id fun hbad => absurd (List.take_nil) hbad.2.2⟩
  | @more d m f l x hsame h ih =>
    have hall := Dev.requested.more x hsame h
    obtain ⟨hrst, hhold, -, hrun⟩ := hsame
    obtain ⟨hh, hf, heq⟩ | ⟨hfull, -⟩ := m.requestSession_cases x
    · obtain ⟨hpage, hbegin⟩ := Dev.stage_onPageOf (by rwa [hrst]) (hrun.trans hr) hf x
      rw [heq] at ih
      obtain ⟨ihp, ihb⟩ := ih hpage (by simpa using hrun.trans hr)
      refine ⟨ihp, fun hor => ihb (.inl (hbegin ?_))⟩
      rw [hrst]
      exact hor.imp id And.left
    · rw [hhold, hrst] at hfull
      rw [(hall.held hfull).1]
      refine ⟨hp, fun hor => hor.elim id fun hbad => ?_⟩
      obtain ⟨-, hh, hl⟩ := hbad
      rw [hfull.resolve_left (by simp [hh])] at hl
      exact absurd rfl hl

end Sys2Proof.Machine

/-! # The supply warning at every block -/

namespace Sys2Proof.Machine

/-! ### The records of the warning (R132, R142, R145, R164) -/

/-- The session records, of those requested in a row, that are staged at once: none behind a filled holder. -/
def Dev.stagedOf (d : Dev) (l : List Rec) : List Rec := if d.mtr.holder = [] then l.take d.rst.free else []

theorem Dev.requested.rst_of_none_staged {l : List Rec} {d e : Dev} (h : Dev.requested l d e) (hs : d.stagedOf l = []) :
    e.rst = d.rst := by
  unfold Dev.stagedOf at hs
  split at hs
  · obtain hf | hl := List.take_eq_nil_iff.1 hs
    · exact (h.held (.inr hf)).1
    · subst hl
      cases h with
      | none hsame => exact hsame.1
  · rename_i hn
    exact (h.held (.inl hn)).1

theorem Dev.requested.took {l : List Rec} {d e : Dev} (h : Dev.requested l d e) (hn : d.rst.newest + l.length < 4294967295) :
    d.rst.tookRecords (d.stagedOf l) e.rst := by
  by_cases hh : d.mtr.holder = []
  · simp only [Dev.stagedOf, if_pos hh]
    exact (h.staged hh hn).1
  · rw [h.rst_of_none_staged (if_neg hh), Dev.stagedOf, if_neg hh]
    exact Rst.tookRecords_nil _

theorem Dev.requested.grew {l : List Rec} {d e : Dev} (h : Dev.requested l d e) (hs : d.rst.stuck)
    (hn : d.rst.newest + l.length < 4294967295) : d.rst.grewBy (d.stagedOf l) e.rst := by
  by_cases hh : d.mtr.holder = []
  · simp only [Dev.stagedOf, if_pos hh]
    exact h.grewBy hh hs hn
  · rw [h.rst_of_none_staged (if_neg hh), Dev.stagedOf, if_neg hh]
    exact Rst.grewBy_nil _

theorem Dev.requested.begins {r : Rst} {l : List Rec} {d e : Dev} (h : Dev.requested l d e) (hp : r.onPageOf d.rst)
    (hr : d.run = .shutdown)
    (hb : d.rst.engine = .programming r.posSector r.posPage ∨ (d.rst.warned = true ∧ d.stagedOf l ≠ [])) :
    e.rst.engine = .programming r.posSector r.posPage := by
  refine (h.onPageOf hp hr).2 (hb.imp id fun hw => ⟨hw.1, ?_⟩)
  by_cases hh : d.mtr.holder = []
  · exact ⟨hh, by simpa [Dev.stagedOf, hh] using hw.2⟩
  · exact absurd (if_neg hh) hw.2

/-- What the warning leaves of the store and the holder, over the records of a membership that it ends. -/
def Dev.storeWarned (d : Dev) (l : List Rec) (t : Dev) : Prop :=
  let staged := d.stagedOf l
  (d.rst.tookRecords staged t.rst ∧ (d.mtr.holder = [] → t.mtr.holder = l.drop d.rst.free) ∧
    (d.mtr.holder ≠ [] → d.mtr.holder.length ≤ 2 → t.mtr.holder = (d.mtr.holder ++ l).take 2 ∧
      t.mtr.dropped =
        (if d.mtr.holder.length + l.length ≤ 2 then d.mtr.dropped
         else min 255 (d.mtr.dropped + (d.mtr.holder.length + l.length - 2))))) ∧
    (d.rst.stuck → t.rst.engine = d.rst.engine ∧ t.rst.full = d.rst.full ∧
      (staged ≠ [] → t.rst.drain = some t.rst.newest) ∧ (staged = [] → d.rst.waiting = [] → t.rst.drain = d.rst.drain) ∧
      ∀ w e, staged = [] → d.rst.waiting = w ++ [e] → t.rst.drain = some e.seq) ∧
    (d.rst.primed →
      (d.rst.queue ≠ [] ∨ staged ≠ [] → t.rst.engine = .programming d.rst.posSector d.rst.posPage) ∧
      (d.rst.queue = [] → staged = [] → t.rst.engine = .idle))

theorem Rst.sameStaged.free {r t : Rst} (h : r.sameStaged t) : t.free = r.free := by
  obtain ⟨hn, hs⟩ := h
  have hq : t.queue.length = r.queue.length := by simpa [Rst.staged] using congrArg List.length hs
  rw [Rst.free, Rst.free, hn, hq]

theorem Rst.sameStaged.tookNone {r t : Rst} (h : r.sameStaged t) : r.tookRecords [] t := ⟨h.1, by simpa using h.2⟩

section
variable {d e : Dev} {l : List Rec} (hl : l.length ≤ 2) (hn : d.rst.newest + l.length < 4294967295) (hr : d.run = .shutdown)
include hl hn hr

/-- The store takes the warning before the records of the membership's end are requested. -/
theorem Dev.storeWarned_store_first (h : Dev.requested l d.rstWarning e) : d.storeWarned l e := by
  have hsame := d.rstWarning_sameStaged
  obtain ⟨hrun, -, -, -, -, -, -, -, -, -, hmtr, -⟩ := d.rstWarning_frame
  have hstaged : d.rstWarning.stagedOf l = d.stagedOf l := by rw [Dev.stagedOf, Dev.stagedOf, hmtr, hsame.free]
  have hnew : d.rstWarning.rst.newest + l.length < 4294967295 := by rw [hsame.1]; exact hn
  refine ⟨⟨?_, fun hh => ?_, fun hh => ?_⟩, fun hs => ?_, fun hp => ⟨fun hor => ?_, fun hq hs => ?_⟩⟩
  · rw [← hstaged]
    exact Rst.tookRecords_append hsame.tookNone (h.took hnew)
  · rw [(h.staged (hmtr ▸ hh) hnew).2 hl, hsame.free]
  · rw [← hmtr] at hh ⊢
    exact (h.held (.inl hh)).2
  · obtain ⟨drain, hw, hempty, hlast⟩ := Dev.rstWarning_of_stuck hs
    have hstuck : d.rstWarning.rst.stuck := by rw [hw]; exact hs
    obtain ⟨⟨he, hf, -, -⟩, hnone, hsome⟩ := hstaged ▸ h.grew hstuck hnew
    rw [hw] at he hf hnone hsome
    exact ⟨he, hf, fun hst => (hsome hst).2 rfl, fun hst hwait => (hnone hst).2.trans (hempty hwait),
      fun w x hst hwait => (hnone hst).2.trans (hlast w x hwait)⟩
  · obtain ⟨hpage, hwarned, hbegin⟩ := Dev.rstWarning_onPageOf (r := d.rst) (.inr ⟨hp, rfl, rfl⟩) hr
    refine h.begins hpage (hrun.trans hr) (hor.imp (fun hq => hbegin (.inr hq)) fun hst => ⟨hwarned, ?_⟩)
    rwa [hstaged]
  · rw [h.rst_of_none_staged (hstaged.trans hs), Dev.rstWarning_of_empty hp hr hq]
    exact hp.1

/-- The records of the membership's end are requested before the store takes the warning. -/
theorem Dev.storeWarned_store_last (h : Dev.requested l d e) (he : e.run = .shutdown) : d.storeWarned l e.rstWarning := by
  have hsame := e.rstWarning_sameStaged
  have htook := h.took hn
  obtain ⟨-, -, -, -, -, -, -, -, -, -, hmtr, -⟩ := e.rstWarning_frame
  refine ⟨⟨?_, fun hh => ?_, fun hh => ?_⟩, fun hs => ?_, fun hp => ⟨fun hor => ?_, fun hq hs => ?_⟩⟩
  · have hboth := Rst.tookRecords_append htook hsame.tookNone
    rwa [List.append_nil] at hboth
  · rw [hmtr, (h.staged hh hn).2 hl]
  · rw [hmtr]
    exact (h.held (.inl hh)).2
  · have hgrew := h.grew hs hn
    obtain ⟨drain, hw, hempty, hlast⟩ := Dev.rstWarning_of_stuck (hgrew.stuck hs)
    obtain ⟨⟨hen, hf, -, -⟩, hnone, hsome⟩ := hgrew
    rw [hw]
    refine ⟨hen, hf, fun hst => ?_, fun hst hwait => ?_, fun w x hst hwait => ?_⟩
    · obtain ⟨⟨w, x, hwait, hseq⟩, -⟩ := hsome hst
      exact (hlast w x hwait).trans (congrArg some hseq)
    · obtain ⟨hwaits, hdrain⟩ := hnone hst
      exact (hempty (hwaits.trans hwait)).trans hdrain
    · exact hlast w x ((hnone hst).1.trans hwait)
  · have hpage := (h.onPageOf (r := d.rst) (.inr ⟨hp, rfl, rfl⟩) hr).1
    have hq : e.rst.queue ≠ [] := by
      intro h0
      have hlen := congrArg List.length htook.2
      have hq0 : d.rst.queue.length = 0 ∧ (d.stagedOf l).length = 0 := by
        simpa [Rst.staged, h0] using hlen.symm
      exact hor.elim (fun hq => hq (List.length_eq_zero_iff.1 hq0.1)) fun hst => hst (List.length_eq_zero_iff.1 hq0.2)
    exact (Dev.rstWarning_onPageOf hpage he).2.2 (.inr hq)
  · have hrst := h.rst_of_none_staged hs
    rw [Dev.rstWarning_of_empty (by rwa [hrst]) he (by rwa [hrst]), hrst]
    exact hp.1
end

end Sys2Proof.Machine


/-! ### The warning at the handover controller, the channels and the contactors (R86, R105, R126) -/

namespace Sys2Proof.Machine

/-- Between RUNNING and the next START: what an operation of the warning leaves of the handover controller, the channels and the measurement. -/
def Dev.quiet (d e : Dev) : Prop :=
  d.hoc.sameTable e.hoc ∧ (e.hoc.state = .tripped ↔ d.hoc.state = .tripped) ∧ e.msu = d.msu ∧
    (d.syn.cell.state = .idle → e.syn.cell.state = .idle) ∧ (d.syn.ship.state = .idle → e.syn.ship.state = .idle)

theorem Dev.quiet_of_eq {d e : Dev} (hh : e.hoc = d.hoc) (hm : e.msu = d.msu) (hs : e.syn = d.syn) : d.quiet e := by
  rw [Dev.quiet, hh, hm, hs]
  exact ⟨d.hoc.sameTable_refl, Iff.rfl, rfl, id, id⟩

theorem Dev.quiet.trans {d e f : Dev} (h : d.quiet e) (g : e.quiet f) : d.quiet f := by
  obtain ⟨ht, hs, hm, hc, hp⟩ := h
  obtain ⟨gt, gs, gm, gc, gp⟩ := g
  exact ⟨ht.trans gt, gs.trans hs, gm.trans hm, gc ∘ hc, gp ∘ hp⟩

theorem Channel.leaveJoining_of_idle {c : Channel} (h : c.state = .idle) : c.leaveJoining = c := by
  simp [Channel.leaveJoining, Channel.running, h]

/-- A move to ASSIGNED or OFF starts no channel (R89, R90). -/
theorem Dev.move_quiet {d : Dev} {st : HState} (hst : st = .assigned ∨ st = .off) (hs : d.hoc.state ≠ .tripped) : d.quiet (d.move st) := by
  have htrip : st ≠ .tripped ∧ st ≠ .joining ∧ st ≠ .matching := by
    obtain rfl | rfl := hst <;> decide
  obtain ⟨ht, hj, hm⟩ := htrip
  refine ⟨d.move_sameTable st, ?_, by simp, fun hi => ?_, fun hi => ?_⟩
  · rw [Dev.move_state]
    exact iff_of_false ht hs
  · simp only [Dev.move, Dev.setHoc_syn, Dev.setSyn_syn, Syn.enter]
    split
    · rw [Channel.leaveJoining_of_idle hi, hi]
    · simp [hj, hi]
  · simp only [Dev.move, Dev.setHoc_syn, Dev.setSyn_syn, Syn.enter]
    split
    · rfl
    · simp [hm, hi]

theorem Dev.energise_of_not_running {d : Dev} (h : d.run ≠ .running) : d.energise = d := by
  simp only [Dev.energise, Dev.mayEnergise]
  split
  · rfl
  · simp [h]

theorem Dev.toAssigned_of_not_running {d : Dev} (h : d.run ≠ .running) : d.toAssigned = d.move .assigned :=
  Dev.energise_of_not_running (by simpa using h)

theorem Dev.assignedLeftClosed_quiet {d : Dev} (h : d.run ≠ .running) : d.quiet d.assignedLeftClosed := by
  simp only [Dev.assignedLeftClosed]
  have hclaims : d.quiet (d.setHoc { d.hoc with joinAge := 0, joinTicks := 0, lead := false, leadCount := 0 }) :=
    ⟨⟨rfl, rfl, rfl⟩, Iff.rfl, rfl, id, id⟩
  split
  · rename_i hm
    rw [Dev.toAssigned_of_not_running (by exact h)]
    refine hclaims.trans (Dev.move_quiet (.inl rfl) fun ht => ?_)
    rw [ht] at hm
    exact absurd hm (by decide)
  · exact hclaims

/-- A change of a contactor to OPENING moves, outside RUNNING, a member to ASSIGNED at most (R116, R126). -/
theorem Dev.conChanged_quiet {d : Dev} {x : Outlet} {old : CState} (h : d.run ≠ .running) (ho : d.con x = .opening)
    (hold : old = .closing ∨ old = .closed) (o : Origin) : d.quiet (d.conChanged x old o) := by
  have hne : ¬d.con x = old := by rw [ho]; obtain rfl | rfl := hold <;> decide
  simp only [Dev.conChanged, if_neg hne]
  split
  · obtain rfl | rfl := hold
    · simpa [Dev.assignedChanged, ho] using Dev.quiet_of_eq (d := d) rfl rfl rfl
    · have hleft : d.quiet (d.leftClosed o) := Dev.quiet_of_eq (by simp) (by simp) (by simp)
      simpa [Dev.assignedChanged, ho] using hleft.trans (Dev.assignedLeftClosed_quiet (by simpa using h))
  · split
    · rw [Dev.energise_of_not_running h]
      exact Dev.quiet_of_eq rfl rfl rfl
    · exact Dev.quiet_of_eq rfl rfl rfl

/-- An open request outside RUNNING (R86). -/
theorem Dev.openRequest_quiet {d : Dev} (h : d.run ≠ .running) (x : Outlet) (o : Origin) : d.quiet (d.openRequest x o) := by
  have hset : d.quiet (d.setCon x ((d.ctc.get x).openRequested d.cfg.openPulse)) := Dev.quiet_of_eq rfl rfl rfl
  refine hset.trans ?_
  obtain hm | hr : (d.con x = .closing ∨ d.con x = .closed) ∨ ((d.ctc.get x).openRequested d.cfg.openPulse) = d.ctc.get x := by
    cases hs : (d.ctc.get x).state <;> simp [Dev.con, Contactor.openRequested, hs]
  · refine Dev.conChanged_quiet (by exact h) ?_ hm o
    have hopening : ((d.ctc.get x).openRequested d.cfg.openPulse).state = .opening := by
      obtain hm | hm := hm <;> simp [Contactor.openRequested, show (d.ctc.get x).state = _ from hm, Contactor.startOpen]
    cases x <;> exact hopening
  · have hsame : (d.setCon x ((d.ctc.get x).openRequested d.cfg.openPulse)).con x = d.con x := by rw [hr]; cases x <;> rfl
    simp only [Dev.openRequest, Dev.changeCon, Dev.conChanged, if_pos hsame]
    exact Dev.quiet_of_eq rfl rfl rfl

theorem Dev.ctcWarning_quiet {d : Dev} (h : d.run ≠ .running) : d.quiet d.ctcWarning :=
  (Dev.openRequest_quiet h .a _).trans (Dev.openRequest_quiet (by simpa using h) .b _)

theorem Dev.ctcWarning_ctc (d : Dev) :
    d.ctc.a.openRequestedFrom d.cfg.openPulse d.ctcWarning.ctc.a ∧ d.ctc.b.openRequestedFrom d.cfg.openPulse d.ctcWarning.ctc.b := by
  simp only [Dev.ctcWarning, Dev.openRequest_ctc, Dev.openRequest_frame]
  exact ⟨d.ctc.a.openRequested_from _, d.ctc.b.openRequested_from _⟩

theorem Dev.openRequest_of_no_membership {d : Dev} (h : d.mtr.membership = none) (x : Outlet) (o : Origin) :
    (d.openRequest x o).mtr = d.mtr ∧ (d.openRequest x o).rst = d.rst :=
  Dev.conChanged_of_no_membership (d := d.setCon x ((d.ctc.get x).openRequested d.cfg.openPulse)) h x (d.con x) o

theorem Dev.ctcWarning_of_no_membership {d : Dev} (h : d.mtr.membership = none) :
    d.ctcWarning.mtr = d.mtr ∧ d.ctcWarning.rst = d.rst := by
  obtain ⟨ha, har⟩ := Dev.openRequest_of_no_membership h .a .supplyWarning
  obtain ⟨hb, hbr⟩ := Dev.openRequest_of_no_membership (ha ▸ h) .b .supplyWarning
  exact ⟨hb.trans ha, hbr.trans har⟩

theorem Hoc.enter_dropped (h : Hoc) {st : HState} (hst : st = .assigned ∨ st = .off) : h.droppedFrom (h.enter st) := by
  obtain rfl | rfl := hst <;> simp [Hoc.droppedFrom, Hoc.timersStopped, Hoc.enter, keepIn, HState.isMember]

theorem Hoc.sameTable.droppedFrom {h t u : Hoc} (a : h.sameTable t) (b : t.droppedFrom u) : h.droppedFrom u := by
  obtain ⟨hf, hl, hv, ht, hx, hsa, hsb⟩ := b
  obtain ⟨ax, asa, asb⟩ := a
  exact ⟨hf, hl, hv, ht, hx.trans ax, hsa.trans asa, hsb.trans asb⟩

/-- R126: the handover controller's own part of the warning. -/
theorem Dev.hocWarning_effect (d : Dev) :
    d.quiet d.hocWarning ∧
      (d.hoc.state ≠ .tripped →
        d.hoc.droppedFrom d.hocWarning.hoc ∧ d.hocWarning.hoc.state = (if d.hoc.assignment.isSome then .assigned else .off)) := by
  simp only [Dev.hocWarning]
  by_cases ht : d.hoc.state = .tripped
  · rw [if_pos ht]
    exact ⟨Dev.quiet_of_eq rfl rfl rfl, fun hn => absurd ht hn⟩
  · rw [if_neg ht]
    split
    · exact ⟨Dev.move_quiet (.inl rfl) ht, fun _ => ⟨d.hoc.enter_dropped (.inl rfl), Dev.move_state _ _⟩⟩
    · exact ⟨Dev.move_quiet (.inr rfl) ht, fun _ => ⟨d.hoc.enter_dropped (.inr rfl), Dev.move_state _ _⟩⟩

/-! ### Every block but the store (R177) -/

/-- A unit halted for good stays as the warning has left it (R20). -/
theorem Syu.becomes.halted {s t : Syu} (h : s.becomes t) (hc : s.heldClear = true) (hs : s.haltedFrom s) :
    t.heldClear = true ∧ s.haltedFrom t := by
  have hmode : ∀ (u : Syu) (m : Mode) (running : Bool) (ses : Option Session), u.heldClear = true ∧ s.haltedFrom u →
      (u.setMode m running ses).heldClear = true ∧ s.haltedFrom (u.setMode m running ses) := by
    intro u m running ses hu
    obtain ⟨hheld, hrest⟩ := hu
    simp only [Syu.setMode]
    split_ifs with hm hst hrun
    · exact ⟨hheld, hrest⟩
    · exact ⟨hheld, rfl, rfl, rfl, rfl, rfl, hrest.2.2.2.2.2⟩
    · rw [hheld] at hrun
      exact absurd hrun.2.2 (by decide)
    · exact ⟨hheld, hrest⟩
  induction h with
  | same => exact ⟨hc, hs⟩
  | stopped _ ih => exact ⟨ih.1, rfl, rfl, rfl, rfl, rfl, ih.2.2.2.2.2.2⟩
  | heldClear _ ih => exact ⟨rfl, ih.2⟩
  | entered old st running ses _ ih =>
    have hu := hmode _ st.mode running ses ih
    simp only [Syu.enter]
    split
    · exact hu
    · exact hu
  | ramped _ _ ih | joining _ _ ih | steering _ _ ih => exact ih

/-- The records that the end of the membership requests with cause power; none without one (R145). -/
def Mtr.powerRecords (m : Mtr) : List Rec :=
  match m.membership with
  | none => []
  | some k => m.leaveRecords k .power

theorem Dev.mtrWarning_requested (d : Dev) : Dev.requested d.mtr.powerRecords d d.mtrWarning ∧ d.mtrWarning.mtr.membership = none := by
  simp only [Mtr.powerRecords, Dev.mtrWarning]
  cases hk : d.mtr.membership with
  | none =>
    rw [Dev.endMembership_of_none hk]
    exact ⟨.none ⟨rfl, rfl, rfl, rfl⟩, hk⟩
  | some k => exact Dev.endMembership_requested hk .power

theorem Dev.requested.congr {l : List Rec} {d d' e e' : Dev} (h : Dev.requested l d e) (hd : d'.sameStore d) (he : e.sameStore e') :
    Dev.requested l d' e' := by
  have trans : ∀ {a b c : Dev}, a.sameStore b → b.sameStore c → a.sameStore c :=
    fun ⟨a1, a2, a3, a4⟩ ⟨b1, b2, b3, b4⟩ => ⟨b1.trans a1, b2.trans a2, b3.trans a3, b4.trans a4⟩
  induction h generalizing d' with
  | none hs => exact .none (trans (trans hd hs) he)
  | more x hs _ ih => exact .more x (trans hd hs) (ih ⟨rfl, rfl, rfl, rfl⟩ he)

/-- What the warning leaves of every block but the store, the holder and the notices. -/
def Dev.shutBy (d t : Dev) : Prop :=
  t.run = d.run ∧ t.pins = d.pins ∧ d.syu.haltedFrom t.syu ∧ t.syu.heldClear = true ∧
    t.syn.cell.state = .idle ∧ t.syn.ship.state = .idle ∧
    d.ctc.a.openRequestedFrom d.cfg.openPulse t.ctc.a ∧ d.ctc.b.openRequestedFrom d.cfg.openPulse t.ctc.b ∧
    t.hoc.assignment = d.hoc.assignment ∧
    (d.hoc.state ≠ .tripped →
      d.hoc.droppedFrom t.hoc ∧ t.hoc.state = (if d.hoc.assignment.isSome then .assigned else .off)) ∧
    (d.hoc.state = .tripped → t.hoc.state = .tripped) ∧ t.mtr.membership = none ∧
    t.cfg = d.cfg ∧ t.lnk = d.lnk ∧ t.ptb = d.ptb ∧ t.msu = d.msu ∧ t.rst.mem = d.rst.mem

/-- The blocks behind one another, in SHUTDOWN. -/
theorem Dev.blocksWarned_effect {d : Dev} (hr : d.run = .shutdown) :
    d.shutBy d.blocksWarned ∧ Dev.requested d.mtr.powerRecords d d.blocksWarned := by
  obtain ⟨hreq, hnone⟩ := d.syuWarning.mtrWarning_requested
  have hrun : d.syuWarning.mtrWarning.synWarning.run ≠ .running := by simp [hr]
  have hfirst : d.hoc = d.syuWarning.mtrWarning.synWarning.hoc ∧ d.msu = d.syuWarning.mtrWarning.synWarning.msu ∧
      d.ctc = d.syuWarning.mtrWarning.synWarning.ctc ∧ d.cfg = d.syuWarning.mtrWarning.synWarning.cfg := by simp
  obtain ⟨hhoc, hmsu, hctc, hcfg⟩ := hfirst
  have hquiet := Dev.ctcWarning_quiet hrun
  obtain ⟨ha, hb⟩ := d.syuWarning.mtrWarning.synWarning.ctcWarning_ctc
  obtain ⟨hmtr, hrst⟩ := Dev.ctcWarning_of_no_membership (d := d.syuWarning.mtrWarning.synWarning) (by simpa using hnone)
  obtain ⟨hlast, hdrop⟩ := d.syuWarning.mtrWarning.synWarning.ctcWarning.hocWarning_effect
  obtain ⟨htable, htrip, hm, hcell, hship⟩ := hquiet.trans hlast
  obtain ⟨qtable, qtrip, -⟩ := hquiet
  rw [← hhoc] at htable htrip qtable qtrip
  rw [← hctc, ← hcfg] at ha hb
  have hsyu : d.syuWarning.syu.becomes d.blocksWarned.syu := by
    have hmeter : d.syuWarning.syu.becomes d.syuWarning.mtrWarning.synWarning.syu := by simpa using Syu.becomes.same
    exact hmeter.ctcWarning.hocWarning
  obtain ⟨hheld, hhalt⟩ := hsyu.halted rfl ⟨rfl, rfl, rfl, rfl, rfl, rfl⟩
  refine ⟨⟨by simp, by simp, hhalt, hheld, hcell rfl, hship rfl, by simpa [Dev.blocksWarned] using ha,
    by simpa [Dev.blocksWarned] using hb, htable.1, fun hs => ?_, fun hs => htrip.2 hs, ?_, by simp, by simp, by simp, ?_, by simp⟩, ?_⟩
  · obtain ⟨hd, hst⟩ := hdrop (fun ht => hs (qtrip.1 ht))
    exact ⟨qtable.droppedFrom hd, by rw [← qtable.1]; exact hst⟩
  · simpa [Dev.blocksWarned, hmtr] using hnone
  · exact hm.trans hmsu.symm
  · refine hreq.congr ⟨rfl, rfl, rfl, rfl⟩ ?_
    simp [Dev.sameStore, Dev.blocksWarned, hmtr, hrst]

/-- R177: the warning at every block, in either order of meter and store (log entry 3). -/
theorem Dev.warn_effect (d : Dev) :
    (d.setRun .shutdown).shutBy d.warn ∧
      (d.rst.newest < 4294967290 → (d.setRun .shutdown).storeWarned d.mtr.powerRecords d.warn) := by
  have hlen : d.mtr.powerRecords.length ≤ 2 := by
    simp only [Mtr.powerRecords]
    split
    · simp
    · exact Mtr.length_leaveRecords_le _ _ _
  have hspend : ∀ t, Dev.shutBy (d.setRun .shutdown).spend t → Dev.shutBy (d.setRun .shutdown) t := fun _ h => h
  simp only [Dev.warn]
  split
  · obtain ⟨hshut, hreq⟩ := Dev.blocksWarned_effect (d := (d.setRun .shutdown).spend.rstWarning) (by simp)
    refine ⟨hspend _ ?_, fun hn => ?_⟩
    · simpa only [Dev.shutBy, Dev.rstWarning_frame, Dev.rstWarning_mem] using hshut
    · have hmtr : (d.setRun .shutdown).spend.rstWarning.mtr = d.mtr := by simp
      rw [hmtr] at hreq
      exact Dev.storeWarned_store_first (d := (d.setRun .shutdown).spend) hlen (by simp; omega) rfl hreq
  · obtain ⟨hshut, hreq⟩ := Dev.blocksWarned_effect (d := (d.setRun .shutdown).spend) rfl
    refine ⟨hspend _ ?_, fun hn => ?_⟩
    · simpa only [Dev.shutBy, Dev.rstWarning_frame, Dev.rstWarning_mem] using hshut
    · exact Dev.storeWarned_store_last (d := (d.setRun .shutdown).spend) hlen (by simp; omega) rfl hreq (by simp)

/-- Settles O8: the blocks and the store each take their part of the warning, whichever is first. -/
theorem supplyWarningShutsDown : Obligations.SupplyWarningShutsDown := by
  intro s
  refine ⟨fun hr => ?_, fun hr => ?_, fun hr => ?_⟩
  · have hexec : exec .supplyWarning s = .next (s.onDev Dev.supplyWarning) := rfl
    have hwarn : s.dev.supplyWarning = (s.dev.setPins { s.dev.pins with warning := true }).warn := if_pos hr
    obtain ⟨⟨hrun, hpins, hshut⟩, hstore⟩ := (s.dev.setPins { s.dev.pins with warning := true }).warn_effect
    obtain ⟨hsyu, hheld, hcell, hship, ha, hb, hx, hdrop, htrip, hmem, hcfg, hlnk, hptb, hmsu, hbytes⟩ := hshut
    refine ⟨_, hexec, rfl, ?_⟩
    rw [State.onDev_dev, hwarn]
    refine ⟨hrun, hpins, hsyu, hheld, hcell, hship, ha, hb, hx, hdrop, htrip, hmem, hcfg, hlnk, hptb, hmsu, hbytes, ?_⟩
    intro r held records staged settled hn
    obtain ⟨⟨htook, hnone, hheldby⟩, hstuck, hprimed⟩ := hstore hn
    exact ⟨htook, hnone, hheldby, hstuck, fun hi hs hf hp hq => hprimed ⟨hi, hs, hf, hp, hq⟩⟩
  · have hstay : s.dev.supplyWarning = s.dev.setPins { s.dev.pins with warning := true } := by
      simp only [Dev.supplyWarning]
      obtain hr | hr := hr <;> simp [hr]
    exact congrArg (fun d => Host.Outcome.next { s with dev := d }) hstay
  · have hnothing : s.dev.supplyWarning = s.dev := by simp [Dev.supplyWarning, hr]
    exact congrArg Host.Outcome.next (State.onDev_eq_self hnothing)

end Sys2Proof.Machine

/-! # The coil timers of a contactor (O46; R75, R76, R78, R102, R114 to R116) -/

/-! ### A record written, and the change handed to the handover controller -/

namespace Sys2Proof.Machine

theorem Dev.con_setCon_same (d : Dev) (x : Outlet) (c : Contactor) : (d.setCon x c).con x = c.state := by
  simp only [Dev.con, Dev.setCon, Dev.setCtc_ctc, Ctc.get_set_same]

theorem otherOutlet_ne (x : Outlet) : otherOutlet x ≠ x := by cases x <;> decide

theorem otherOutlet_twice (x : Outlet) : otherOutlet (otherOutlet x) = x := by cases x <;> rfl

theorem Ctc.bothOpen_of_con_ne {d : Dev} {x : Outlet} (h : d.con x ≠ .opened) : d.ctc.bothOpen = false := by
  cases x <;> simp_all [Dev.con, Ctc.bothOpen]

/-- R112: with a contactor that is not OPEN the energising test does nothing. -/
theorem Dev.energise_of_con_ne {d : Dev} {x : Outlet} (h : d.con x ≠ .opened) : d.energise = d := by
  simp only [Dev.energise, Dev.mayEnergise, Ctc.bothOpen_of_con_ne h]
  split <;> simp

theorem Dev.conChanged_of_assigned {d : Dev} {x : Outlet} {old : CState} (hx : d.hoc.assignment = some x) (hne : d.con x ≠ old)
    (hold : old ≠ .closed) (o : Origin) : d.conChanged x old o = d.assignedChanged x old (d.con x) := by
  rw [Dev.conChanged, if_neg hne, if_pos hx, if_neg hold]

/-- The change of a contactor that is not the assigned one at most has the energising test made again. -/
theorem Dev.conChanged_of_unassigned {d : Dev} {x : Outlet} (hx : d.hoc.assignment ≠ some x) (old : CState) (o : Origin) :
    d.conChanged x old o = d ∨ d.conChanged x old o = d.energise := by
  unfold Dev.conChanged
  (repeat' split) <;> simp_all

theorem Dev.conChanged_of_unassigned_con_ne {d : Dev} {x : Outlet} (hx : d.hoc.assignment ≠ some x) (hc : d.con x ≠ .opened)
    (old : CState) (o : Origin) : d.conChanged x old o = d := by
  rcases Dev.conChanged_of_unassigned hx old o with h | h
  · exact h
  · exact h.trans (Dev.energise_of_con_ne hc)

end Sys2Proof.Machine

/-! ### The close that ends CLOSED (R33, R114 to R116) -/

namespace Sys2Proof.Machine

/-- A move to a member state keeps the ramp offset, since its mode is never STOPPED (R19). -/
theorem Dev.move_member_fRamp (d : Dev) {st : HState} (hst : st.isMember = true) : (d.move st).syu.fRamp = d.syu.fRamp := by
  have hmode : st.mode ≠ .stopped := by cases st <;> simp_all [HState.mode, HState.isMember]
  simp only [Dev.move, Dev.setHoc_syu, Dev.setSyn_syu, Dev.setSyu_syu, Syu.enter, Syu.setMode, if_neg hmode]
  (repeat' split) <;> rfl

/-- The joining offsets are 0 after a move that leaves JOINING, and stay 0 through every other (R19). -/
theorem Dev.move_joining_offsets (d : Dev) {st : HState}
    (h : d.hoc.state = .joining ∧ st ≠ .joining ∨ d.syu.fJoin = 0 ∧ d.syu.vSteer = 0) :
    (d.move st).syu.fJoin = 0 ∧ (d.move st).syu.vSteer = 0 := by
  have hset (hz : d.syu.fJoin = 0 ∧ d.syu.vSteer = 0) (m : Mode) (running : Bool) (ses : Option Session) :
      (d.syu.setMode m running ses).fJoin = 0 ∧ (d.syu.setMode m running ses).vSteer = 0 := by
    unfold Syu.setMode
    split
    · exact hz
    · dsimp only
      (repeat' split) <;> exact ⟨rfl, rfl⟩
  simp only [Dev.move, Dev.setHoc_syu, Dev.setSyn_syu, Dev.setSyu_syu, Syu.enter]
  split
  · exact ⟨rfl, rfl⟩
  · next hstay => exact hset (h.resolve_left hstay) _ _ _

/-- A move that does not enter JOINING keeps the attempt count (R100). -/
theorem Dev.move_attempts (d : Dev) {st : HState} (hst : st ≠ .joining) : (d.move st).syn.cell.attempts = d.syn.cell.attempts := by
  simp only [Dev.move, Dev.setHoc_syn, Dev.setSyn_syn, Syn.enter, Channel.leaveJoining, hst]
  (repeat' split) <;> grind

theorem Dev.move_joinAge (d : Dev) (st : HState) :
    (d.move st).hoc.joinAge = d.hoc.joinAge ∧ (d.move st).hoc.joinTicks = d.hoc.joinTicks := by
  simp only [Dev.move, Dev.setHoc_hoc, Hoc.enter]
  split <;> exact ⟨rfl, rfl⟩

theorem Dev.move_forming_claim (d : Dev) {st : HState} (hst : st ≠ .forming) :
    (d.move st).hoc.forming = false ∧ (d.move st).hoc.formingCount = 0 := by
  simp only [Dev.move, Dev.setHoc_hoc, Hoc.enter, Hoc.startRamp, hst]
  split <;> simp

/-- What the move of a joining cell into a member state leaves: the state entered, except that DEPART_WAIT may pass on to PARALLEL_DOWN
(Table 7-5), the ramp offset kept and the joining offsets 0. -/
theorem Dev.enter_from_joining {d : Dev} (hd : d.hoc.state = .joining) {st : HState} (hst : st.isMember = true) :
    let t := d.enter st
    t.hoc.state.isMember = true ∧ (st ≠ .departWait → t.hoc.state = st) ∧ d.hoc.sameTable t.hoc ∧
      (t.hoc.joinAge = d.hoc.joinAge ∧ t.hoc.joinTicks = d.hoc.joinTicks) ∧ t.syn.cell.attempts = d.syn.cell.attempts ∧
      (t.syu.fJoin = 0 ∧ t.syu.vSteer = 0) ∧ t.syu.fRamp = d.syu.fRamp := by
  have hne : st ≠ .joining := by rintro rfl; cases hst
  have hleave := d.move_joining_offsets (.inl ⟨hd, hne⟩)
  have hage := d.move_joinAge st
  intro t
  by_cases hpass : st = .departWait ∧ d.generatorsOn = true
  · obtain ⟨rfl, -⟩ := id hpass
    have ht : t = (d.move .departWait).move .parallelDown := if_pos hpass
    have hage2 := (d.move .departWait).move_joinAge .parallelDown
    rw [ht]
    refine ⟨by rw [Dev.move_state]; rfl, fun h => absurd rfl h, (d.move_sameTable _).trans (Dev.move_sameTable _ _),
      ⟨hage2.1.trans hage.1, hage2.2.trans hage.2⟩, ?_, Dev.move_joining_offsets _ (.inr hleave), ?_⟩
    · rw [Dev.move_attempts _ (by decide), Dev.move_attempts _ (by decide)]
    · rw [Dev.move_member_fRamp _ rfl, Dev.move_member_fRamp _ rfl]
  · have ht : t = d.move st := if_neg hpass
    rw [ht]
    refine ⟨by rw [Dev.move_state]; exact hst, fun _ => d.move_state st, d.move_sameTable st, hage, d.move_attempts hne, hleave,
      d.move_member_fRamp hst⟩

/-- R115: the state that places a joining cell is a member state; it is the lead's where the lead's state places, and follows the ship
view where no lead or one in RELEASE_WAIT is heard. -/
theorem Dev.placement_cases (d : Dev) (x : Outlet) :
    (d.placement x).isMember = true ∧
      (∀ l, d.ptb.leadState x = some l → l ≠ .releaseWait → l.isMember = true → d.placement x = l) ∧
      (d.ptb.leadState x = none ∨ d.ptb.leadState x = some .releaseWait →
        (d.ptb.shipView x = none → d.placement x = .onBus) ∧
        ∀ v, d.ptb.shipView x = some v →
          d.placement x = (if v.breaker = false then .onBus else if v.generators = 0 then .island else .parallelHold) ∧
            d.placement x ≠ .departWait) := by
  have hplaces (l : HState) : l.places = true ↔ l ≠ .releaseWait ∧ l.isMember = true := by cases l <;> decide
  unfold Dev.placement
  refine ⟨?_, fun l hl hne hm => ?_, fun hl => ⟨fun hv => ?_, fun v hv => ?_⟩⟩
  · split
    · next st hst => exact ((hplaces st).1 (Option.filter_eq_some_iff.1 hst).2).2
    · (repeat' split) <;> rfl
  · simp [hl, Option.filter, (hplaces l).2 ⟨hne, hm⟩]
  · rcases hl with hl | hl <;> simp [hl, hv, Option.filter, HState.places]
  · rcases hl with hl | hl <;> simp only [hl, hv, Option.filter, HState.places] <;> cases v.breaker <;>
      by_cases hg : v.generators = 0 <;> simp [hg]

theorem Dev.adoptMean_eq (d : Dev) (x : Outlet) :
    d.adoptMean x =
      (let others := (d.ptb.sharers x).map (fun c => c.2.2.fRamp)
       if others = [] then 0 else tdiv others.sum others.length) := by
  simp only [Dev.adoptMean, List.isEmpty_iff, List.map_eq_nil_iff, List.length_map]

/-- R102, R114 to R116: the assigned contactor became CLOSED. -/
theorem Dev.assignedClosed_joinedFrom {d : Dev} {x : Outlet} (hx : d.hoc.assignment = some x) : d.joinedFrom x (d.assignedClosed x) := by
  let d1 := d.setHoc { d.hoc with joinAge := 0, joinTicks := 0 }
  by_cases hf : d.hoc.state = .forming
  · have ht : d.assignedClosed x = (d1.move .onBus).setHoc { (d1.move .onBus).hoc with lead := true } := by
      simp only [Dev.assignedClosed, Dev.setHoc_hoc, hf, d1]
    obtain ⟨hsame, -, -⟩ := d1.move_sameTable .onBus
    obtain ⟨hage, hticks⟩ := d1.move_joinAge .onBus
    rw [ht]
    exact ⟨hage, hticks, hsame.trans hx, fun _ => ⟨d1.move_state _, rfl, d1.move_forming_claim (by decide)⟩,
      fun hj => by rw [hf] at hj; cases hj⟩
  by_cases hj : d.hoc.state = .joining
  · let d2 := d1.setCellCh { d1.syn.cell with attempts := 0 }
    let d3 := d2.rampTo (d2.adoptMean x)
    have ht : d.assignedClosed x = d3.enter (d2.placement x) := by simp only [Dev.assignedClosed, Dev.setHoc_hoc, hj, d1, d2, d3]
    obtain ⟨hmember, hlead, hview⟩ := d2.placement_cases x
    obtain ⟨hm, hst, ⟨hsame, -, -⟩, ⟨hage, hticks⟩, hatt, ⟨hfj, hvs⟩, hfr⟩ := Dev.enter_from_joining (d := d3) hj hmember
    rw [ht]
    refine ⟨hage, hticks, hsame.trans hx, fun h => absurd h hf, fun _ => ⟨hm, hatt, hfj, hvs, ?_, fun l hl hr hlm hdw => ?_,
      fun hl => ⟨fun hv => ?_, fun v hv => ?_⟩⟩⟩
    · rw [hfr]
      exact congrArg (clampInt (-3000) 3000) (d2.adoptMean_eq x)
    · have hp := hlead l hl hr hlm
      exact (hst (hp ▸ hdw)).trans hp
    · have hp := (hview hl).1 hv
      exact (hst (by rw [hp]; decide)).trans hp
    · obtain ⟨hp, hdw⟩ := (hview hl).2 v hv
      exact (hst hdw).trans hp
  · have ht : d.assignedClosed x = d1 := by simp only [Dev.assignedClosed, Dev.setHoc_hoc, d1]
    rw [ht]
    exact ⟨rfl, rfl, hx, fun h => absurd h hf, fun h => absurd h hj⟩

/-- R75: a close operation that ends CLOSED writes the record and hands the change to the handover controller where it is the assigned
contactor. -/
theorem Dev.becomeClosed_eq {d : Dev} {x : Outlet} (hc : d.con x = .closing) :
    d.becomeClosed x =
      (if d.hoc.assignment = some x then (d.setCon x ((d.ctc.get x).rest .closed)).assignedClosed x
       else d.setCon x ((d.ctc.get x).rest .closed)) := by
  let d1 := d.setCon x ((d.ctc.get x).rest .closed)
  have hcon : d1.con x = .closed := d.con_setCon_same x _
  have h : d.becomeClosed x = d1.conChanged x .closing .handover := congrArg (d1.conChanged x · .handover) hc
  rw [h]
  by_cases hx : d.hoc.assignment = some x
  · rw [if_pos hx, Dev.conChanged_of_assigned (d := d1) hx (by rw [hcon]; decide) (by decide), hcon]
    exact if_pos rfl
  · rw [if_neg hx]
    exact Dev.conChanged_of_unassigned_con_ne (d := d1) hx (by rw [hcon]; decide) _ _

theorem Contactor.rest_eq (c : Contactor) (st : CState) : c.rest st = restingAt st c.auxClosed := rfl

/-- The close of a contactor that ends CLOSED (R33, R75, R101, R114 to R116). -/
theorem Dev.becomeClosed_effect {d : Dev} {x : Outlet} (hc : d.con x = .closing) :
    let t := d.becomeClosed x
    t.ctc = d.ctc.set x (restingAt .closed (d.ctc.get x).auxClosed) ∧
      t = { d with ctc := t.ctc, syu := t.syu, syn := t.syn, hoc := t.hoc } ∧ (d.hoc.assignment = some x → d.joinedFrom x t) ∧
      (d.hoc.assignment ≠ some x → t.hoc = d.hoc) := by
  refine ⟨d.becomeClosed_ctc x, ?_⟩
  rw [Dev.becomeClosed_eq hc]
  split
  · next hx =>
    refine ⟨?_, fun _ => Dev.assignedClosed_joinedFrom (d := d.setCon x _) hx, fun h => absurd hx h⟩
    obtain ⟨hrun, hpins, hcfg, hlnk, hptb, hmsu, hctc, hmtr, hrst, hntu, hfree⟩ :=
      (d.setCon x ((d.ctc.get x).rest .closed)).assignedClosed_frame x
    simp only [Dev.setCon_frame] at hrun hpins hcfg hlnk hptb hmsu hmtr hrst hntu hfree
    simp only [← hrun, ← hpins, ← hcfg, ← hlnk, ← hptb, ← hmsu, ← hmtr, ← hrst, ← hntu, ← hfree]
  · next hx => exact ⟨rfl, fun h => absurd h hx, fun _ => rfl⟩

end Sys2Proof.Machine

/-! ### The return to OPEN (R80, R102; log entry 48) -/

namespace Sys2Proof.Machine

/-- The assigned contactor leaves OPEN on the start of an operation: a running cell channel's watch stops, and nothing else happens (R102). -/
theorem Dev.assignedChanged_from_opened (d : Dev) (x : Outlet) {new : CState} (hc : new ≠ .closed) (ho : new ≠ .opened) :
    d.assignedChanged x .opened new =
      (if d.syn.cell.running = true then d.setCellCh { d.syn.cell with watch := none } else d) := by
  simp [Dev.assignedChanged, hc, ho]

/-- A started operation hands out its change: at most the watch of the cell channel stops, and only for the assigned contactor. -/
theorem Dev.changeCon_from_opened {d : Dev} {x : Outlet} (h : d.con x = .opened) {c : Contactor} (hc : c.state ≠ .closed)
    (ho : c.state ≠ .opened) (o : Origin) :
    d.changeCon x c o =
      (if d.hoc.assignment = some x ∧ d.syn.cell.running = true then (d.setCon x c).setCellCh { d.syn.cell with watch := none }
       else d.setCon x c) := by
  have hcon : (d.setCon x c).con x = c.state := d.con_setCon_same x c
  rw [Dev.changeCon, h]
  by_cases hx : d.hoc.assignment = some x
  · rw [Dev.conChanged_of_assigned (d := d.setCon x c) hx (by rw [hcon]; exact ho) (by decide), hcon,
      Dev.assignedChanged_from_opened _ _ hc ho]
    simp [hx]
  · rw [Dev.conChanged_of_unassigned_con_ne (d := d.setCon x c) hx (by rw [hcon]; exact ho)]
    simp [hx]

/-- R80: a held closure of an outlet is taken where the other record is OPEN; nothing but the records and, for the assigned outlet, the
cell channel is reached. -/
theorem Dev.takeHeld_effect {d : Dev} {x : Outlet} (hy : d.con (otherOutlet x) = .opened) :
    (d.ctc.get x).heldTakenFrom d.cfg.openPulse ((d.takeHeld x).ctc.get x) ∧
      (d.takeHeld x).ctc.get (otherOutlet x) = d.ctc.get (otherOutlet x) ∧
      d.takeHeld x = { d with ctc := (d.takeHeld x).ctc, syn := (d.takeHeld x).syn } ∧
      (d.hoc.assignment ≠ some x → (d.takeHeld x).syn = d.syn) := by
  by_cases h : d.con x = .opened ∧ (d.ctc.get x).auxClosed = true
  · obtain ⟨ho, haux⟩ := h
    have ht : d.takeHeld x = d.changeCon x ((d.ctc.get x).startOpen d.cfg.openPulse) .interlock := if_pos ⟨ho, haux, hy⟩
    have hctc : (d.takeHeld x).ctc = d.ctc.set x ((d.ctc.get x).startOpen d.cfg.openPulse) := by rw [ht, Dev.changeCon_ctc]
    refine ⟨?_, by rw [hctc, Ctc.get_set_other], ?_⟩
    · rw [hctc, Ctc.get_set_same, Contactor.heldTakenFrom, if_pos ⟨ho, haux⟩, Contactor.startOpen, haux]
    · rw [ht, Dev.changeCon_from_opened ho (by simp [Contactor.startOpen]) (by simp [Contactor.startOpen])]
      split
      · next hx => exact ⟨rfl, fun hn => absurd hx.1 hn⟩
      · exact ⟨rfl, fun _ => rfl⟩
  · have ht : d.takeHeld x = d := if_neg fun hn => h ⟨hn.1, hn.2.1⟩
    rw [ht]
    have h' : ¬((d.ctc.get x).state = .opened ∧ (d.ctc.get x).auxClosed = true) := h
    exact ⟨by rw [Contactor.heldTakenFrom, if_neg h'], rfl, rfl, fun _ => rfl⟩

theorem Channel.timedOut_eq (c : Channel) :
    c.timedOut = { c with
      state := if c.attempts = 3 then .spent else .backoff
      good := 0, timeout := none, held := false, watch := none
      backoff := if c.attempts = 3 then c.backoff else some 10000 } := by
  unfold Channel.timedOut
  split <;> rfl

/-- R100, R115: the attempt of a joining cell times out. Its channel is SPENT or in BACKOFF, so the test of ASSIGNED does not energise. -/
theorem Dev.cellTimeout_of_joining {d : Dev} (h : d.hoc.state = .joining) :
    d.cellTimeout.hoc.state = .assigned ∧ d.hoc.sameTable d.cellTimeout.hoc ∧ d.cellTimeout.syn.cell = d.syn.cell.timedOut ∧
      d.ntu.raisedTo d.cfg.enNonFatal .syncTimeout d.cellTimeout.ntu := by
  let d1 := (d.setCellCh d.syn.cell.timedOut).raise .syncTimeout
  obtain ⟨-, -, -, -, -, -, -, -, hsyn, hhoc, -⟩ := (d.setCellCh d.syn.cell.timedOut).raise_frame .syncTimeout
  have hj : d1.hoc.state = .joining := (congrArg Hoc.state hhoc).trans h
  have hrest : d.syn.cell.timedOut.leaveJoining = d.syn.cell.timedOut ∧ d.syn.cell.timedOut.state ≠ .idle := by
    rw [Channel.timedOut_eq, Channel.leaveJoining, Channel.running]
    split <;> simp
  have hcell : (d1.move .assigned).syn.cell = d.syn.cell.timedOut := by
    refine Eq.trans ?_ hrest.1
    simp only [Dev.move, Dev.setHoc_syn, Dev.setSyn_syn, Syn.enter, hj]
    exact congrArg (fun y : Syn => y.cell.leaveJoining) hsyn
  have hstay : (d1.move .assigned).energise = d1.move .assigned :=
    (Dev.energise_cases _).resolve_right fun ⟨_, hidle, _⟩ => hrest.2 (hcell ▸ hidle)
  have ht : d.cellTimeout = d1.move .assigned := (if_pos hj).trans hstay
  rw [ht]
  refine ⟨d1.move_state _, ?_, hcell, ?_⟩
  · have hsame := d1.move_sameTable .assigned
    rw [hhoc] at hsame
    exact hsame
  · rw [(d1.move_frame .assigned).2.2.2.2.2.2.2.2.2.1]
    exact Ntu.raise_raisedTo _ _ _

/-- R102, R111, R114, R115: the assigned contactor became OPEN. Of the notices only SYNC_TIMEOUT can be raised, for a held expiry. -/
theorem Dev.assignedOpened_effect (d : Dev) (old : CState) :
    let t := d.assignedOpened old
    let taken := d.hoc.state = .joining ∧ (d.syn.cell.state = .seeking ∨ d.syn.cell.state = .met) ∧ d.syn.cell.held = true
    d.seeksAfresh t ∧ (taken → d.ntu.raisedTo d.cfg.enNonFatal .syncTimeout t.ntu) ∧ (¬taken → t.ntu = d.ntu) := by
  by_cases hj : d.hoc.state = .joining
  · have ht : d.assignedOpened old = d.seekAfresh := by simp only [Dev.assignedOpened, hj]
    have hrun : d.syn.cell.running = true ↔ d.syn.cell.state = .seeking ∨ d.syn.cell.state = .met := by simp [Channel.running]
    rw [ht]
    by_cases hr : d.syn.cell.running = true
    · let d1 := d.setCellCh { d.syn.cell with state := .seeking, good := 0, watch := some 0 }
      by_cases hh : d.syn.cell.held = true
      · have hs : d.seekAfresh = d1.cellTimeout := (if_pos hr).trans (if_pos hh)
        obtain ⟨hst, ⟨hsame, -, -⟩, hcell, hntu⟩ := Dev.cellTimeout_of_joining (d := d1) hj
        rw [hs]
        exact ⟨fun _ _ => ⟨hsame, fun h => absurd hh (by simp [h]), fun _ => ⟨hst, hcell.trans (Channel.timedOut_eq _)⟩⟩,
          fun _ => hntu, fun h => absurd ⟨hj, hrun.1 hr, hh⟩ h⟩
      · have hs : d.seekAfresh = d1 := (if_pos hr).trans (if_neg hh)
        rw [hs]
        exact ⟨fun _ _ => ⟨rfl, fun _ => ⟨hj, rfl⟩, fun h => absurd h hh⟩, fun h => absurd h.2.2 hh, fun _ => rfl⟩
    · have hs : d.seekAfresh = d := if_neg hr
      rw [hs]
      exact ⟨fun _ h => absurd (hrun.2 h) hr, fun h => absurd (hrun.2 h.2.1) hr, fun _ => rfl⟩
  · refine ⟨fun h => absurd h hj, fun h => absurd h.1 hj, fun _ => ?_⟩
    unfold Dev.assignedOpened
    split
    · simp
    · split <;> simp
    · next h => exact absurd h hj
    · simp
    · rfl

theorem Dev.reassign_power (d : Dev) (x : Option Outlet) : (d.reassign x).msu.p = d.msu.p := by
  unfold Dev.reassign
  split <;> rfl

/-- A contactor that becomes OPEN leaves the power of the measurement unit, also where a leave ends with it (R6, R111). -/
theorem Dev.assignedOpened_power (d : Dev) (old : CState) : (d.assignedOpened old).msu.p = d.msu.p := by
  unfold Dev.assignedOpened Dev.completeLeave Dev.applyDestination
  (repeat' split) <;> simp [Dev.reassign_power]

/-- R102, R111, R112, R114, R115: a record at the end of an operation becomes OPEN, and its change is handed out. -/
theorem Dev.changeCon_opened_effect {d : Dev} {x : Outlet} (hc : d.con x = .closing ∨ d.con x = .opening) :
    let t := d.changeCon x ((d.ctc.get x).rest .opened) .handover
    t = { d with ctc := d.ctc.set x (restingAt .opened (d.ctc.get x).auxClosed), msu := t.msu, syu := t.syu, syn := t.syn, hoc := t.hoc,
                 ntu := t.ntu } ∧
      t.msu.p = d.msu.p ∧ (d.hoc.assignment = some x → d.seeksAfresh t) ∧ d.heldTimeoutRaised x t := by
  let d1 := d.setCon x ((d.ctc.get x).rest .opened)
  have hcon : d1.con x = .opened := d.con_setCon_same x _
  have hne : d1.con x ≠ d.con x := by rw [hcon]; rcases hc with h | h <;> simp [h]
  intro t
  by_cases hx : d.hoc.assignment = some x
  · have ht : t = d1.assignedOpened (d.con x) := by
      have h := Dev.conChanged_of_assigned (d := d1) hx hne (by rcases hc with h | h <;> simp [h]) .handover
      rw [hcon] at h
      refine h.trans ?_
      rcases hc with hc | hc <;> simp [Dev.assignedChanged, hc]
    obtain ⟨hseek, htaken, hnot⟩ := d1.assignedOpened_effect (d.con x)
    obtain ⟨hrun, hpins, hcfg, hlnk, hptb, hctc, hmtr, hrst, hfree⟩ := d1.assignedOpened_frame (d.con x)
    rw [ht]
    refine ⟨?_, d1.assignedOpened_power _, fun _ => hseek, fun h => htaken h.2, fun h => hnot fun h2 => h ⟨hx, h2⟩⟩
    simp only [d1, Dev.setCon_frame] at hrun hpins hcfg hlnk hptb hmtr hrst hfree
    rw [← hrun, ← hpins, ← hcfg, ← hlnk, ← hptb, ← hmtr, ← hrst, ← hfree, ← Contactor.rest_eq,
      show d.ctc.set x ((d.ctc.get x).rest .opened) = (d1.assignedOpened (d.con x)).ctc from hctc.symm]
  · have ht : t = d1 ∨ t = d1.energise := Dev.conChanged_of_unassigned (d := d1) hx _ _
    obtain ⟨hrun, hpins, hcfg, hlnk, hptb, hmsu, hctc, hmtr, hrst, hntu, hfree⟩ := d1.energise_frame
    refine ⟨?_, ?_, fun h => absurd h hx, fun h => absurd h.1 hx, fun _ => ?_⟩
    · rcases ht with ht | ht
      · rw [ht]; rfl
      · simp only [d1, Dev.setCon_frame] at hrun hpins hcfg hlnk hptb hmtr hrst hfree
        rw [ht, ← hrun, ← hpins, ← hcfg, ← hlnk, ← hptb, ← hmtr, ← hrst, ← hfree, ← Contactor.rest_eq,
          show d.ctc.set x ((d.ctc.get x).rest .opened) = d1.energise.ctc from hctc.symm]
    · rcases ht with ht | ht
      · rw [ht]; rfl
      · rw [ht, hmsu]; rfl
    · rcases ht with ht | ht
      · rw [ht]; rfl
      · rw [ht, hntu]; rfl

/-- R75, R80, R102: a record becomes OPEN at the end of an operation, and a held closure of the other record is then taken. -/
theorem Dev.becomeOpen_effect {d : Dev} {x : Outlet} (hc : d.con x = .closing ∨ d.con x = .opening) :
    let t := d.becomeOpen x .handover
    t.ctc.get x = restingAt .opened (d.ctc.get x).auxClosed ∧
      (d.ctc.get (otherOutlet x)).heldTakenFrom d.cfg.openPulse (t.ctc.get (otherOutlet x)) ∧
      t = { d with ctc := t.ctc, msu := t.msu, syu := t.syu, syn := t.syn, hoc := t.hoc, ntu := t.ntu } ∧
      t.msu.p = d.msu.p ∧ (d.hoc.assignment = some x → d.seeksAfresh t) ∧ d.heldTimeoutRaised x t := by
  obtain ⟨ho, hpower, hseek, hraised⟩ := Dev.changeCon_opened_effect hc
  generalize hd1 : d.changeCon x ((d.ctc.get x).rest .opened) .handover = d1 at ho hpower hseek hraised
  have hctc : d1.ctc = d.ctc.set x (restingAt .opened (d.ctc.get x).auxClosed) := by rw [ho]
  have hx : d1.ctc.get x = restingAt .opened (d.ctc.get x).auxClosed := by rw [hctc, Ctc.get_set_same]
  have hy : d1.ctc.get (otherOutlet x) = d.ctc.get (otherOutlet x) := by rw [hctc, Ctc.get_set_other]
  have hback : d1.con (otherOutlet (otherOutlet x)) = .opened := by rw [otherOutlet_twice, Dev.con, hx]; rfl
  obtain ⟨hheld, hother, heq, hsyn⟩ := Dev.takeHeld_effect hback
  rw [otherOutlet_twice, hx] at hother
  have hcfg : d1.cfg = d.cfg := by rw [ho]
  rw [hy, hcfg] at hheld
  have ht : d.becomeOpen x .handover = d1.takeHeld (otherOutlet x) := by rw [← hd1]; rfl
  rw [ht]
  have hhoc : (d1.takeHeld (otherOutlet x)).hoc = d1.hoc := by rw [heq]
  have hntu : (d1.takeHeld (otherOutlet x)).ntu = d1.ntu := by rw [heq]
  refine ⟨hother, hheld, ?_, ?_, fun hax hj hr => ?_, fun h => ?_, fun h => ?_⟩
  · generalize d1.takeHeld (otherOutlet x) = t at heq
    rw [heq, ho]
  · rw [heq]; exact hpower
  · obtain ⟨hassign, hnot, htaken⟩ := hseek hax hj hr
    rw [hhoc, hsyn (by rw [hassign, hax]; simpa using (otherOutlet_ne x).symm)]
    exact ⟨hassign, hnot, htaken⟩
  · rw [hntu]; exact hraised.1 h
  · rw [hntu]; exact hraised.2 h

/-! ### The failed close and the failed open (R76, R78, R84, R102) -/

/-- R76, R84, R102: a failed close returns the record to OPEN, raises CLOSE_FAIL after that change and requests its EVENT record. -/
theorem Dev.closeFailed_effect {d : Dev} {x : Outlet} (hc : d.con x = .closing) :
    let t := d.closeFailed x
    t.ctc.get x = restingAt .opened (d.ctc.get x).auxClosed ∧
      (d.ctc.get (otherOutlet x)).heldTakenFrom d.cfg.openPulse (t.ctc.get (otherOutlet x)) ∧
      (d.hoc.assignment = some x → d.seeksAfresh t) ∧
      t.ntu.entry .closeFail = ⟨true, min 255 ((d.ntu.entry .closeFail).count + 1)⟩ ∧
      d.eventTaken ⟨none, some x, t.con .a, t.con .b, d.hoc.state, d.msu.p, d.mtr.membership.map Membership.id, d.mtr.stamp⟩ t := by
  obtain ⟨hx, hheld, heq, hpower, hseek, -⟩ := Dev.becomeOpen_effect (.inl hc)
  generalize hd1 : d.becomeOpen x .handover = d1 at hx hheld heq hpower hseek
  let d2 := d1.raise .closeFail
  let e := d2.eventOf none (some x) d.hoc.state
  have ht : d.closeFailed x = d2.requestEvent e := by rw [Dev.closeFailed, hd1]
  obtain ⟨-, -, -, -, -, -, -, hctc, hsyn, hhoc, -⟩ := d2.requestEvent_frame e
  obtain ⟨-, -, -, -, -, hmsu2, -, hctc2, hsyn2, hhoc2, hmtr2, hrst2, -⟩ := d1.raise_frame .closeFail
  have hcount : d1.ntu.entry .closeFail = d.ntu.entry .closeFail := by rw [← hd1]; simp
  rw [ht]
  refine ⟨by rw [hctc, hctc2]; exact hx, by rw [hctc, hctc2]; exact hheld, fun hax hj hr => ?_, ?_, ?_⟩
  · have hcell := hseek hax hj hr
    rw [hsyn, hsyn2, hhoc, hhoc2]
    exact hcell
  · rw [Dev.requestEvent_entry _ _ _ (by decide), Dev.raise_own, hcount]
  · obtain ⟨htaken, -⟩ := d2.requestEvent_eventTaken e
    have hmtr : d2.mtr = d.mtr := by rw [hmtr2, heq]
    have hrst : d2.rst = d.rst := by rw [hrst2, heq]
    have hrun : d2.run = d.run := by rw [Dev.raise_frame d1 .closeFail |>.1, heq]
    have hevent : d2.completed e = ⟨none, some x, (d2.requestEvent e).con .a, (d2.requestEvent e).con .b, d.hoc.state, d.msu.p,
        d.mtr.membership.map Membership.id, d.mtr.stamp⟩ := by
      rw [Dev.completed, Dev.con, Dev.con, hctc, hmtr, ← hpower, ← hmsu2]
      rfl
    rw [← hevent]
    unfold Dev.eventTaken at htaken ⊢
    rwa [hmtr, hrst, hrun] at htaken

/-- R78: a failed open leaves the record WELDED, raises OPEN_FAIL and trips. -/
theorem Dev.openFailed_effect {d : Dev} {x : Outlet} (hc : d.con x = .opening) :
    let t := d.openFailed x
    t.ctc.get x = restingAt .welded (d.ctc.get x).auxClosed ∧
      (d.ctc.get (otherOutlet x)).openRequestedFrom d.cfg.openPulse (t.ctc.get (otherOutlet x)) ∧
      t.ntu.entry .openFail = ⟨true, min 255 ((d.ntu.entry .openFail).count + 1)⟩ ∧
      t.hoc.state = .tripped ∧ d.hoc.droppedFrom t.hoc ∧ d.syu.haltedFrom t.syu ∧ t.msu = d.msu := by
  let c := (d.ctc.get x).rest .welded
  have hwelded : d.changeCon x c .handover = d.setCon x c := by
    have hcon : (d.setCon x c).con x = .welded := d.con_setCon_same x c
    rw [Dev.changeCon, hc]
    by_cases hx : d.hoc.assignment = some x
    · rw [Dev.conChanged_of_assigned (d := d.setCon x c) hx (by rw [hcon]; decide) (by decide), hcon]
      simp [Dev.assignedChanged]
    · exact Dev.conChanged_of_unassigned_con_ne (d := d.setCon x c) hx (by rw [hcon]; decide) _ _
  let d1 := (d.setCon x c).raise .openFail
  have ht : d.openFailed x = d1.trip .openFail (some x) := by rw [Dev.openFailed, hwelded]
  obtain ⟨hst, hdrop, hhalt, -, -, -, -, -, -, -, hmsu, -⟩ := d1.trip_effect .openFail (some x)
  have hctc : (d1.trip .openFail (some x)).ctc = (d.ctc.set x c).tripped d.cfg.openPulse := d1.trip_ctc _ _
  have hget (z : Outlet) : ((d.ctc.set x c).tripped d.cfg.openPulse).get z = ((d.ctc.set x c).get z).openRequested d.cfg.openPulse := by
    cases z <;> rfl
  rw [ht]
  refine ⟨?_, ?_, ?_, hst, hdrop, hhalt, hmsu⟩
  · rw [hctc, hget, Ctc.get_set_same]
    rfl
  · rw [hctc, hget, Ctc.get_set_other]
    exact Contactor.openRequested_from _ _
  · rw [Dev.trip_entry _ _ _ _ (by decide) (by decide), Dev.raise_own]
    rfl

end Sys2Proof.Machine

/-! ### The three timers -/

namespace Sys2Proof.Machine

theorem exec_coilPulseTimerExpiry_up {s : State} (h : s.dev.awake) (x : Outlet) :
    exec (.coilPulseTimerExpiry x) s = .next (s.onDev (Dev.pulseEnd x)) := State.run_up h _

theorem exec_confirmTimerExpiry_up {s : State} (h : s.dev.awake) (x : Outlet) :
    exec (.confirmTimerExpiry x) s = .next (s.onDev (Dev.confirmEnd x)) := State.run_up h _

theorem exec_retryGapExpiry_up {s : State} (h : s.dev.awake) (x : Outlet) :
    exec (.retryGapExpiry x) s = .next (s.onDev (Dev.gapEnd x)) := State.run_up h _

section
variable {d : Dev} {x : Outlet}

/-- R75, R78: what the end of a coil pulse does, by the operation and the auxiliary level. -/
theorem Dev.pulseEnd_of_pulse (hp : (d.ctc.get x).phase = .pulse) (ht : (d.ctc.get x).pulseTimer ≠ none) :
    d.pulseEnd x =
      (if (d.ctc.get x).state = .closing then
        if (d.ctc.get x).auxClosed = true then d.becomeClosed x else d.setCon x ((d.ctc.get x).toConfirm d.cfg.confirmTime)
      else if (d.ctc.get x).state = .opening then
        if (d.ctc.get x).auxClosed = true then d.setCon x ((d.ctc.get x).toConfirm d.cfg.confirmTime) else d.becomeOpen x .handover
      else d) := if_pos ⟨hp, Option.isSome_iff_ne_none.2 ht⟩

/-- R76, R78: what the expiry of a confirm timer does, by the operation and the retry. -/
theorem Dev.confirmEnd_of_confirm (hp : (d.ctc.get x).phase = .confirm) (ht : (d.ctc.get x).confirmTimer ≠ none) :
    d.confirmEnd x =
      (if (d.ctc.get x).state = .closing then
        if (d.ctc.get x).retry = true then d.closeFailed x else d.setCon x (d.ctc.get x).toGap
      else if (d.ctc.get x).state = .opening then
        if (d.ctc.get x).retry = true then d.openFailed x else d.setCon x (d.ctc.get x).toGap
      else d) := if_pos ⟨hp, Option.isSome_iff_ne_none.2 ht⟩

/-- R76, R78: the end of the retry gap starts the second pulse of the operation in flight. -/
theorem Dev.gapEnd_of_gap (hp : (d.ctc.get x).phase = .gap) (ht : (d.ctc.get x).pulseTimer ≠ none)
    (hm : (d.ctc.get x).state = .closing ∨ (d.ctc.get x).state = .opening) :
    d.gapEnd x = d.setCon x ((d.ctc.get x).secondPulse d.cfg) := if_pos ⟨hp, Option.isSome_iff_ne_none.2 ht, hm⟩

theorem Dev.pulseEnd_of_not_due
    (h : (d.ctc.get x).phase ≠ .pulse ∨ (d.ctc.get x).pulseTimer = none ∨
      ¬((d.ctc.get x).state = .closing ∨ (d.ctc.get x).state = .opening)) :
    d.pulseEnd x = d := by
  by_cases hdue : (d.ctc.get x).phase = .pulse ∧ (d.ctc.get x).pulseTimer.isSome
  · obtain ⟨hp, ht⟩ := hdue
    have ht := Option.isSome_iff_ne_none.1 ht
    have hm := not_or.1 ((h.resolve_left (not_not.2 hp)).resolve_left ht)
    rw [Dev.pulseEnd_of_pulse hp ht, if_neg hm.1, if_neg hm.2]
  · exact if_neg hdue

theorem Dev.confirmEnd_of_not_due
    (h : (d.ctc.get x).phase ≠ .confirm ∨ (d.ctc.get x).confirmTimer = none ∨
      ¬((d.ctc.get x).state = .closing ∨ (d.ctc.get x).state = .opening)) :
    d.confirmEnd x = d := by
  by_cases hdue : (d.ctc.get x).phase = .confirm ∧ (d.ctc.get x).confirmTimer.isSome
  · obtain ⟨hp, ht⟩ := hdue
    have ht := Option.isSome_iff_ne_none.1 ht
    have hm := not_or.1 ((h.resolve_left (not_not.2 hp)).resolve_left ht)
    rw [Dev.confirmEnd_of_confirm hp ht, if_neg hm.1, if_neg hm.2]
  · exact if_neg hdue

theorem Dev.gapEnd_of_not_due
    (h : (d.ctc.get x).phase ≠ .gap ∨ (d.ctc.get x).pulseTimer = none ∨
      ¬((d.ctc.get x).state = .closing ∨ (d.ctc.get x).state = .opening)) :
    d.gapEnd x = d := by
  refine if_neg fun hdue => ?_
  simp_all

end

/-- Settles O46, by the phase and the state of the record. -/
theorem coilTimersDriveTheOperation : Obligations.CoilTimersDriveTheOperation := by
  intro s x h c y put moving
  have hput (v : Contactor) : put v = .next { s with dev := s.dev.setCon x v } := rfl
  have hclosing (hs : c.state = .opening) : (s.dev.ctc.get x).state ≠ .closing := fun hn => by cases hn.symm.trans hs
  have hopen {b : Bool} (hb : b = false) : ¬b = true := by simp [hb]
  rw [exec_coilPulseTimerExpiry_up h, exec_confirmTimerExpiry_up h, exec_retryGapExpiry_up h]
  refine ⟨fun hn => ?_, fun hn => ?_, fun hn => ?_, fun hp ht => ⟨fun hs => ?_, fun hs haux => ?_, fun hs haux => ?_⟩,
    fun hp ht hm => ⟨fun hr => ?_, fun hr hs => ?_, fun hr hs => ?_⟩, fun hp ht => ⟨fun hs => ?_, fun hs => ?_⟩⟩
  · rw [State.onDev_eq_self (Dev.pulseEnd_of_not_due hn)]
  · rw [State.onDev_eq_self (Dev.confirmEnd_of_not_due hn)]
  · rw [State.onDev_eq_self (Dev.gapEnd_of_not_due hn)]
  · have hd : s.dev.pulseEnd x = s.dev.setCon x (c.toConfirm s.dev.cfg.confirmTime) := by
      rw [Dev.pulseEnd_of_pulse hp ht]
      rcases hs with ⟨hs, haux⟩ | ⟨hs, haux⟩
      · rw [if_pos hs, if_neg (hopen haux)]
      · rw [if_neg (hclosing hs), if_pos hs, if_pos haux]
    rw [hput, State.onDev, hd]
    rfl
  · have hd : s.dev.pulseEnd x = s.dev.becomeClosed x := by
      rw [Dev.pulseEnd_of_pulse hp ht, if_pos hs, if_pos haux]
    obtain ⟨hctc, heq, hjoined, hother⟩ := Dev.becomeClosed_effect (d := s.dev) (x := x) hs
    refine ⟨_, rfl, rfl, ?_⟩
    rw [State.onDev, hd]
    refine ⟨?_, ?_, heq, hjoined, fun hx => ⟨?_, ?_⟩⟩
    · rw [hctc, Ctc.get_set_same, show (s.dev.ctc.get x).auxClosed = true from haux]
    · rw [hctc, Ctc.get_set_other]
    · rw [hother hx]
    · rw [hother hx]
  · have hd : s.dev.pulseEnd x = s.dev.becomeOpen x .handover := by
      rw [Dev.pulseEnd_of_pulse hp ht, if_neg (hclosing hs), if_pos hs, if_neg (hopen haux)]
    obtain ⟨hx, hheld, heq, -, hseek, hraised⟩ := Dev.becomeOpen_effect (d := s.dev) (x := x) (.inr hs)
    refine ⟨_, rfl, rfl, ?_⟩
    rw [State.onDev, hd]
    exact ⟨haux ▸ hx, hheld, heq, hseek, hraised⟩
  · have hd : s.dev.confirmEnd x = s.dev.setCon x c.toGap := by
      rw [Dev.confirmEnd_of_confirm hp ht]
      rcases hm with hs | hs
      · rw [if_pos hs, if_neg (hopen hr)]
      · rw [if_neg (hclosing hs), if_pos hs, if_neg (hopen hr)]
    rw [hput, State.onDev, hd]
    rfl
  · have hd : s.dev.confirmEnd x = s.dev.closeFailed x := by
      rw [Dev.confirmEnd_of_confirm hp ht, if_pos hs, if_pos hr]
    obtain ⟨hx, hheld, hseek, hntu, hevent⟩ := Dev.closeFailed_effect (d := s.dev) (x := x) hs
    obtain ⟨hrun, -, hcfg, hlnk, hptb, -⟩ := s.dev.closeFailed_frame x
    refine ⟨_, rfl, rfl, ?_⟩
    rw [State.onDev, hd]
    exact ⟨hx, hheld, hseek, hntu, hcfg, hlnk, hptb, hrun, s.dev.closeFailed_mem x, hevent⟩
  · have hd : s.dev.confirmEnd x = s.dev.openFailed x := by
      rw [Dev.confirmEnd_of_confirm hp ht, if_neg (hclosing hs), if_pos hs, if_pos hr]
    obtain ⟨hx, hopens, hntu, hst, hdrop, hhalt, hmsu⟩ := Dev.openFailed_effect (d := s.dev) (x := x) hs
    obtain ⟨hrun, -, hcfg, hlnk, hptb⟩ := s.dev.openFailed_frame x
    refine ⟨_, rfl, rfl, ?_⟩
    rw [State.onDev, hd]
    exact ⟨hx, hopens, hntu, hst, hdrop, hhalt, hcfg, hlnk, hptb, hrun, hmsu, s.dev.openFailed_mem x⟩
  · rw [hput, State.onDev, Dev.gapEnd_of_gap hp ht (.inl hs), Contactor.secondPulse, if_pos hs]
    exact congrArg _ (congrArg _ (congrArg (s.dev.setCon x) (by rw [← hs])))
  · rw [hput, State.onDev, Dev.gapEnd_of_gap hp ht (.inr hs), Contactor.secondPulse, if_neg (hclosing hs)]
    exact congrArg _ (congrArg _ (congrArg (s.dev.setCon x) (by rw [← hs])))

end Sys2Proof.Machine

/-! # The beginning of a link cycle and the superframe boundary (O17; R30, R31, R37 to R40, R111, R117, R118, R122 to R124) -/

/-! ### What every beginning of a cycle leaves -/

namespace Sys2Proof.Machine

/-- A start of a close operation reaches the records and at most the watch of the cell channel (R75, R102). -/
theorem Dev.startClose_keeps {d : Dev} {x : Outlet} (h : d.con x = .opened) :
    (d.startClose x).msu = d.msu ∧ (d.startClose x).mtr = d.mtr ∧ (d.startClose x).rst = d.rst ∧ (d.startClose x).ntu = d.ntu := by
  rw [Dev.startClose, Dev.changeCon_from_opened h (by simp [Contactor.startClose]) (by simp [Contactor.startClose])]
  split <;> exact ⟨rfl, rfl, rfl, rfl⟩

/-- R113, R114: the judgement of a forming claim reaches no block but the contactors, the synthesis unit, the synchroniser and the
handover controller. -/
theorem Dev.judgeForming_keeps (d : Dev) :
    d.judgeForming.msu = d.msu ∧ d.judgeForming.mtr = d.mtr ∧ d.judgeForming.rst = d.rst ∧ d.judgeForming.ntu = d.ntu := by
  unfold Dev.judgeForming
  split
  · exact ⟨rfl, rfl, rfl, rfl⟩
  · next x _ =>
    split
    · next hform =>
      split
      · simp
      · split
        · dsimp only
          split
          · unfold Dev.formingClose
            split
            · exact Dev.startClose_keeps (d := d.setHoc _) hform.2
            · simp
          · exact ⟨rfl, rfl, rfl, rfl⟩
        · exact ⟨rfl, rfl, rfl, rfl⟩
    · exact ⟨rfl, rfl, rfl, rfl⟩

theorem Dev.hocCycle_keeps (d : Dev) :
    d.hocCycle.msu = d.msu ∧ d.hocCycle.mtr = d.mtr ∧ d.hocCycle.rst = d.rst ∧ d.hocCycle.ntu = d.ntu := by
  simp [Dev.hocCycle, d.judgeForming_keeps]

/-- R40, R42, R45, R48, R56, R133, R171: the blocks that the beginning of a cycle writes, and those it never touches. -/
theorem Dev.beginCycle_keeps (d : Dev) (n : Nat) :
    let t := d.beginCycle n
    t.lnk = d.lnk.begun n ∧ t.mtr = d.mtr.tick ∧ t.ntu = d.ntu.tick ∧ t.pins = d.pins ∧ t.msu = d.msu ∧ t.rst = d.rst := by
  simp only [Dev.beginCycle]
  split <;> simp [Dev.hocCycle_keeps]

end Sys2Proof.Machine

/-! ### A member with a steady claim and state -/

namespace Sys2Proof.Machine

/-- The part at a cycle beginning that moves neither a claim nor a state: the blocks' counts, and the handover controller's join ticks,
lead count and record of the forming claim. -/
def Dev.cycleBegun (n k : Nat) (d : Dev) : Dev :=
  { d with
    lnk := d.lnk.begun n, mtr := d.mtr.tick, ntu := d.ntu.tick
    hoc := { d.hoc with joinTicks := d.hoc.joinTicks + 1, leadCount := k, claimCarried := false } }

section
variable {d : Dev} {x : Outlet} (hx : d.hoc.assignment = some x)
include hx

theorem Dev.ownMember_iff : d.ownMember = true ↔ d.con x = .closed := by
  simp [Dev.ownMember, Dev.ownCon, hx]

theorem Dev.judgeLead_of_steady (hs : d.steady x) : ∃ k, d.judgeLead = d.setHoc { d.hoc with leadCount := k } := by
  rcases hs with ⟨hl, hrank⟩ | ⟨hl, hrank, -⟩
  · have hnone : ¬((d.ptb.leadClaimants x).any fun c => decide (c.1 < d.cfg.station)) = true := by
      simpa using hrank
    have hsame : d.judgeLead = d := by simp only [Dev.judgeLead, hx, hl, if_true, if_neg hnone]
    exact ⟨d.hoc.leadCount, hsame⟩
  · exact ⟨0, by simp [Dev.judgeLead, hx, hl, hrank]⟩

theorem Dev.follow_of_steady (hs : d.steady x) : d.follow = d := by
  rcases hs with ⟨hl, -⟩ | ⟨hl, -, hfollow⟩
  · exact if_pos hl
  · have hnone : (d.hoc.assignment.bind d.ptb.leadState).bind (followMove d.hoc.state) = none := by
      rw [hx]
      cases hlead : d.ptb.leadState x with
      | none => simp [hlead]
      | some l => simp [hlead, hfollow l hlead]
    rw [Dev.follow, hnone]
    split <;> rfl

/-- R113, R117, R118: with the lead claim and the announced state steady, the handover controller only counts. -/
theorem Dev.hocCycle_of_steady (hs : d.steady x) (hst : d.hoc.state.isMember = true ∨ d.hoc.state = .leaving) :
    ∃ k, d.hocCycle = d.setHoc { d.hoc with leadCount := k } := by
  have hforming : d.hoc.state ≠ .forming := by rintro h; rw [h] at hst; exact absurd hst (by decide)
  have hassigned : d.hoc.state ≠ .assigned := by rintro h; rw [h] at hst; exact absurd hst (by decide)
  obtain ⟨k, hk⟩ := Dev.judgeLead_of_steady hx hs
  have hjudge : d.judgeForming = d := by simp only [Dev.judgeForming, hx, hforming, false_and, if_false]
  have hfollow : (d.setHoc { d.hoc with leadCount := k }).follow = d.setHoc { d.hoc with leadCount := k } :=
    Dev.follow_of_steady (x := x) hx hs
  refine ⟨k, ?_⟩
  rw [Dev.hocCycle, hjudge, hk, hfollow, Dev.energiseDead,
    Dev.energise_of_not_assigned (d := d.setHoc { d.hoc with leadCount := k }) hassigned, ite_self]

theorem Dev.beginCycle_of_steady (hc : d.con x = .closed) (hs : d.steady x)
    (hst : d.hoc.state.isMember = true ∨ d.hoc.state = .leaving) (n : Nat) :
    ∃ k, d.beginCycle n = (if n % 8 = 0 then (d.cycleBegun n k).superframe else d.cycleBegun n k) := by
  let d1 := ((d.setLnk (d.lnk.begun n)).setMtr d.mtr.tick).setNtu d.ntu.tick
  let d2 := d1.setHoc { d1.hoc with joinTicks := d1.hoc.joinTicks + 1 }
  have hm : d1.ownMember = true := Dev.ownMember_iff (d := d1) hx |>.2 hc
  obtain ⟨k, hk⟩ := Dev.hocCycle_of_steady (d := d2) (x := x) hx hs hst
  refine ⟨k, ?_⟩
  have htick : d1.joinTick = d2 := if_pos hm
  have hbegun : d1.joinTick.hocCycle.claimForgotten = d.cycleBegun n k := by rw [htick, hk]; rfl
  simp only [Dev.beginCycle]
  rw [show ((((d.setLnk (d.lnk.begun n)).setMtr d.mtr.tick).setNtu d.ntu.tick).joinTick).hocCycle.claimForgotten = d.cycleBegun n k from
    hbegun]

end

end Sys2Proof.Machine

/-! ### The writes of the superframe boundary (R30, R31, R37 to R39) -/

namespace Sys2Proof.Machine

/-- The synthesis unit after a relative write to the ramp offset limited to a step (R30, R31). -/
def Syu.rampedBy (s : Syu) (step x : Int) : Syu := { s with fRamp := max (-3000) (min 3000 (s.fRamp + s.steered step x)) }

theorem Syu.suppressed_iff (s : Syu) : s.suppressed = true ↔ s.puAtLimit = true ∨ s.clamp = .upper := by
  simp [Syu.suppressed]

/-- A write that is suppressed, or of 0, leaves an offset that is in its range as it is. -/
theorem Syu.rampedBy_of_zero {s : Syu} (hb : s.bounded) {step x : Int} (h : s.steered step x = 0) : s.rampedBy step x = s := by
  obtain ⟨⟨hlo, hhi⟩, -⟩ := hb
  have hkeep : max (-3000) (min 3000 (s.fRamp + s.steered step x)) = s.fRamp := by omega
  rw [Syu.rampedBy, hkeep]

/-- R30, R31: a listed relative write of a member. -/
theorem Dev.rampBy_eq {d : Dev} {w : Writer} (hw : w.listed d.hoc.state = true) (hm : d.ownMember = true) (hb : d.syu.bounded)
    (step x : Int) : d.rampBy w (max (-step) (min step x)) = d.setSyu (d.syu.rampedBy step x) := by
  by_cases hsup : 0 < max (-step) (min step x) ∧ (d.syu.puAtLimit = true ∨ d.syu.clamp = .upper)
  · have hzero : d.syu.steered step x = 0 := if_pos hsup
    have hoff : d.rampBy w (max (-step) (min step x)) = d := by
      refine if_neg ?_
      simp [hw, hm, hsup.1, d.syu.suppressed_iff.2 hsup.2]
    rw [hoff, Syu.rampedBy_of_zero hb hzero]
    rfl
  · have hdelta : d.syu.steered step x = max (-step) (min step x) := if_neg hsup
    rw [Syu.rampedBy, hdelta]
    rw [← d.syu.suppressed_iff] at hsup
    generalize max (-step) (min step x) = delta at hsup ⊢
    refine if_pos ?_
    by_cases hpos : 0 < delta
    · simpa [hw, hm, hpos] using hsup
    · simp [hw, hm, hpos]

/-- A writer that leaves a write of 0 out does the same. -/
theorem Dev.rampBy_unless_zero {d : Dev} {w : Writer} (hw : w.listed d.hoc.state = true) (hm : d.ownMember = true)
    (hb : d.syu.bounded) (step x : Int) :
    (if clampInt (-step) step x = 0 then d else d.rampBy w (clampInt (-step) step x)) = d.setSyu (d.syu.rampedBy step x) := by
  split
  · next hzero =>
    have hnone : d.syu.steered step x = 0 := by
      unfold clampInt at hzero
      rw [Syu.steered, hzero]
      simp
    rw [Syu.rampedBy_of_zero hb hnone]
    rfl
  · exact Dev.rampBy_eq hw hm hb step x

/-- R38, R39: outside mode ISLAND, or with the run flag clear, the synthesis unit makes no restoration write. -/
theorem Dev.restore_of_not_due {d : Dev} (h : d.syu.mode ≠ .island ∨ d.syu.run = false) : d.restore = d := by
  unfold Dev.restore
  split
  · rfl
  · refine if_neg ?_
    rintro ⟨hm, hr, -⟩
    exact h.elim (fun hn => hn hm) fun hn => by rw [hn] at hr; cases hr

/-- R38: the restoration write of a cell of the share set in ISLAND. -/
theorem Dev.restore_of_due {d : Dev} {x : Outlet} (hx : d.hoc.assignment = some x) (hc : d.con x = .closed)
    (hst : d.hoc.state.mode = .island) (hm : d.syu.mode = .island) (hr : d.syu.run = true) (hl : d.hoc.leave = none)
    (hb : d.syu.bounded) :
    d.restore =
      d.setSyu (d.syu.rampedBy d.cfg.rampStep
        (tdiv (d.cfg.dF * tdiv (((d.ptb.sharers x).map (fun c => c.2.2.pu)).sum + d.msu.pu)
          (((d.ptb.sharers x).map (fun c => c.2.2.pu)).length + 1)) 10000 - d.syu.fRamp)) := by
  have hshare : d.inShare x = true := (d.inShare_iff x).2 ⟨hc, hl⟩
  have hlisted : Writer.restoration.listed d.hoc.state = true := by simp [Writer.listed, hst]
  have hmember : d.ownMember = true := (Dev.ownMember_iff hx).2 hc
  have htarget : d.restorationTarget x =
      tdiv (d.cfg.dF * tdiv (((d.ptb.sharers x).map (fun c => c.2.2.pu)).sum + d.msu.pu)
        (((d.ptb.sharers x).map (fun c => c.2.2.pu)).length + 1)) 10000 := by
    simp only [Dev.restorationTarget, Dev.puAvg, List.length_map]
  rw [← htarget, ← Dev.rampBy_unless_zero hlisted hmember hb d.cfg.rampStep (d.restorationTarget x - d.syu.fRamp)]
  simp only [Dev.restore, hx, hm, hr, hshare, and_self, if_true]

/-! ### The boundary steps of the handover controller (R111, R122 to R124) -/

/-- R111: the boundary in LEAVING. -/
theorem Dev.leavingStep_eq {d : Dev} (hm : d.ownMember = true) (hst : d.hoc.state = .leaving) (hb : d.syu.bounded) :
    d.leavingStep =
      (d.setSyu (d.syu.rampedBy d.cfg.rampStep (-d.cfg.rampStep))).setHoc
        { d.hoc with lowLoad := if d.msu.p.natAbs * 20 ≤ d.cfg.rating then some (d.hoc.lowLoad.getD 500) else none } := by
  have hwrite := Dev.rampBy_eq (w := .hocStep) (by rw [hst]; rfl) hm hb d.cfg.rampStep (-d.cfg.rampStep)
  have hstep : max (-(d.cfg.rampStep : Int)) (min d.cfg.rampStep (-d.cfg.rampStep)) = -d.cfg.rampStep := by omega
  rw [hstep] at hwrite
  simp only [Dev.leavingStep, hm, if_true, hwrite, runWhile, Dev.lowLoadNow, decide_eq_true_eq]
  rfl

theorem Dev.loadAboveRelease_iff {d : Dev} {x : Outlet} (hx : d.hoc.assignment = some x) (v : ShipFacts) :
    d.loadAboveRelease v = true ↔ ∃ r, (d.hoc.session x).map Session.release = some r ∧ (r : Int) < v.load := by
  have hlevel : d.releaseLevel = (d.hoc.session x).map Session.release := by simp [Dev.releaseLevel, Hoc.ownSession, hx]
  rw [Dev.loadAboveRelease, hlevel]
  cases (d.hoc.session x).map Session.release <;> simp

/-- R122: the boundary in PARALLEL_UP with a ship view: the up-step, the progress test and the low-generator timer. -/
theorem Dev.upBoundary_eq {d : Dev} {v : ShipFacts} (hv : d.ownView = some v) :
    d.upBoundary = (d.upStep v).setHoc
      { d.hoc.progressTest v.load with lowGen := runWhile (!d.loadAboveRelease v) 2000 d.hoc.lowGen } := by
  have hhoc : (d.upStep v).hoc = d.hoc := by
    unfold Dev.upStep
    split <;> simp
  have hload : (d.upStep v).loadAboveRelease v = d.loadAboveRelease v := by
    simp only [Dev.loadAboveRelease, Dev.releaseLevel, hhoc]
  have hlow : (d.hoc.progressTest v.load).lowGen = d.hoc.lowGen := by
    unfold Hoc.progressTest
    (repeat' split) <;> rfl
  simp only [Dev.upBoundary, hv, hhoc, hload, hlow]

/-- R122: the up-step is made while the ramp is not done, the limit flag is clear and the load stands above the release level. -/
theorem Dev.upStep_eq {d : Dev} {v : ShipFacts} (hm : d.ownMember = true) (hst : d.hoc.state = .parallelUp) (hb : d.syu.bounded) :
    d.upStep v =
      (if d.hoc.rampDone = false ∧ d.syu.limit = false ∧ d.loadAboveRelease v = true then
        d.setSyu (d.syu.rampedBy d.cfg.rampStep d.cfg.rampStep) else d) := by
  have hwrite := Dev.rampBy_eq (w := .hocStep) (by rw [hst]; rfl) hm hb d.cfg.rampStep d.cfg.rampStep
  have hstep : max (-(d.cfg.rampStep : Int)) (min d.cfg.rampStep d.cfg.rampStep) = d.cfg.rampStep := by omega
  rw [hstep] at hwrite
  rw [Dev.upStep, hwrite]
  simp [and_assoc]

/-- R122: the progress test writes the timer and the lowest load alone. -/
theorem Hoc.progressTest_eq (h : Hoc) (load : Int) :
    h.progressTest load = { h with
      progress := (h.progressTest load).progress, lowestGen := (h.progressTest load).lowestGen } := by
  unfold Hoc.progressTest
  (repeat' split) <;> rfl

theorem Hoc.progressTest_cases (h : Hoc) (load : Int) :
    (h.lowestGen = none → (h.progressTest load).lowestGen = some load ∧ (h.progressTest load).progress = h.progress) ∧
      ∀ l, h.lowestGen = some l →
        (load ≤ l - 50 → (h.progressTest load).lowestGen = some load ∧
          (h.progressTest load).progress = h.progress.map (fun _ => 20000)) ∧
        (l - 50 < load → (h.progressTest load).lowestGen = some l ∧ (h.progressTest load).progress = h.progress) := by
  refine ⟨fun hn => ?_, fun l hl => ⟨fun hle => ?_, fun hlt => ?_⟩⟩
  · simp only [Hoc.progressTest, hn]
    trivial
  · simp only [Hoc.progressTest, hl, if_pos hle]
    trivial
  · simp only [Hoc.progressTest, hl, if_neg (Int.not_le.2 hlt)]
    trivial

/-- R124: the lead's release timer after a boundary: it runs while the outlet's total stands at or below the release level. -/
def releaseTimer (level : Option Nat) (total : Int) (timer : Timer) : Timer :=
  match level with
  | none => none
  | some r => if total ≤ r then some (timer.getD 1000) else none

/-- R124: the boundary in PARALLEL_DOWN: the down-step, unless a lead that is another cell announces RELEASE_WAIT, and the lead's release
timer. -/
theorem Dev.downBoundary_eq {d : Dev} {x : Outlet} (hx : d.hoc.assignment = some x) (hm : d.ownMember = true)
    (hst : d.hoc.state = .parallelDown) (hb : d.syu.bounded) :
    d.downBoundary =
      (d.setSyu (if d.hoc.lead = false ∧ d.ptb.leadState x = some .releaseWait then d.syu
        else d.syu.rampedBy d.cfg.rampStep (-d.cfg.rampStep))).setHoc
        { d.hoc with release := if d.hoc.lead = true then
            releaseTimer ((d.hoc.session x).map Session.release) (d.outletTotal x) d.hoc.release
          else d.hoc.release } := by
  have hwrite := Dev.rampBy_eq (w := .hocStep) (by rw [hst]; rfl) hm hb d.cfg.rampStep (-d.cfg.rampStep)
  have hstep : max (-(d.cfg.rampStep : Int)) (min d.cfg.rampStep (-d.cfg.rampStep)) = -d.cfg.rampStep := by omega
  rw [hstep] at hwrite
  have hreleases : d.leadReleases = true ↔ d.ptb.leadState x = some .releaseWait := by simp [Dev.leadReleases, hx]
  have hrelease (s : Syu) :
      runWhile ((d.setSyu s).totalReleased x) 1000 d.hoc.release =
        releaseTimer ((d.hoc.session x).map Session.release) (d.outletTotal x) d.hoc.release := by
    have hlevel : (d.setSyu s).releaseLevel = (d.hoc.session x).map Session.release := by
      simp [Dev.releaseLevel, Hoc.ownSession, hx]
    rw [Dev.totalReleased, hlevel]
    cases (d.hoc.session x).map Session.release with
    | none => rfl
    | some r =>
      simp only [runWhile, decide_eq_true_eq]
      rfl
  have hdown : (if (!d.hoc.lead && d.leadReleases) = true then d else d.rampBy .hocStep (-d.cfg.rampStep)) =
      d.setSyu (if d.hoc.lead = false ∧ d.ptb.leadState x = some .releaseWait then d.syu
        else d.syu.rampedBy d.cfg.rampStep (-d.cfg.rampStep)) := by
    by_cases hheld : d.hoc.lead = false ∧ d.ptb.leadState x = some .releaseWait
    · rw [if_pos hheld, if_pos (by simp [hheld.1, hreleases.2 hheld.2])]
      rfl
    · rw [if_neg hheld, hwrite, if_neg]
      simpa [hreleases] using hheld
  unfold Dev.downBoundary
  split
  · next hn => cases hn.symm.trans hx
  next y hy =>
  obtain rfl : x = y := Option.some.inj (hx.symm.trans hy)
  dsimp only
  rw [hdown]
  generalize (if d.hoc.lead = false ∧ d.ptb.leadState x = some .releaseWait then d.syu
    else d.syu.rampedBy d.cfg.rampStep (-d.cfg.rampStep)) = s
  by_cases hl : d.hoc.lead = true
  · rw [if_pos (show (d.setSyu s).hoc.lead = true from hl), if_pos hl, ← hrelease s]
    rfl
  · rw [if_neg (show ¬(d.setSyu s).hoc.lead = true from hl), if_neg hl]
    rfl

/-! ### What a superframe boundary keeps -/

/-- What the blocks' boundary steps leave of the handover controller and the synthesis unit. -/
def Dev.boundaryKept (d e : Dev) : Prop :=
  (e.hoc.state = d.hoc.state ∧ e.hoc.lead = d.hoc.lead ∧ e.hoc.joinTicks = d.hoc.joinTicks ∧
    e.hoc.claimCarried = d.hoc.claimCarried) ∧ e.syu = { d.syu with fRamp := e.syu.fRamp }

theorem Dev.boundaryKept.trans {d e f : Dev} (h : d.boundaryKept e) (g : e.boundaryKept f) : d.boundaryKept f := by
  obtain ⟨⟨hst, hl, hj, hc⟩, hs⟩ := h
  obtain ⟨⟨gst, gl, gj, gc⟩, gs⟩ := g
  exact ⟨⟨gst.trans hst, gl.trans hl, gj.trans hj, gc.trans hc⟩, by rw [gs, hs]⟩

theorem Dev.boundaryKept_of_ramp {d e : Dev} (hh : e.hoc = d.hoc) (hs : e.syu = { d.syu with fRamp := e.syu.fRamp }) :
    d.boundaryKept e := ⟨by rw [hh]; exact ⟨rfl, rfl, rfl, rfl⟩, hs⟩

theorem Dev.rampBy_kept (d : Dev) (w : Writer) (v : Int) : d.boundaryKept (d.rampBy w v) := by
  refine Dev.boundaryKept_of_ramp (by simp) ?_
  unfold Dev.rampBy
  split <;> rfl

theorem Dev.restore_kept (d : Dev) : d.boundaryKept d.restore := by
  unfold Dev.restore
  split
  · exact Dev.boundaryKept_of_ramp rfl rfl
  · dsimp only
    split
    · split
      · exact Dev.boundaryKept_of_ramp rfl rfl
      · exact d.rampBy_kept _ _
    · exact Dev.boundaryKept_of_ramp rfl rfl

theorem Dev.boundaryKept_setHoc {d e : Dev} (h : d.boundaryKept e) {g : Hoc} (hst : g.state = e.hoc.state) (hl : g.lead = e.hoc.lead)
    (hj : g.joinTicks = e.hoc.joinTicks) (hc : g.claimCarried = e.hoc.claimCarried) : d.boundaryKept (e.setHoc g) := by
  obtain ⟨⟨est, el, ej, ec⟩, es⟩ := h
  exact ⟨⟨hst.trans est, hl.trans el, hj.trans ej, hc.trans ec⟩, es⟩

theorem Dev.boundaryKept_refl (d : Dev) : d.boundaryKept d := Dev.boundaryKept_of_ramp rfl rfl

theorem Dev.upBoundary_kept (d : Dev) : d.boundaryKept d.upBoundary := by
  cases hv : d.ownView with
  | none =>
    have hsame : d.upBoundary = d := by simp only [Dev.upBoundary, hv]
    rw [hsame]
    exact d.boundaryKept_refl
  | some v =>
    have hstep : d.boundaryKept (d.upStep v) := by
      unfold Dev.upStep
      split
      · exact d.rampBy_kept _ _
      · exact d.boundaryKept_refl
    obtain ⟨⟨est, el, ej, ec⟩, -⟩ := id hstep
    have heq := d.hoc.progressTest_eq v.load
    rw [Dev.upBoundary_eq hv, heq]
    exact Dev.boundaryKept_setHoc hstep est.symm el.symm ej.symm ec.symm

theorem Dev.downBoundary_kept (d : Dev) : d.boundaryKept d.downBoundary := by
  have hstep : d.boundaryKept (if !d.hoc.lead && d.leadReleases then d else d.rampBy .hocStep (-d.cfg.rampStep)) := by
    split
    · exact d.boundaryKept_refl
    · exact d.rampBy_kept _ _
  unfold Dev.downBoundary
  split
  · exact d.boundaryKept_refl
  · dsimp only
    generalize (if !d.hoc.lead && d.leadReleases then d else d.rampBy .hocStep (-d.cfg.rampStep)) = d1 at hstep ⊢
    split
    · exact Dev.boundaryKept_setHoc hstep rfl rfl rfl rfl
    · exact hstep

theorem Dev.leavingStep_kept (d : Dev) : d.boundaryKept d.leavingStep := by
  unfold Dev.leavingStep
  split
  · exact Dev.boundaryKept_setHoc (d.rampBy_kept _ _) rfl rfl rfl rfl
  · exact d.boundaryKept_refl

/-- R123: the lead's SHED of a boundary in ISLAND and DEPART_WAIT. -/
theorem Dev.shedBoundary_eq {d : Dev} {x : Outlet} (hx : d.hoc.assignment = some x) :
    d.shedBoundary = d.setHoc { d.hoc with
      shedDue := if d.hoc.lead = true then
          (if 0 < d.outletTotal x - d.capacitySum x then some (min 32767 (d.outletTotal x - d.capacitySum x)) else none)
        else d.hoc.shedDue } := by
  unfold Dev.shedBoundary
  split
  · next hn => cases hn.symm.trans hx
  next y hy =>
  obtain rfl : x = y := Option.some.inj (hx.symm.trans hy)
  by_cases hl : d.hoc.lead = true
  · rw [if_pos hl, if_pos hl]
    rfl
  · rw [if_neg hl, if_neg hl]
    rfl

theorem Dev.shedBoundary_kept (d : Dev) : d.boundaryKept d.shedBoundary := by
  cases hx : d.hoc.assignment with
  | none =>
    have hsame : d.shedBoundary = d := by simp only [Dev.shedBoundary, hx]
    rw [hsame]
    exact d.boundaryKept_refl
  | some x =>
    rw [Dev.shedBoundary_eq hx]
    exact Dev.boundaryKept_setHoc d.boundaryKept_refl rfl rfl rfl rfl

theorem Dev.hocBoundary_kept (d : Dev) : d.boundaryKept d.hocBoundary := by
  unfold Dev.hocBoundary
  split
  · exact d.leavingStep_kept
  · exact d.upBoundary_kept
  · exact d.shedBoundary_kept
  · exact d.shedBoundary_kept
  · exact d.downBoundary_kept
  · exact d.boundaryKept_refl

theorem Dev.superframe_kept (d : Dev) : d.boundaryKept d.superframe := by
  unfold Dev.superframe
  split
  · exact (d.spend.restore_kept).trans (Dev.hocBoundary_kept _)
  · exact (d.spend.hocBoundary_kept).trans (Dev.restore_kept _)

/-- R39: where the synthesis unit makes no restoration write, a boundary is that of the handover controller. -/
theorem Dev.superframe_of_no_restore {d : Dev} (h : d.syu.mode ≠ .island ∨ d.syu.run = false) :
    d.superframe = d.spend.hocBoundary := by
  have hfirst : d.spend.restore = d.spend := Dev.restore_of_not_due (d := d.spend) h
  have hlast : d.spend.hocBoundary.restore = d.spend.hocBoundary := by
    apply Dev.restore_of_not_due
    rw [d.spend.hocBoundary_kept.2]
    exact h
  unfold Dev.superframe
  split
  · rw [hfirst]
  · exact hlast

theorem Dev.rampBy_syu (d : Dev) (w : Writer) (delta : Int) :
    (d.rampBy w delta).syu =
      (if w.listed d.hoc.state && d.ownMember && !(decide (0 < delta) && d.syu.suppressed) then
        { d.syu with fRamp := clampInt (-3000) 3000 (d.syu.fRamp + delta) } else d.syu) := by
  unfold Dev.rampBy
  split <;> rfl

theorem Dev.restore_syu {d : Dev} {x : Outlet} (hx : d.hoc.assignment = some x) :
    d.restore.syu =
      (if d.syu.mode = .island ∧ d.syu.run ∧ d.inShare x then
        if clampInt (-d.cfg.rampStep) d.cfg.rampStep (d.restorationTarget x - d.syu.fRamp) = 0 then d.syu
        else (d.rampBy .restoration (clampInt (-d.cfg.rampStep) d.cfg.rampStep (d.restorationTarget x - d.syu.fRamp))).syu
      else d.syu) := by
  simp only [Dev.restore, hx]
  (repeat' split) <;> rfl

/-- SHED is nothing that the restoration write looks at. -/
theorem Dev.restore_setHoc_shed {d : Dev} {x : Outlet} (hx : d.hoc.assignment = some x) (v : Option Int) :
    (d.setHoc { d.hoc with shedDue := v }).restore.syu = d.restore.syu := by
  rw [Dev.restore_syu (d := d.setHoc { d.hoc with shedDue := v }) hx, Dev.restore_syu hx, Dev.rampBy_syu, Dev.rampBy_syu]
  rfl

/-- The write of the lead's SHED and the restoration write do not meet, in whichever order the blocks take the boundary (log entry 3). -/
theorem Dev.superframe_of_shed {d : Dev} {x : Outlet} (hx : d.hoc.assignment = some x)
    (hst : d.hoc.state = .island ∨ d.hoc.state = .departWait) :
    d.superframe.syu = d.spend.restore.syu ∧ d.superframe.hoc = d.spend.shedBoundary.hoc := by
  have hshed (e : Dev) (he : e.hoc = d.hoc) : e.hocBoundary = e.shedBoundary := by
    unfold Dev.hocBoundary
    rw [he]
    rcases hst with hst | hst <;> rw [hst]
  have hx2 : d.spend.hoc.assignment = some x := hx
  unfold Dev.superframe
  split
  · have hres : d.spend.restore = d.spend.setSyu d.spend.restore.syu := by
      obtain ⟨hrun, hpins, hcfg, hlnk, hptb, hmsu, hctc, hsyn, hhoc, hmtr, hrst, hntu, hfree⟩ := d.spend.restore_frame
      unfold Dev.setSyu
      rw [← hrun, ← hpins, ← hcfg, ← hlnk, ← hptb, ← hmsu, ← hctc, ← hsyn, ← hhoc, ← hmtr, ← hrst, ← hntu, ← hfree]
    rw [hshed _ (by simp)]
    generalize d.spend.restore.syu = s at hres
    rw [hres, Dev.shedBoundary_eq (d := d.spend.setSyu s) hx2, Dev.shedBoundary_eq hx2]
    exact ⟨rfl, rfl⟩
  · rw [hshed d.spend rfl]
    refine ⟨?_, by simp⟩
    rw [Dev.shedBoundary_eq hx2]
    exact Dev.restore_setHoc_shed hx2 _

end Sys2Proof.Machine

/-! ### A superframe boundary by the state of the member -/

namespace Sys2Proof.Machine

section
variable {d : Dev} {x : Outlet} (hx : d.hoc.assignment = some x) (hc : d.con x = .closed) (hb : d.syu.bounded)
  (hm : d.syu.mode ≠ .island)
include hx hc hb hm

theorem Dev.superframe_of_leaving (hst : d.hoc.state = .leaving) :
    d.superframe.syu = d.syu.rampedBy d.cfg.rampStep (-d.cfg.rampStep) ∧
      d.superframe.hoc.lowLoad = (if d.msu.p.natAbs * 20 ≤ d.cfg.rating then some (d.hoc.lowLoad.getD 500) else none) := by
  have hstep : d.spend.hocBoundary = d.spend.leavingStep := by
    simp only [Dev.hocBoundary, show d.spend.hoc.state = .leaving from hst]
  rw [Dev.superframe_of_no_restore (.inl hm), hstep,
    Dev.leavingStep_eq (d := d.spend) ((Dev.ownMember_iff (d := d.spend) hx).2 hc) hst hb]
  exact ⟨rfl, rfl⟩

theorem Dev.superframe_of_parallelDown (hst : d.hoc.state = .parallelDown) :
    d.superframe.syu = (if d.hoc.lead = false ∧ d.ptb.leadState x = some .releaseWait then d.syu
        else d.syu.rampedBy d.cfg.rampStep (-d.cfg.rampStep)) ∧
      d.superframe.hoc.release = (if d.hoc.lead = true then
          releaseTimer ((d.hoc.session x).map Session.release) (d.outletTotal x) d.hoc.release
        else d.hoc.release) := by
  have hstep : d.spend.hocBoundary = d.spend.downBoundary := by
    simp only [Dev.hocBoundary, show d.spend.hoc.state = .parallelDown from hst]
  rw [Dev.superframe_of_no_restore (.inl hm), hstep,
    Dev.downBoundary_eq (d := d.spend) hx ((Dev.ownMember_iff (d := d.spend) hx).2 hc) hst hb]
  exact ⟨rfl, rfl⟩

theorem Dev.superframe_of_parallelUp {v : ShipFacts} (hst : d.hoc.state = .parallelUp) (hv : d.ptb.shipView x = some v) :
    d.superframe.syu = (if d.hoc.rampDone = false ∧ d.syu.limit = false ∧ d.loadAboveRelease v = true then
        d.syu.rampedBy d.cfg.rampStep d.cfg.rampStep else d.syu) ∧
      d.superframe.hoc.lowGen = runWhile (!d.loadAboveRelease v) 2000 d.hoc.lowGen ∧
      d.superframe.hoc.lowestGen = (d.hoc.progressTest v.load).lowestGen ∧
      d.superframe.hoc.progress = (d.hoc.progressTest v.load).progress := by
  have hstep : d.spend.hocBoundary = d.spend.upBoundary := by
    simp only [Dev.hocBoundary, show d.spend.hoc.state = .parallelUp from hst]
  have hview : d.spend.ownView = some v := by
    rw [Dev.ownView, show d.spend.hoc.assignment = some x from hx]
    exact hv
  rw [Dev.superframe_of_no_restore (.inl hm), hstep, Dev.upBoundary_eq hview]
  refine ⟨?_, rfl, rfl, rfl⟩
  rw [Dev.setHoc_syu, Dev.upStep_eq (d := d.spend) ((Dev.ownMember_iff (d := d.spend) hx).2 hc) hst hb]
  split
  · next hdue => exact (if_pos hdue).symm
  · next hdue => exact (if_neg hdue).symm
end

/-- The member states without a boundary step of the handover controller. -/
theorem Dev.superframe_of_rest {d : Dev} (hm : d.syu.mode ≠ .island)
    (hst : d.hoc.state = .onBus ∨ d.hoc.state = .matching ∨ d.hoc.state = .parallelHold ∨ d.hoc.state = .releaseWait) :
    d.superframe = d.spend := by
  rw [Dev.superframe_of_no_restore (.inl hm)]
  rcases hst with hst | hst | hst | hst <;> simp only [Dev.hocBoundary, show d.spend.hoc.state = _ from hst]

section
variable {d : Dev} {x : Outlet} (hx : d.hoc.assignment = some x)
include hx

/-- R122: without a ship view nothing is tested and nothing is written. -/
theorem Dev.superframe_of_no_view (hm : d.syu.mode ≠ .island) (hst : d.hoc.state = .parallelUp) (hv : d.ptb.shipView x = none) :
    d.superframe = d.spend := by
  have hview : d.spend.ownView = none := by
    rw [Dev.ownView, show d.spend.hoc.assignment = some x from hx]
    exact hv
  rw [Dev.superframe_of_no_restore (.inl hm)]
  simp only [Dev.hocBoundary, show d.spend.hoc.state = .parallelUp from hst, Dev.upBoundary, hview]

/-- R123: the lead's SHED. -/
theorem Dev.superframe_shedDue (hst : d.hoc.state = .island ∨ d.hoc.state = .departWait) :
    d.superframe.hoc.shedDue = (if d.hoc.lead = true then
        (if 0 < d.outletTotal x - d.capacitySum x then some (min 32767 (d.outletTotal x - d.capacitySum x)) else none)
      else d.hoc.shedDue) := by
  rw [(Dev.superframe_of_shed hx hst).2, Dev.shedBoundary_eq (d := d.spend) hx]
  rfl

/-- R38: the restoration of a member in ISLAND or DEPART_WAIT. -/
theorem Dev.superframe_of_restore (hst : d.hoc.state = .island ∨ d.hoc.state = .departWait) (hc : d.con x = .closed)
    (hb : d.syu.bounded) (hm : d.syu.mode = .island) (hr : d.syu.run = true) (hl : d.hoc.leave = none) :
    d.superframe.syu = d.syu.rampedBy d.cfg.rampStep
      (tdiv (d.cfg.dF * tdiv (((d.ptb.sharers x).map (fun c => c.2.2.pu)).sum + d.msu.pu)
        (((d.ptb.sharers x).map (fun c => c.2.2.pu)).length + 1)) 10000 - d.syu.fRamp) := by
  have hmode : d.hoc.state.mode = .island := by rcases hst with hst | hst <;> rw [hst] <;> rfl
  rw [(Dev.superframe_of_shed hx hst).1, Dev.restore_of_due (d := d.spend) hx hc hmode hm hr hl hb]
  rfl

theorem Dev.superframe_of_halted (hst : d.hoc.state = .island ∨ d.hoc.state = .departWait) (hr : d.syu.run = false) :
    d.superframe.syu = d.syu := by
  rw [(Dev.superframe_of_shed hx hst).1, Dev.restore_of_not_due (d := d.spend) (.inr hr)]
  rfl

end

end Sys2Proof.Machine

/-! ### The settlement -/

namespace Sys2Proof.Machine

theorem exec_cycleTimerExpiry_up {s : State} (h : s.dev.awake) : exec .cycleTimerExpiry s = .next (s.onDev Dev.cycleExpiry) :=
  State.run_up h _

theorem nextCycle_mod_eight (n : Nat) : nextCycle n % 8 = (n + 1) % 8 := by
  unfold nextCycle
  omega

/-- Settles O17: the blocks that a cycle's beginning writes, then the superframe boundary by the state of a member whose claim and state are steady. -/
theorem cycleTimerBeginsACycle : Obligations.CycleTimerBeginsACycle := by
  refine ⟨fun s h => ?_, fun s x h hx hc hs hb hst => ?_⟩
  · obtain ⟨hrun, -, hcfg, hptb⟩ := s.dev.beginCycle_frame (nextCycle s.dev.lnk.cycle)
    obtain ⟨hlnk, hmtr, hntu, hpins, hmsu, hrst⟩ := s.dev.beginCycle_keeps (nextCycle s.dev.lnk.cycle)
    exact ⟨_, exec_cycleTimerExpiry_up h, rfl, hlnk, hmtr, hntu, hrun, hpins, hcfg, hptb, hmsu, hrst⟩
  · obtain ⟨k, hk⟩ := Dev.beginCycle_of_steady hx hc hs hst (nextCycle s.dev.lnk.cycle)
    let e := s.dev.cycleBegun (nextCycle s.dev.lnk.cycle) k
    intro hh y boundary ramp level above
    have habove (v : ShipFacts) : e.loadAboveRelease v = true ↔ above v.load := Dev.loadAboveRelease_iff (d := e) hx v
    refine ⟨_, exec_cycleTimerExpiry_up h, rfl, ?_⟩
    by_cases hbound : boundary
    · have ht : s.dev.cycleExpiry = e.superframe := hk.trans (if_pos ((nextCycle_mod_eight _).trans hbound))
      obtain ⟨⟨hstate, hlead, hticks, hclaim⟩, hsyu⟩ := e.superframe_kept
      obtain ⟨-, -, -, -, -, -, hctc, hsyn, -⟩ := e.superframe_frame
      rw [State.onDev, ht]
      refine ⟨hstate, hlead, hctc, hsyn, hticks, hclaim, hsyu, fun hn => absurd hbound hn, fun _ hm => ⟨fun hl => ?_, fun hu hv => ?_,
        fun v hu hv => ?_, fun hd => ?_, fun hr => ?_⟩, fun _ hi => ⟨fun hl => ?_, fun hl => ?_, fun hm hr hl => ?_, fun hr => ?_⟩⟩
      · obtain ⟨hramp, hlow⟩ := Dev.superframe_of_leaving (d := e) hx hc hb hm hl
        exact ⟨congrArg Syu.fRamp hramp, hlow⟩
      · have hsame := Dev.superframe_of_no_view (d := e) hx hm hu hv
        simp only [hsame]
        exact ⟨rfl, rfl, rfl, rfl⟩
      · obtain ⟨hramp, hlow, hlowest, hprogress⟩ := Dev.superframe_of_parallelUp (d := e) hx hc hb hm hu hv
        obtain ⟨hnone, hsome⟩ := e.hoc.progressTest_cases v.load
        rw [← hlowest, ← hprogress] at hnone
        rw [← hlowest, ← hprogress] at hsome
        refine ⟨fun hdone hlim ha => ?_, fun hor => ?_, fun ha => ?_, fun ha => ?_, hnone, fun l hl => (hsome l hl).1,
          fun l hl => (hsome l hl).2⟩
        · exact congrArg Syu.fRamp (hramp.trans (if_pos ⟨hdone, hlim, (habove v).2 ha⟩))
        · refine congrArg Syu.fRamp (hramp.trans (if_neg ?_))
          rintro ⟨hdone, hlim, ha⟩
          rcases hor with hn | hn | hn
          · exact absurd (hn.symm.trans hdone) (by decide)
          · exact absurd (hn.symm.trans hlim) (by decide)
          · exact hn ((habove v).1 ha)
        · rw [hlow, (habove v).2 ha]
          rfl
        · rw [hlow, Bool.not_eq_true _ |>.mp fun hn => ha ((habove v).1 hn)]
          rfl
      · obtain ⟨hramp, hrelease⟩ := Dev.superframe_of_parallelDown (d := e) hx hc hb hm hd
        refine ⟨fun hor => ?_, fun hl hw => ?_, fun hl => ?_, fun hl => ?_⟩
        · refine congrArg Syu.fRamp (hramp.trans (if_neg ?_))
          rintro ⟨hl, hw⟩
          rcases hor with hn | hn
          · exact absurd (hn.symm.trans hl) (by decide)
          · exact hn hw
        · exact congrArg Syu.fRamp (hramp.trans (if_pos ⟨hl, hw⟩))
        · exact hrelease.trans (if_pos hl)
        · exact hrelease.trans (if_neg fun hn => absurd (hn.symm.trans hl) (by decide))
      · have hsame := Dev.superframe_of_rest (d := e) hm hr
        simp only [hsame]
        rfl
      · rw [Dev.superframe_shedDue (d := e) hx hi]
        exact if_pos hl
      · rw [Dev.superframe_shedDue (d := e) hx hi]
        exact if_neg fun hn => absurd (hn.symm.trans hl) (by decide)
      · exact congrArg Syu.fRamp (Dev.superframe_of_restore (d := e) hx hi hc hb hm hr hl)
      · exact congrArg Syu.fRamp (Dev.superframe_of_halted (d := e) hx hi hr)
    · have ht : s.dev.cycleExpiry = e := hk.trans (if_neg fun hn => hbound ((nextCycle_mod_eight _).symm.trans hn))
      rw [State.onDev, ht]
      exact ⟨rfl, rfl, rfl, rfl, rfl, rfl, rfl, fun _ => ⟨rfl, rfl, rfl, rfl, rfl, rfl, rfl⟩, fun hn => absurd hn hbound,
        fun hn => absurd hn hbound⟩

end Sys2Proof.Machine

/-! # The evaluation of a synchroniser channel and the crossing watch (O47; R30, R31, R34, R91 to R99, R115) -/

/-! ### The evaluation in the words of the rules (R91 to R95) -/

namespace Sys2Proof.Machine

/-- Folded into the range of tenths of a degree, by as many turns as it takes (log entry 20). -/
theorem foldTenths_spec (v : Int) : -1800 ≤ foldTenths v ∧ foldTenths v ≤ 1799 ∧ (foldTenths v - v) % 3600 = 0 := by
  unfold foldTenths
  omega

theorem approaching_iff (p s : Int) :
    approaching p s = true ↔ p = 0 ∨ s = 0 ∨ (p < 0 ∧ 0 < s) ∨ (0 < p ∧ s < 0) := by
  simp [approaching, or_assoc]

theorem EvalIn.slip_of_some {i : EvalIn} {a b : Nat} (hx : i.fX = some a) (hy : i.fY = some b) : i.slip = some ((a : Int) - b) := by
  simp only [EvalIn.slip, hx, hy]

theorem EvalIn.slip_of_none {i : EvalIn} (h : i.fX = none ∨ i.fY = none) : i.slip = none := by
  unfold EvalIn.slip
  split
  · rcases h with h | h <;> simp_all
  · rfl

theorem EvalIn.good_iff (l : EvalLimits) (i : EvalIn) :
    (i.eval l).good = true ↔ ∃ s p v, i.slip = some s ∧ i.predicted = some p ∧ i.dv = some v ∧ l.slipLo ≤ s ∧ s ≤ l.slipHi ∧
      -l.phase ≤ p ∧ p ≤ l.phase ∧ (p = 0 ∨ s = 0 ∨ (p < 0 ∧ 0 < s) ∨ (0 < p ∧ s < 0)) ∧ v ≤ l.dv := by
  simp only [EvalIn.eval, EvalIn.phaseGood, EvalIn.voltageGood, Bool.and_eq_true]
  cases i.slip <;> cases i.predicted <;> cases i.dv <;> simp [approaching_iff, and_assoc]

/-- R91 to R95: an evaluation of the model is one of the rules. -/
theorem EvalIn.eval_formed (l : EvalLimits) (i : EvalIn) :
    (i.eval l).formed i.fX i.fY i.phase i.ratioX i.ratioY i.closing l.slipLo l.slipHi l.phase l.dv := by
  refine ⟨fun a b ha hb => ?_, fun h => ?_, fun a b ha hb => ?_, fun h => ?_, i.good_iff l⟩
  · have hslip := EvalIn.slip_of_some ha hb
    refine ⟨hslip, fun hv => ?_, fun hv => ⟨foldTenths (i.phase.value + tdiv (((a : Int) - b) * i.closing * 36) 10000), ?_,
      foldTenths_spec _⟩⟩
    · simp [EvalIn.eval, EvalIn.predicted, hslip, hv]
    · simp [EvalIn.eval, EvalIn.predicted, hslip, hv]
  · have hslip := EvalIn.slip_of_none h
    exact ⟨hslip, by simp [EvalIn.eval, EvalIn.predicted, hslip]⟩
  · simp only [EvalIn.eval, EvalIn.dv, ha, hb]
  · simp only [EvalIn.eval, EvalIn.dv]
    split
    · rcases h with h | h <;> simp_all
    · rfl

/-! ### The channel after an evaluation (R91, R95, R96) -/

theorem Channel.evaluated_evaluatedTo (c : Channel) (e : Eval) : c.evaluatedTo e (c.evaluated e) := by
  refine ⟨rfl, rfl, ?_, rfl, rfl⟩
  cases hg : e.good with
  | false => simp [Channel.evaluated, hg]
  | true =>
    simp only [Channel.evaluated, hg, if_true, Bool.true_and, beq_iff_eq]
    by_cases h : 4 ≤ c.good
    · rw [if_pos h, if_pos (by omega)]
    · rw [if_neg h, if_neg (by omega)]

/-- The watch has no part in an evaluation's result. -/
theorem Channel.evaluatedTo.of_watch {c t : Channel} {e : Eval} (h : c.evaluatedTo e t) (w v : Timer) :
    ({ c with watch := w } : Channel).evaluatedTo e { t with watch := v } := h

theorem Channel.running_iff (c : Channel) : c.running = true ↔ c.state = .seeking ∨ c.state = .met := by
  simp [Channel.running]

/-- R96: a watch is due where the channel runs and the watch has reached its length. -/
theorem Dev.watchDue_iff (d : Dev) (c : Channel) :
    d.watchDue c = true ↔ (c.state = .seeking ∨ c.state = .met) ∧ ∃ n, c.watch = some n ∧ d.watchLength ≤ n := by
  cases hw : c.watch with
  | none => simp [Dev.watchDue, hw]
  | some n => simp [Dev.watchDue, hw, Channel.running_iff]

/-- R96: the bad evaluation of a watch. -/
theorem Channel.evaluated_watchBad (c : Channel) :
    c.evaluated Eval.watchBad = { c with state := .seeking, good := 0, latest := some ⟨false, none, none, none⟩, watch := some 0 } :=
  rfl

end Sys2Proof.Machine

/-! ### A watch that falls together with a crossing (R96; log entry 3) -/

namespace Sys2Proof.Machine

/-- What the tie of a channel's watch with a crossing leaves of its record: the record, or one of a count of 0 in SEEKING where the watch was
due and its expiry is taken first. -/
def Dev.tied (d : Dev) (c t : Channel) : Prop :=
  t = c ∨ d.watchDue c = true ∧ t = { c with state := .seeking, good := 0, latest := some ⟨false, none, none, none⟩, watch := some 0 }

theorem Dev.watchTie_cell (d : Dev) :
    d.tied d.syn.cell (d.watchTie .cell (d.watchDue d.syn.cell)).syn.cell ∧
      (d.watchTie .cell (d.watchDue d.syn.cell)).syn.ship = d.syn.ship := by
  unfold Dev.watchTie
  split
  · next hdue =>
    split
    · have hw : d.spend.watchExpiry .cell = d.spend.setCellCh (d.spend.syn.cell.evaluated Eval.watchBad) := if_pos hdue
      rw [hw]
      exact ⟨.inr ⟨hdue, rfl⟩, rfl⟩
    · exact ⟨.inl rfl, rfl⟩
  · exact ⟨.inl rfl, rfl⟩

theorem Dev.watchTie_ship (d : Dev) :
    d.tied d.syn.ship (d.watchTie .ship (d.watchDue d.syn.ship)).syn.ship ∧
      (d.watchTie .ship (d.watchDue d.syn.ship)).syn.cell = d.syn.cell := by
  unfold Dev.watchTie
  split
  · next hdue =>
    split
    · have hw : d.spend.watchExpiry .ship = d.spend.setShipCh (d.spend.syn.ship.evaluated Eval.watchBad) := if_pos hdue
      rw [hw]
      exact ⟨.inr ⟨hdue, rfl⟩, rfl⟩
    · exact ⟨.inl rfl, rfl⟩
  · exact ⟨.inl rfl, rfl⟩

/-- R91, R96: the evaluation after a tie starts from the record, or from a count of 0 in SEEKING. -/
theorem Dev.tied.evaluated {d : Dev} {c t : Channel} (h : d.tied c t) (e : Eval) :
    c.evaluatedTo e (t.evaluated e) ∨
      d.watchDue c = true ∧ ({ c with state := .seeking, good := 0 } : Channel).evaluatedTo e (t.evaluated e) := by
  rcases h with rfl | ⟨hdue, rfl⟩
  · exact .inl (t.evaluated_evaluatedTo e)
  · exact .inr ⟨hdue, Channel.evaluated_evaluatedTo _ e⟩

end Sys2Proof.Machine

/-! ### The steering (R30, R31, R34, R97 to R99) -/

namespace Sys2Proof.Machine

theorem Dev.joinOpen_of_frame {d e : Dev} (hh : e.hoc = d.hoc) (hc : e.ctc = d.ctc) : e.joinOpen = d.joinOpen := by
  have hcon : e.con = d.con := funext fun x => by rw [Dev.con, hc, Dev.con]
  simp only [Dev.joinOpen, Dev.ownMember, Dev.ownCon, hcon, hh]

/-- The joining offset after a relative write limited to a step (R31, R34). -/
def Syu.joinedBy (s : Syu) (step x : Int) : Syu := { s with fJoin := max (-3000) (min 3000 (s.fJoin + s.steered step x)) }

theorem Syu.joinedBy_of_zero {s : Syu} (hb : s.bounded) {step x : Int} (h : s.steered step x = 0) : s.joinedBy step x = s := by
  obtain ⟨-, ⟨hlo, hhi⟩, -⟩ := hb
  have hkeep : max (-3000) (min 3000 (s.fJoin + s.steered step x)) = s.fJoin := by omega
  rw [Syu.joinedBy, hkeep]

/-- R31, R34, R97: the write to the joining offset, left out where it is 0. -/
theorem Dev.joinBy_unless_zero {d : Dev} (hj : d.joinOpen = true) (hb : d.syu.bounded) (step x : Int) :
    (if clampInt (-step) step x = 0 then d else d.joinBy (clampInt (-step) step x)) = d.setSyu (d.syu.joinedBy step x) := by
  by_cases hsup : 0 < clampInt (-step) step x ∧ (d.syu.puAtLimit = true ∨ d.syu.clamp = .upper)
  · have hnone : d.syu.steered step x = 0 := if_pos hsup
    have hoff : d.joinBy (clampInt (-step) step x) = d := by
      refine if_neg ?_
      simp [hsup.1, d.syu.suppressed_iff.2 hsup.2]
    rw [hoff, ite_self, Syu.joinedBy_of_zero hb hnone]
    rfl
  · have hdelta : d.syu.steered step x = clampInt (-step) step x := if_neg hsup
    split
    · next hzero =>
      rw [Syu.joinedBy_of_zero hb (hdelta.trans hzero)]
      rfl
    · rw [← d.syu.suppressed_iff] at hsup
      rw [Syu.joinedBy, hdelta]
      refine if_pos ?_
      by_cases hpos : 0 < clampInt (-step) step x
      · simpa [hj, hpos] using hsup
      · simp [hj, hpos]

/-- R97: the steering of the cell channel writes the joining frequency offset alone. -/
theorem Dev.steerCell_effect {d : Dev} (hj : d.joinOpen = true) (hb : d.syu.bounded) :
    (∀ a b : Nat, d.msu.cell.validFreq = some a → d.msu.bus.validFreq = some b →
        d.steerCell = d.setSyu (d.syu.joinedBy (4 * d.cfg.rampStep) ((b : Int) + 30 - a))) ∧
      (d.msu.cell.validFreq = none ∨ d.msu.bus.validFreq = none → d.steerCell = d) := by
  refine ⟨fun a b ha hbus => ?_, fun h => ?_⟩
  · rw [← Dev.joinBy_unless_zero hj hb]
    simp only [Dev.steerCell, ha, hbus, Dev.steerLimit]
    rfl
  · unfold Dev.steerCell
    split
    · rcases h with h | h <;> simp_all
    · rfl

/-- R34, R98: the steering of the voltage writes the steering voltage alone. -/
theorem Dev.steerVoltage_effect {d : Dev} (hj : d.joinOpen = true) (hb : d.syu.bounded) :
    (∀ a b : Nat, d.msu.cell.ratio = some a → d.msu.bus.ratio = some b →
        d.steerVoltage = d.setSyu { d.syu with
          vSteer := max (-100) (min 100 (d.syu.vSteer + max (-5) (min 5 ((b : Int) - a)))) }) ∧
      (d.msu.cell.ratio = none ∨ d.msu.bus.ratio = none → d.steerVoltage = d) := by
  obtain ⟨-, -, hlo, hhi⟩ := hb
  refine ⟨fun a b ha hbus => ?_, fun h => ?_⟩
  · simp only [Dev.steerVoltage, ha, hbus]
    split
    · next hzero =>
      have hz : max (-5) (min 5 ((b : Int) - a)) = 0 := hzero
      have hkeep : max (-100) (min 100 (d.syu.vSteer + max (-5) (min 5 ((b : Int) - a)))) = d.syu.vSteer := by omega
      rw [hkeep]
      rfl
    · exact if_pos hj
  · unfold Dev.steerVoltage
    split
    · rcases h with h | h <;> simp_all
    · rfl

/-- R30, R99: the steering of the ship channel writes the ramp offset alone. -/
theorem Dev.steerShip_effect {d : Dev} (hst : d.hoc.state = .matching) (hm : d.ownMember = true) (hb : d.syu.bounded) :
    (∀ a b : Nat, d.msu.bus.validFreq = some a → d.msu.ship.validFreq = some b →
        d.steerShip = d.setSyu (d.syu.rampedBy (4 * d.cfg.rampStep) ((b : Int) + 60 - a))) ∧
      (d.msu.bus.validFreq = none ∨ d.msu.ship.validFreq = none → d.steerShip = d) := by
  refine ⟨fun a b ha hship => ?_, fun h => ?_⟩
  · rw [← Dev.rampBy_unless_zero (w := .shipSteering) (by rw [hst]; rfl) hm hb]
    simp only [Dev.steerShip, ha, hship, Dev.steerLimit]
    rfl
  · unfold Dev.steerShip
    split
    · rcases h with h | h <;> simp_all
    · rfl

end Sys2Proof.Machine

/-! ### A bus crossing at a joining cell (R91, R95 to R98, R115) -/

namespace Sys2Proof.Machine

/-- R97, R98: what the two steerings of a bus crossing leave of the synthesis unit, with the frequencies and ratios of a cell voltage and a
bus. -/
def Dev.steeredFrom (d : Dev) (t : Syu) : Prop :=
  t = { d.syu with fJoin := t.fJoin, vSteer := t.vSteer } ∧
    (∀ a b : Nat, d.msu.cell.validFreq = some a → d.msu.bus.validFreq = some b →
      t.fJoin = max (-3000) (min 3000 (d.syu.fJoin + d.syu.steered (4 * d.cfg.rampStep) ((b : Int) + 30 - a)))) ∧
    (d.msu.cell.validFreq = none ∨ d.msu.bus.validFreq = none → t.fJoin = d.syu.fJoin) ∧
    (∀ a b : Nat, d.msu.cell.ratio = some a → d.msu.bus.ratio = some b →
      t.vSteer = max (-100) (min 100 (d.syu.vSteer + max (-5) (min 5 ((b : Int) - a))))) ∧
    (d.msu.cell.ratio = none ∨ d.msu.bus.ratio = none → t.vSteer = d.syu.vSteer)

theorem none_or_none_or_some {α β : Type} (x : Option α) (y : Option β) :
    (x = none ∨ y = none) ∨ ∃ a b, x = some a ∧ y = some b := by
  cases x <;> cases y <;> simp

theorem Dev.steerBoth_effect {d : Dev} (hj : d.joinOpen = true) (hb : d.syu.bounded) :
    d.steeredFrom d.steerCell.steerVoltage.syu := by
  obtain ⟨hsome, hnone⟩ := Dev.steerCell_effect hj hb
  have hcell : ∃ f, d.steerCell = d.setSyu { d.syu with fJoin := f } ∧ -3000 ≤ f ∧ f ≤ 3000 ∧
      (∀ a b : Nat, d.msu.cell.validFreq = some a → d.msu.bus.validFreq = some b →
        f = max (-3000) (min 3000 (d.syu.fJoin + d.syu.steered (4 * d.cfg.rampStep) ((b : Int) + 30 - a)))) ∧
      (d.msu.cell.validFreq = none ∨ d.msu.bus.validFreq = none → f = d.syu.fJoin) := by
    obtain ⟨-, hjoin, -⟩ := hb
    rcases none_or_none_or_some d.msu.cell.validFreq d.msu.bus.validFreq with hn | ⟨a, b, ha, hbus⟩
    · refine ⟨d.syu.fJoin, hnone hn, hjoin.1, hjoin.2, fun a b ha hbus => ?_, fun _ => rfl⟩
      rcases hn with hn | hn <;> simp_all
    · refine ⟨_, hsome a b ha hbus, by omega, by omega, fun a' b' ha' hbus' => ?_, fun hn => ?_⟩
      · obtain rfl := Option.some.inj (ha.symm.trans ha')
        obtain rfl := Option.some.inj (hbus.symm.trans hbus')
        rfl
      · rcases hn with hn | hn <;> simp_all
  obtain ⟨f, hf, hlo, hhi, hfsome, hfnone⟩ := hcell
  have hb2 : (d.setSyu { d.syu with fJoin := f }).syu.bounded := ⟨hb.1, ⟨hlo, hhi⟩, hb.2.2⟩
  obtain ⟨hvsome, hvnone⟩ := Dev.steerVoltage_effect (d := d.setSyu { d.syu with fJoin := f }) hj hb2
  rw [hf]
  rcases none_or_none_or_some d.msu.cell.ratio d.msu.bus.ratio with hn | ⟨a, b, ha, hbus⟩
  · rw [hvnone hn]
    refine ⟨rfl, hfsome, hfnone, fun a b ha hbus => ?_, fun _ => rfl⟩
    rcases hn with hn | hn <;> simp_all
  · rw [hvsome a b ha hbus]
    refine ⟨rfl, hfsome, hfnone, fun a' b' ha' hbus' => ?_, fun hn => ?_⟩
    · obtain rfl := Option.some.inj (ha.symm.trans ha')
      obtain rfl := Option.some.inj (hbus.symm.trans hbus')
      rfl
    · rcases hn with hn | hn <;> simp_all

/-- R91, R96 to R98: the evaluation of a bus crossing, with its steering. -/
theorem Dev.cellCrossing_effect {d : Dev} (he : d.cellEvaluates = true) (hj : d.joinOpen = true) (hb : d.syu.bounded) :
    let t := d.cellCrossing
    let e := d.cellIn.eval cellLimits
    (d.syn.cell.evaluatedTo e t.syn.cell ∨
        d.watchDue d.syn.cell = true ∧ ({ d.syn.cell with state := .seeking, good := 0 } : Channel).evaluatedTo e t.syn.cell) ∧
      t.syn.cell.watch = some 0 ∧ d.steeredFrom t.syu := by
  let d0 := d.watchTie .cell (d.watchDue d.syn.cell)
  let d1 := d0.setCellCh (d0.syn.cell.evaluated (d0.cellIn.eval cellLimits))
  obtain ⟨-, -, hcfg, -, -, hmsu, hsyu, hctc, hhoc, -⟩ := d.watchTie_frame .cell (d.watchDue d.syn.cell)
  have ht : d.cellCrossing = d1.steerCell.steerVoltage := if_pos he
  have hin : d0.cellIn = d.cellIn := by simp only [Dev.cellIn, d0, hcfg, hmsu]
  have hsyn : d1.steerCell.steerVoltage.syn.cell = d0.syn.cell.evaluated (d.cellIn.eval cellLimits) := by
    rw [← hin]
    simp [d1, Dev.setCellCh]
  have hsteer : d1.steeredFrom d1.steerCell.steerVoltage.syu :=
    Dev.steerBoth_effect ((Dev.joinOpen_of_frame (e := d1) hhoc hctc).trans hj) (show d0.syu.bounded from hsyu.symm ▸ hb)
  rw [ht]
  refine ⟨?_, ?_, ?_⟩
  · rw [hsyn]
    exact d.watchTie_cell.1.evaluated _
  · rw [hsyn]
    rfl
  · have hd1 : d1.syu = d.syu ∧ d1.msu = d.msu ∧ d1.cfg = d.cfg := ⟨hsyu, hmsu, hcfg⟩
    unfold Dev.steeredFrom at hsteer
    rwa [hd1.1, hd1.2.1, hd1.2.2] at hsteer

/-- R115: a close request's tests look at the records, the handover state, the link state and the run state alone. -/
theorem Dev.closeRefusal_of_frame {d e : Dev} (hr : e.run = d.run) (hl : e.lnk = d.lnk) (hh : e.hoc = d.hoc) (hc : e.ctc = d.ctc)
    (x : Outlet) : e.closeRefusal x = d.closeRefusal x := by
  have hcon : e.con = d.con := funext fun z => by rw [Dev.con, hc, Dev.con]
  simp only [Dev.closeRefusal, hcon, hr, hl, hh, hc]

/-- The channel and the records after a bus crossing: a MET whose close is taken starts it and stops the watch (R75, R95, R102, R115). -/
theorem Dev.busCrossing_met {d : Dev} {x : Outlet} (hx : d.hoc.assignment = some x) (hst : d.hoc.state = .joining)
    (ho : d.con x = .opened) (he : d.cellEvaluates = true) :
    let t := d.busCrossing
    let c := d.cellCrossing.syn.cell
    t.hoc = d.hoc ∧ t.syu = d.cellCrossing.syu ∧
      (c.state = .met ∧ d.closeRefusal x = none →
        t.ctc = d.ctc.set x ((d.ctc.get x).startClose d.cfg.closePulse) ∧ t.syn.cell = { c with watch := none }) ∧
      (¬(c.state = .met ∧ d.closeRefusal x = none) → t.ctc = d.ctc ∧ t.syn.cell = c) := by
  obtain ⟨hrun, -, hcfg, hlnk, -, -, hctc, hhoc, -⟩ := d.cellCrossing_frame
  have hbus : d.busCrossing = (if d.cellCrossing.syn.cell.state = .met then d.cellCrossing.takeMet else d.cellCrossing) := if_pos he
  have hrefuse : d.cellCrossing.closeRefusal x = d.closeRefusal x := Dev.closeRefusal_of_frame hrun hlnk hhoc hctc x
  generalize d.cellCrossing = d1 at *
  have ho1 : d1.con x = .opened := by rw [Dev.con, hctc]; exact ho
  have hx1 : d1.hoc.assignment = some x := by rw [hhoc]; exact hx
  have htake : d1.takeMet = (if d.closeRefusal x = none then d1.startClose x else d1) := by
    simp only [Dev.takeMet, hhoc, hx, hst, ho1, hrefuse, true_and]
  by_cases hmet : d1.syn.cell.state = .met ∧ d.closeRefusal x = none
  · obtain ⟨hm, hn⟩ := hmet
    have hclose : d1.startClose x =
        (d1.setCon x ((d1.ctc.get x).startClose d1.cfg.closePulse)).setCellCh { d1.syn.cell with watch := none } := by
      rw [Dev.startClose, Dev.changeCon_from_opened ho1 (by simp [Contactor.startClose]) (by simp [Contactor.startClose]),
        if_pos ⟨hx1, d1.syn.cell.running_iff.2 (.inr hm)⟩]
    rw [hbus, if_pos hm, htake, if_pos hn, hclose, ← hctc, ← hcfg]
    exact ⟨hhoc, rfl, fun _ => ⟨rfl, rfl⟩, fun h => absurd ⟨hm, hn⟩ h⟩
  · have hstay : d.busCrossing = d1 := by
      rw [hbus]
      split
      · next hm => rw [htake, if_neg fun hn => hmet ⟨hm, hn⟩]
      · rfl
    rw [hstay]
    exact ⟨hhoc, rfl, fun h => absurd h hmet, fun _ => ⟨hctc, rfl⟩⟩

/-- The crossing of a ship channel that is not MATCHING's leaves the cell channel and the synthesis unit. -/
theorem Dev.shipCrossing_cell (d : Dev) : d.shipCrossing.syn.cell = d.syn.cell := by
  unfold Dev.shipCrossing
  split
  · simp only [Dev.steerShip_frame, Dev.setShipCh, Dev.setSyn_syn]
    exact d.watchTie_ship.2
  · rfl

end Sys2Proof.Machine

/-! ### A ship crossing in MATCHING (R91, R96, R99) -/

namespace Sys2Proof.Machine

/-- R30, R99: what the steering of a ship crossing leaves of the ramp offset. -/
def Dev.shipSteeredFrom (d : Dev) (t : Syu) : Prop :=
  t = { d.syu with fRamp := t.fRamp } ∧
    (∀ a b : Nat, d.msu.bus.validFreq = some a → d.msu.ship.validFreq = some b →
      t.fRamp = max (-3000) (min 3000 (d.syu.fRamp + d.syu.steered (4 * d.cfg.rampStep) ((b : Int) + 60 - a)))) ∧
    (d.msu.bus.validFreq = none ∨ d.msu.ship.validFreq = none → t.fRamp = d.syu.fRamp)

theorem Dev.steerShip_steered {d : Dev} (hst : d.hoc.state = .matching) (hm : d.ownMember = true) (hb : d.syu.bounded) :
    d.shipSteeredFrom d.steerShip.syu := by
  obtain ⟨hsome, hnone⟩ := Dev.steerShip_effect hst hm hb
  rcases none_or_none_or_some d.msu.bus.validFreq d.msu.ship.validFreq with hn | ⟨a, b, ha, hship⟩
  · rw [hnone hn]
    refine ⟨rfl, fun a b ha hship => ?_, fun _ => rfl⟩
    rcases hn with hn | hn <;> simp_all
  · rw [hsome a b ha hship]
    refine ⟨rfl, fun a' b' ha' hship' => ?_, fun hn => ?_⟩
    · obtain rfl := Option.some.inj (ha.symm.trans ha')
      obtain rfl := Option.some.inj (hship.symm.trans hship')
      rfl
    · rcases hn with hn | hn <;> simp_all

theorem Dev.shipCrossing_effect {d : Dev} {x : Outlet} (hx : d.hoc.assignment = some x) (hst : d.hoc.state = .matching)
    (hc : d.con x = .closed) (hr : d.syn.ship.running = true) (hb : d.syu.bounded) :
    let t := d.shipCrossing
    let e := d.shipIn.eval shipLimits
    (d.syn.ship.evaluatedTo e t.syn.ship ∨
        d.watchDue d.syn.ship = true ∧ ({ d.syn.ship with state := .seeking, good := 0 } : Channel).evaluatedTo e t.syn.ship) ∧
      t.syn.ship.watch = some 0 ∧ d.shipSteeredFrom t.syu := by
  let d0 := d.watchTie .ship (d.watchDue d.syn.ship)
  let d1 := d0.setShipCh (d0.syn.ship.evaluated (d0.shipIn.eval shipLimits))
  obtain ⟨-, -, hcfg, -, -, hmsu, hsyu, hctc, hhoc, -⟩ := d.watchTie_frame .ship (d.watchDue d.syn.ship)
  have ht : d.shipCrossing = d1.steerShip := if_pos hr
  have hin : d0.shipIn = d.shipIn := by simp only [Dev.shipIn, d0, hmsu, hhoc]
  have hsyn : d1.steerShip.syn.ship = d0.syn.ship.evaluated (d.shipIn.eval shipLimits) := by
    rw [← hin]
    simp [d1, Dev.setShipCh]
  have hmember : d1.ownMember = true := by
    refine (Dev.ownMember_iff (d := d1) (x := x) ((congrArg Hoc.assignment hhoc).trans hx)).2 ?_
    rw [Dev.con, show d1.ctc = d.ctc from hctc]
    exact hc
  have hsteer : d1.shipSteeredFrom d1.steerShip.syu :=
    Dev.steerShip_steered ((congrArg Hoc.state hhoc).trans hst) hmember (show d0.syu.bounded from hsyu.symm ▸ hb)
  rw [ht]
  refine ⟨?_, ?_, ?_⟩
  · rw [hsyn]
    exact d.watchTie_ship.1.evaluated _
  · rw [hsyn]
    rfl
  · have hd1 : d1.syu = d.syu ∧ d1.msu = d.msu ∧ d1.cfg = d.cfg := ⟨hsyu, hmsu, hcfg⟩
    unfold Dev.shipSteeredFrom at hsteer
    rwa [hd1.1, hd1.2.1, hd1.2.2] at hsteer

end Sys2Proof.Machine

/-! ### The synchroniser's part of an admitted set (R91, R96; log entry 8) -/

namespace Sys2Proof.Machine

/-- The crossings that an admitted set hands to the synchroniser are those of its trackers. -/
theorem Dev.takeSet_crossings {d : Dev} {r : RawSet} (h : d.admits r) :
    let events := (d.msu.takeSet d.cfg d.hoc.assignment d.vRefNow r.seq (d.positions r - 1) (calibrated d.cfg.gains r)).2
    events.busCross = (d.busTracked r).crossed ∧ events.shipCross = (d.shipTracked r).crossed := by
  have hm : d.positions r - 1 + 1 = max 1 (d.positions r) := by omega
  have hn : (if d.msu.lastSeq.isNone then 0 else max 1 (d.positions r)) = d.positions r := by
    by_cases hl : d.msu.lastSeq = none
    · simp [Dev.positions, hl]
    · have hp := Dev.positions_pos h hl
      rw [if_neg (by simpa using hl)]
      omega
  simp only [Msu.takeSet, hm, hn, Dev.busTracked, Dev.shipTracked, Dev.countAt, and_self]

/-- An admitted set below the trip level, behind the measurement: the bus condition, then the crossings. -/
theorem Dev.sampleSet_of_no_trip {d : Dev} {r : RawSet} (h : d.admits r)
    (ho : ¬(calibrated d.cfg.gains r).overLevel d.cfg.iTrip) :
    ∃ c, d.sampleSet r =
      ((d.metered r).takeCond c).takeCrossings (d.busTracked r).crossed (d.shipTracked r).crossed := by
  have htrip : d.comparatorTrips r = false := by
    rw [Bool.eq_false_iff]
    exact fun ht => ho ((d.comparatorTrips_iff r).1 ht).1
  obtain ⟨hb, hs⟩ := Dev.takeSet_crossings h
  have heq : ∃ c, d.sampleSet r = (((d.metered r).overTrip (d.comparatorTrips r)).takeCond c).takeCrossings
      (d.msu.takeSet d.cfg d.hoc.assignment d.vRefNow r.seq (d.positions r - 1) (calibrated d.cfg.gains r)).2.busCross
      (d.msu.takeSet d.cfg d.hoc.assignment d.vRefNow r.seq (d.positions r - 1) (calibrated d.cfg.gains r)).2.shipCross := by
    rw [Dev.sampleSet_of_admits h]
    simp only [Dev.admitSet, Dev.vRefNow, Dev.raiseIf_frame]
    exact ⟨_, rfl⟩
  rwa [hb, hs, htrip] at heq

/-- The set as the synchroniser finds it: its watches have counted the positions, and the quantities are measured. -/
theorem Dev.metered_synchroniser (d : Dev) (r : RawSet) :
    (d.metered r).syn = ⟨d.syn.cell.watchBy (max 1 (d.positions r)), d.syn.ship.watchBy (max 1 (d.positions r))⟩ ∧
      (d.metered r).msu = d.measured r ∧ (d.metered r).run = d.run ∧ (d.metered r).lnk = d.lnk := by
  have hm : d.positions r - 1 + 1 = max 1 (d.positions r) := by omega
  simp [Dev.metered, Dev.watchesBy, hm]

/-- The step leaves the offsets as they are (R22 to R28). -/
theorem Dev.metered_offsets (d : Dev) (r : RawSet) :
    (d.metered r).syu.fRamp = d.syu.fRamp ∧ (d.metered r).syu.fJoin = d.syu.fJoin ∧ (d.metered r).syu.vSteer = d.syu.vSteer := by
  rw [Dev.metered_syu]
  by_cases hr : d.syu.run = true
  · rw [Dev.steppedSyu_of_run hr]
    exact ⟨rfl, rfl, rfl⟩
  · rw [Dev.steppedSyu_of_stopped (by simpa using hr)]
    exact ⟨rfl, rfl, rfl⟩

theorem Dev.watchLength_eq {d : Dev} {x : Outlet} (hx : d.hoc.assignment = some x) :
    d.watchLength = (if (d.hoc.session x).map Session.fNom = some 60000 then 320 else 384) := by
  simp only [Dev.watchLength, Hoc.ownSession, hx, Option.bind_some]
  cases d.hoc.session x <;> simp

/-- A measurement leaves the bus condition, which is handed out behind it (R12). -/
theorem Dev.measured_busCond {d : Dev} {r : RawSet} (h : d.admits r) : (d.measured r).busCond = d.msu.busCond := by
  rw [Dev.measured_eq h, Msu.cellSet_eq]
  rfl

/-- A bus condition that stands as before is not handed out (R12). -/
theorem Dev.takeCond_of_same {d : Dev} {c : Option BusCond} (h : (d.takeCond c).msu.busCond = d.msu.busCond) : d.takeCond c = d := by
  rw [Dev.takeCond_msu] at h
  cases c with
  | none => rfl
  | some v => exact if_pos h.symm

/-- A member does not reconsider on a change of the bus condition (R113, R115). -/
theorem Dev.takeCond_of_matching {d : Dev} (h : d.hoc.state = .matching) (c : Option BusCond) :
    d.takeCond c = d.setMsu { d.msu with busCond := c.getD d.msu.busCond } := by
  cases c with
  | none => rfl
  | some v =>
    change d.setBusCond v = _
    unfold Dev.setBusCond
    split
    · next hv => rw [← hv]; rfl
    · have hst : (d.setMsu { d.msu with busCond := v }).hoc.state = .matching := h
      simp only [Dev.reconsider, hst]
      rfl

end Sys2Proof.Machine

/-! ### An admitted set at a joining cell and at a cell in MATCHING -/

namespace Sys2Proof.Machine

section
variable {d : Dev} {r : RawSet} (h : d.admits r) (ho : ¬(calibrated d.cfg.gains r).overLevel d.cfg.iTrip)
include h ho

/-- An admitted set at a joining cell whose bus condition stays: the synchroniser's and the handover controller's part of it is that of the
bus crossing. -/
theorem Dev.sampleSet_of_joining (hst : d.hoc.state = .joining) (hcond : (d.sampleSet r).msu.busCond = d.msu.busCond) {e : Dev}
    (hbus : (if (d.busTracked r).crossed then (d.metered r).busCrossing else d.metered r) = e) (he : e.hoc = d.hoc) :
    (d.sampleSet r).syn.cell = e.syn.cell ∧ (d.sampleSet r).syu = e.syu ∧ (d.sampleSet r).ctc = e.ctc ∧
      (d.sampleSet r).hoc = d.hoc ∧ (d.sampleSet r).msu = (d.metered r).msu := by
  obtain ⟨c, ht⟩ := Dev.sampleSet_of_no_trip h ho
  have hmsu := (d.metered_synchroniser r).2.1
  have hsame : (d.metered r).takeCond c = d.metered r := by
    refine Dev.takeCond_of_same ?_
    rw [ht, Dev.takeCrossings_msu] at hcond
    rw [hcond, hmsu, Dev.measured_busCond h]
  rw [hsame] at ht
  have hmsut : (d.sampleSet r).msu = (d.metered r).msu := by rw [ht, Dev.takeCrossings_msu]
  have hte : d.sampleSet r = (if (d.shipTracked r).crossed then e.shipCrossing else e) := by rw [← hbus]; exact ht
  have hnot : e.hoc.state ≠ .matching := by rw [he, hst]; decide
  refine ⟨?_, ?_, ?_, ?_, hmsut⟩
  · rw [hte]
    split
    · exact e.shipCrossing_cell
    · rfl
  · rw [hte]
    split
    · exact Dev.shipCrossing_syu hnot
    · rfl
  · rw [hte]
    split <;> simp
  · rw [hte]
    split <;> simp [he]

omit h ho in
/-- With the assigned contactor CLOSED the cell channel takes no evaluation (R91, R102). -/
theorem Dev.busCrossing_of_closed {x : Outlet} (hx : d.hoc.assignment = some x) (hc : d.con x = .closed) : d.busCrossing = d := by
  refine if_neg ?_
  simp [Dev.cellEvaluates, Dev.ownCon, hx, hc]

/-- An admitted set in MATCHING: a change of the bus condition is taken without effect, a bus crossing finds the contactor CLOSED, and the ship
crossing is evaluated. -/
theorem Dev.sampleSet_of_matching {x : Outlet} (hx : d.hoc.assignment = some x) (hst : d.hoc.state = .matching)
    (hc : d.con x = .closed) :
    ∃ b, d.sampleSet r =
      (if (d.shipTracked r).crossed then ((d.metered r).setMsu { d.measured r with busCond := b }).shipCrossing
       else (d.metered r).setMsu { d.measured r with busCond := b }) := by
  obtain ⟨hhoc, hctc, -⟩ := d.metered_frame r
  obtain ⟨c, ht⟩ := Dev.sampleSet_of_no_trip h ho
  rw [Dev.takeCond_of_matching (by rw [hhoc]; exact hst), (d.metered_synchroniser r).2.1] at ht
  refine ⟨c.getD (d.measured r).busCond, ?_⟩
  have hbus : ((d.metered r).setMsu { d.measured r with busCond := c.getD (d.measured r).busCond }).busCrossing =
      (d.metered r).setMsu { d.measured r with busCond := c.getD (d.measured r).busCond } := by
    refine Dev.busCrossing_of_closed (x := x) (by rw [Dev.setMsu_hoc, hhoc]; exact hx) ?_
    rw [Dev.con, Dev.setMsu_ctc, hctc]
    exact hc
  rw [ht, Dev.takeCrossings, hbus, ite_self]

end

theorem Dev.busRises_iff {d : Dev} {x : Outlet} (hx : d.hoc.assignment = some x) (r : RawSet) :
    (d.busTracked r).crossed = true ↔
      d.msu.bus.rises ((calibrated d.cfg.gains r).busOf x) (d.msu.lastSet.map (fun l => l.busOf x)) := by
  rw [Dev.busTracked_crossed, Dev.busRises]
  exact ⟨fun ⟨y, hy, hr⟩ => by obtain rfl := Option.some.inj (hx.symm.trans hy); exact hr, fun hr => ⟨x, hx, hr⟩⟩

theorem Dev.shipRises_iff {d : Dev} {x : Outlet} (hx : d.hoc.assignment = some x) (r : RawSet) :
    (d.shipTracked r).crossed = true ↔
      d.msu.ship.rises ((calibrated d.cfg.gains r).shipOf x) (d.msu.lastSet.map (fun l => l.shipOf x)) := by
  rw [Dev.shipTracked_crossed, Dev.shipRises]
  exact ⟨fun ⟨y, hy, hr⟩ => by obtain rfl := Option.some.inj (hx.symm.trans hy); exact hr, fun hr => ⟨x, hx, hr⟩⟩

/-- R91, R96: an evaluation at the crossing of an admitted set, in the words of the rules: from the channel as it stood before the set, or, where
the set brings its watch to the length, from a count of 0 in SEEKING. -/
def Dev.evaluatedAt (d : Dev) (r : RawSet) (x : Outlet) (c : Channel) (e : Eval) (t : Channel) : Prop :=
  c.evaluatedTo e t ∨
    (∃ n, c.watch = some n ∧ (if (d.hoc.session x).map Session.fNom = some 60000 then 320 else 384) ≤ n + max 1 (d.positions r)) ∧
      ({ c with state := .seeking, good := 0 } : Channel).evaluatedTo e t

theorem Dev.evaluatedAt_of_tie {d : Dev} {r : RawSet} {x : Outlet} (hx : d.hoc.assignment = some x) {m : Dev} (hm : m.hoc = d.hoc)
    {c t : Channel} {e : Eval}
    (h : (c.watchBy (max 1 (d.positions r))).evaluatedTo e t ∨
      m.watchDue (c.watchBy (max 1 (d.positions r))) = true ∧
        ({ c.watchBy (max 1 (d.positions r)) with state := .seeking, good := 0 } : Channel).evaluatedTo e t) :
    d.evaluatedAt r x c e t := by
  refine h.imp id fun ⟨hdue, hev⟩ => ⟨?_, hev⟩
  obtain ⟨-, n, hw, hlen⟩ := (m.watchDue_iff _).1 hdue
  obtain ⟨k, hk, rfl⟩ := Option.map_eq_some_iff.1 hw
  rw [Dev.watchLength_eq (x := x) (by rw [hm]; exact hx), hm] at hlen
  exact ⟨k, hk, hlen⟩

/-- The evaluation's result does not depend on what becomes of the watch. -/
theorem Dev.evaluatedAt.of_watch {d : Dev} {r : RawSet} {x : Outlet} {c t : Channel} {e : Eval} (h : d.evaluatedAt r x c e t)
    (v : Timer) : d.evaluatedAt r x c e { t with watch := v } := h

theorem Dev.metered_bounded (d : Dev) (r : RawSet) (hb : d.syu.bounded) : (d.metered r).syu.bounded := by
  obtain ⟨hramp, hjoin, hsteer⟩ := d.metered_offsets r
  simpa only [Syu.bounded, hramp, hjoin, hsteer] using hb

section
variable {d : Dev} {r : RawSet} {x : Outlet} (h : d.admits r) (ho : ¬(calibrated d.cfg.gains r).overLevel d.cfg.iTrip)
  (hx : d.hoc.assignment = some x) (hb : d.syu.bounded)
include h ho hx hb

/-- R91, R95 to R98, R115: a bus crossing in an admitted set of a joining cell whose bus condition stays. -/
theorem Dev.sampleSet_bus_crossing (hst : d.hoc.state = .joining) (hop : d.con x = .opened)
    (hr : d.syn.cell.state = .seeking ∨ d.syn.cell.state = .met) (hcond : (d.sampleSet r).msu.busCond = d.msu.busCond)
    (hcross : (d.busTracked r).crossed = true) :
    let m := d.metered r
    let t := d.sampleSet r
    t.msu = m.msu ∧ t.hoc = d.hoc ∧ m.steeredFrom t.syu ∧ d.evaluatedAt r x d.syn.cell (m.cellIn.eval cellLimits) t.syn.cell ∧
      (t.syn.cell.state = .met ∧ d.closeRefusal x = none →
        t.ctc = d.ctc.set x ((d.ctc.get x).startClose d.cfg.closePulse) ∧ t.syn.cell.watch = none) ∧
      (¬(t.syn.cell.state = .met ∧ d.closeRefusal x = none) → t.ctc = d.ctc ∧ t.syn.cell.watch = some 0) := by
  intro m t
  obtain ⟨hhoc, hctc, hcfg⟩ := d.metered_frame r
  obtain ⟨hsyn, -, hrun, hlnk⟩ := d.metered_synchroniser r
  have hcon : m.con = d.con := funext fun z => by rw [Dev.con, hctc, Dev.con]
  have hmx : m.hoc.assignment = some x := by rw [hhoc]; exact hx
  have hevaluates : m.cellEvaluates = true := by
    have hrunning : m.syn.cell.running = true := by rw [hsyn]; exact (Channel.running_iff _).2 hr
    simp [Dev.cellEvaluates, hrunning, Dev.ownCon, hmx, hcon, hop]
  have hopen : m.joinOpen = true := by
    rw [Dev.joinOpen_of_frame hhoc hctc]
    simp [Dev.joinOpen, hst, Dev.ownMember, Dev.ownCon, hx, hop]
  obtain ⟨heval, hwatch, hsteered⟩ := Dev.cellCrossing_effect hevaluates hopen (d.metered_bounded r hb)
  obtain ⟨hbhoc, hbsyu, htaken, hrefused⟩ :=
    Dev.busCrossing_met hmx (by rw [hhoc]; exact hst) (by rw [hcon]; exact hop) hevaluates
  obtain ⟨htcell, htsyu, htctc, hthoc, htmsu⟩ := Dev.sampleSet_of_joining h ho hst hcond (if_pos hcross) (hbhoc.trans hhoc)
  rw [hsyn] at heval
  have hat := Dev.evaluatedAt_of_tie hx hhoc heval
  rw [Dev.closeRefusal_of_frame hrun hlnk hhoc hctc, hctc, hcfg] at htaken
  rw [Dev.closeRefusal_of_frame hrun hlnk hhoc hctc, hctc] at hrefused
  refine ⟨htmsu, hthoc, by rw [htsyu, hbsyu]; exact hsteered, ?_⟩
  by_cases hmet : m.cellCrossing.syn.cell.state = .met ∧ d.closeRefusal x = none
  · obtain ⟨hc, hcell⟩ := htaken hmet
    rw [htctc, htcell, hc, hcell]
    exact ⟨hat.of_watch none, fun _ => ⟨rfl, rfl⟩, fun hn => absurd hmet hn⟩
  · obtain ⟨hc, hcell⟩ := hrefused hmet
    rw [htctc, htcell, hc, hcell]
    exact ⟨hat, fun hy => absurd hy hmet, fun _ => ⟨rfl, hwatch⟩⟩

/-- R91, R96, R99: a ship crossing in an admitted set of a cell in MATCHING. -/
theorem Dev.sampleSet_ship_crossing (hst : d.hoc.state = .matching) (hcl : d.con x = .closed)
    (hr : d.syn.ship.state = .seeking ∨ d.syn.ship.state = .met) (hcross : (d.shipTracked r).crossed = true) :
    let m := d.metered r
    let t := d.sampleSet r
    t.hoc = d.hoc ∧ t.syn.ship.watch = some 0 ∧ (∃ b, t.msu = { m.msu with busCond := b }) ∧ m.shipSteeredFrom t.syu ∧
      d.evaluatedAt r x d.syn.ship (m.shipIn.eval shipLimits) t.syn.ship := by
  intro m t
  obtain ⟨hhoc, hctc, -⟩ := d.metered_frame r
  obtain ⟨hsyn, hmsu, -, -⟩ := d.metered_synchroniser r
  obtain ⟨b, hb2⟩ := Dev.sampleSet_of_matching h ho hx hst hcl
  rw [if_pos hcross, ← hmsu] at hb2
  let m2 := m.setMsu { m.msu with busCond := b }
  have ht : t = m2.shipCrossing := hb2
  have hcon : m2.con x = .closed := by rw [Dev.con, show m2.ctc = d.ctc from hctc]; exact hcl
  have hrunning : m2.syn.ship.running = true := by
    rw [show m2.syn = _ from hsyn]
    exact (Channel.running_iff _).2 hr
  have hm2 : m2.hoc = d.hoc := hhoc
  obtain ⟨heval, hwatch, hsteered⟩ := Dev.shipCrossing_effect (d := m2) (by rw [hm2]; exact hx) (by rw [hm2]; exact hst) hcon hrunning
    (d.metered_bounded r hb)
  rw [show m2.syn = _ from hsyn] at heval
  rw [ht]
  exact ⟨by rw [m2.shipCrossing_frame.2.2.2.2.2.2.2.1, hm2], hwatch, ⟨b, m2.shipCrossing_frame.2.2.2.2.2.1⟩, hsteered,
    Dev.evaluatedAt_of_tie hx hm2 heval⟩
end

end Sys2Proof.Machine

/-! ### The settlement -/

namespace Sys2Proof.Machine

theorem exec_crossingWatchExpiry_up {s : State} (h : s.dev.awake) (c : ChannelId) :
    exec (.crossingWatchExpiry c) s = .next (s.onDev (Dev.watchExpiry c)) := State.run_up h _

/-- R96: a crossing watch that is due is a bad evaluation of its channel; one that is not due is nothing. -/
theorem crossingWatch_expires (s : State) (h : s.dev.awake) :
    (s.dev.watchDue s.dev.syn.cell = false → exec (.crossingWatchExpiry .cell) s = .next s) ∧
      (s.dev.watchDue s.dev.syn.ship = false → exec (.crossingWatchExpiry .ship) s = .next s) ∧
      (s.dev.watchDue s.dev.syn.cell = true → exec (.crossingWatchExpiry .cell) s =
        .next { s with dev := s.dev.setCellCh (s.dev.syn.cell.evaluated Eval.watchBad) }) ∧
      (s.dev.watchDue s.dev.syn.ship = true → exec (.crossingWatchExpiry .ship) s =
        .next { s with dev := s.dev.setShipCh (s.dev.syn.ship.evaluated Eval.watchBad) }) := by
  rw [exec_crossingWatchExpiry_up h, exec_crossingWatchExpiry_up h]
  refine ⟨fun hn => ?_, fun hn => ?_, fun hd => ?_, fun hd => ?_⟩
  · rw [State.onDev_eq_self (show s.dev.watchExpiry .cell = s.dev from if_neg (by simp [hn]))]
  · rw [State.onDev_eq_self (show s.dev.watchExpiry .ship = s.dev from if_neg (by simp [hn]))]
  · rw [State.onDev, show s.dev.watchExpiry .cell = _ from if_pos hd]
  · rw [State.onDev, show s.dev.watchExpiry .ship = _ from if_pos hd]

/-- Settles O47: the expiry of a watch, then the crossing of an admitted set in JOINING and in MATCHING. -/
theorem crossingWatchIsABadEvaluation : Obligations.CrossingWatchIsABadEvaluation := by
  refine ⟨fun s h => ?_, fun s raw x h ho hx hb => ?_⟩
  · intro len bad due
    obtain ⟨hcell, hship, hcell2, hship2⟩ := crossingWatch_expires s h
    have hdue (c : Channel) : s.dev.watchDue c = true ↔ due c := s.dev.watchDue_iff c
    have hnot (c : Channel) (hn : ¬due c) : s.dev.watchDue c = false := by
      rw [← hdue] at hn
      simpa using hn
    exact ⟨fun hn => hcell (hnot _ hn), fun hn => hship (hnot _ hn), fun hd => hcell2 ((hdue _).2 hd), fun hd => hship2 ((hdue _).2 hd)⟩
  · intro c busCrosses shipCrosses valid limit len evaluated
    obtain ⟨hhoc, hctc, hcfg⟩ := s.dev.metered_frame raw
    obtain ⟨hsyn, hmsu, hrun, hlnk⟩ := s.dev.metered_synchroniser raw
    obtain ⟨hramp, hjoin, hsteer⟩ := s.dev.metered_offsets raw
    refine ⟨_, exec_sampleSet_up h.1 raw, rfl, fun hst hop hr hcond => ⟨fun hn => ?_, fun hcross => ?_⟩,
      fun hst hcl hr => ⟨fun hn => ?_, fun hcross => ?_⟩⟩
    · have hbus : (if (s.dev.busTracked raw).crossed then (s.dev.metered raw).busCrossing else s.dev.metered raw) = s.dev.metered raw :=
        if_neg fun hc => hn ((Dev.busRises_iff hx raw).1 hc)
      obtain ⟨hcell, hsyu, hrec, -, -⟩ := Dev.sampleSet_of_joining h ho hst hcond hbus hhoc
      rw [State.onDev_dev, hcell, hsyu, hrec, hsyn]
      exact ⟨rfl, rfl, rfl, hjoin, hsteer, rfl, hctc⟩
    · obtain ⟨hm, hh, ⟨hs, hfjoin, hfkept, hvsteer, hvkept⟩, heval, htaken, hrefused⟩ :=
        Dev.sampleSet_bus_crossing h ho hx hb hst hop hr hcond ((Dev.busRises_iff hx raw).2 hcross)
      have hsteered (step v : Int) : (s.dev.sampleSet raw).syu.steered step v = (s.dev.metered raw).syu.steered step v := by
        rw [hs]
        rfl
      rw [hjoin, hcfg] at hfjoin
      rw [hjoin] at hfkept
      rw [hsteer] at hvsteer hvkept
      rw [State.onDev_dev, hm]
      refine ⟨_, ?_, heval, by rw [hh]; exact hst, fun a b ha hb => ?_, hfkept, hvsteer, hvkept, fun hmet hn => ?_, fun hor => ?_⟩
      · rw [← hcfg]
        exact EvalIn.eval_formed cellLimits (s.dev.metered raw).cellIn
      · rw [hsteered]
        exact hfjoin a b ha hb
      · obtain ⟨hrec, hwatch⟩ := htaken ⟨hmet, hn⟩
        rw [hrec, Ctc.get_set_same, Ctc.get_set_other]
        exact ⟨rfl, rfl, hwatch⟩
      · exact hrefused fun hy => hor.elim (fun hn => hn hy.1) fun hn => hn hy.2
    · obtain ⟨b, ht⟩ := Dev.sampleSet_of_matching h ho hx hst hcl
      rw [if_neg fun hc => hn ((Dev.shipRises_iff hx raw).1 hc)] at ht
      rw [State.onDev_dev, ht, Dev.setMsu_syn, Dev.setMsu_syu, hsyn]
      exact ⟨rfl, rfl, hramp⟩
    · obtain ⟨hh, hwatch, ⟨b, hm⟩, ⟨hs, hsome, hnone⟩, heval⟩ :=
        Dev.sampleSet_ship_crossing h ho hx hb hst hcl hr ((Dev.shipRises_iff hx raw).2 hcross)
      have hsteered (step v : Int) : (s.dev.sampleSet raw).syu.steered step v = (s.dev.metered raw).syu.steered step v := by
        rw [hs]
        rfl
      rw [hramp, hcfg] at hsome
      rw [hramp] at hnone
      rw [State.onDev_dev, hm]
      refine ⟨_, ?_, heval, hwatch, by rw [hh]; exact hst, fun a b ha hb => ?_, hnone⟩
      · have hform := EvalIn.eval_formed shipLimits (s.dev.metered raw).shipIn
        have hclosing : (s.dev.metered raw).shipIn.closing = ((s.dev.hoc.session x).map Session.closing).getD 0 := by
          simp [Dev.shipIn, hhoc, Hoc.ownSession, hx]
        rw [hclosing] at hform
        exact hform
      · rw [hsteered]
        exact hsome a b ha hb

end Sys2Proof.Machine

/-! # The order path without an owner's effect (O31, O32; R55, R169, R176, R177) -/

namespace Sys2Proof.Machine

/-- Every order row runs the order path with its head and its order (Table 3-4). -/
theorem exec_of_head {c : Instr} {h : OrderHead} (hc : c.head = some h) :
    ∃ o : Order, orderKindOf c = some o.kind ∧ ∀ s, exec c s = s.run (Dev.whenUp (Dev.order h o)) := by
  cases c <;> cases hc
  case assign x => exact ⟨.assign x, rfl, fun _ => rfl⟩
  case unassign => exact ⟨.unassign, rfl, fun _ => rfl⟩
  case sessionOpen f => exact ⟨.sessionOpen f, rfl, fun _ => rfl⟩
  case sessionClose x id => exact ⟨.sessionClose x id, rfl, fun _ => rfl⟩
  case startTransfer x => exact ⟨.startTransfer x, rfl, fun _ => rfl⟩
  case startDeparture x => exact ⟨.startDeparture x, rfl, fun _ => rfl⟩
  case clearTrip => exact ⟨.clearTrip, rfl, fun _ => rfl⟩
  case tariff n g => exact ⟨.tariff n g, rfl, fun _ => rfl⟩
  case collect p n => exact ⟨.collect p n, rfl, fun _ => rfl⟩
  case confirm n => exact ⟨.confirm n, rfl, fun _ => rfl⟩
  case flush => exact ⟨.flush, rfl, fun _ => rfl⟩
  case acknowledgeNotices n l => exact ⟨.acknowledge n l, rfl, fun _ => rfl⟩
  case restart p => exact ⟨.restart p, rfl, fun _ => rfl⟩
  case unknownOrder k => exact ⟨.unknown k, rfl, fun _ => rfl⟩

section
variable {d : Dev} {h : OrderHead}

theorem Dev.addressed_iff : d.addressed h = true ↔ h.target.toNat = 0 ∨ h.target.toNat = d.cfg.station := by
  simp [Dev.addressed]

/-- R55: an order for another target, or one whose tag its sender's place holds, is disregarded. -/
theorem Dev.order_of_disregarded
    (hd : (h.target.toNat ≠ 0 ∧ h.target.toNat ≠ d.cfg.station) ∨ d.lnk.remembered h.sender = some h.tag) (o : Order) :
    d.order h o = d := by
  unfold Dev.order
  by_cases ha : d.addressed h = true
  · have hrep : d.lnk.remembered h.sender = some h.tag :=
      hd.resolve_left fun hn => (Dev.addressed_iff.1 ha).elim hn.1 hn.2
    rw [if_neg (by simp [ha]), if_pos hrep]
  · rw [if_pos (by simpa using ha)]

variable (ha : h.target.toNat = 0 ∨ h.target.toNat = d.cfg.station) (hr : d.lnk.remembered h.sender ≠ some h.tag)
include ha hr

/-- R55: an order that finds no free place in the reply queue. -/
theorem Dev.order_of_overrun (hf : 4 ≤ d.ntu.replies.length) (o : Order) :
    d.order h o = (d.setLnk (d.lnk.remember h.sender (some h.tag))).raise .orderOverrun := by
  have hplace : ¬(d.setLnk (d.lnk.remember h.sender (some h.tag))).ntu.hasPlace = true := by simpa [Ntu.hasPlace] using hf
  unfold Dev.order
  rw [if_neg (by simp [Dev.addressed_iff.2 ha]), if_neg hr]
  exact if_neg hplace

/-- R55: an order that finds a place is routed with it, in every run state. -/
theorem Dev.order_of_place (hf : d.ntu.replies.length < 4) (o : Order) : d.order h o = (d.routed o.kind h).route h o := by
  have hplace : (d.setLnk (d.lnk.remember h.sender (some h.tag))).ntu.hasPlace = true := by simpa [Ntu.hasPlace] using hf
  unfold Dev.order
  rw [if_neg (by simp [Dev.addressed_iff.2 ha]), if_neg hr]
  exact if_pos hplace
end

/-- R169: the place that the path has just taken is the one that the answer fills. -/
theorem Dev.reply_routed_of_answered {d : Dev} (ha : d.ntu.answered) (k : OrderKind) (h : OrderHead) (r : Result) :
    Dev.reply (d.routed k h, r) = d.answered k h r := by
  simp only [Dev.reply, Dev.routed, Dev.setNtu, Dev.setLnk, Ntu.fill_taken ha, Dev.answered]

/-- R177: in SHUTDOWN every routed order is refused STATE, RESTART included. -/
theorem Dev.route_of_shutdown {d : Dev} (hs : d.run = .shutdown) (h : OrderHead) (o : Order) :
    d.route h o = Dev.reply (d.refuse .state) := by
  cases o
  case restart p => exact if_neg fun hr => by rw [hs] at hr; cases hr.1
  all_goals exact congrArg Dev.reply (if_pos hs)

/-- R176: RESTART with a contactor not OPEN, or in a member state. -/
theorem Dev.route_restart_of_refused {d : Dev}
    (hn : d.con .a ≠ .opened ∨ d.con .b ≠ .opened ∨ d.hoc.state.isMember = true) (h : OrderHead) (pins : Pins) :
    d.route h (.restart pins) = Dev.reply (d.refuse .state) := by
  refine if_neg fun hr => ?_
  obtain ⟨⟨ha, hb⟩, hm⟩ : (d.ctc.a.state = .opened ∧ d.ctc.b.state = .opened) ∧ d.hoc.state.isMember = false := by
    simpa [Dev.restartAccepted, Ctc.bothOpen] using hr.2
  rcases hn with hn | hn | hn
  · exact hn ha
  · exact hn hb
  · rw [hm] at hn
    cases hn

/-- Settles O31: the two ways in which the order path drops an order. -/
theorem orderPathDisregardsAndDiscards : Obligations.OrderPathDisregardsAndDiscards := by
  intro c h s hs hc
  obtain ⟨o, -, hexec⟩ := exec_of_head hc
  rw [hexec, State.run_up hs]
  refine ⟨fun hd => ?_, fun ha hr hf => ?_⟩
  · rw [State.onDev_eq_self (Dev.order_of_disregarded hd o)]
  · refine ⟨_, rfl, rfl, ?_⟩
    rw [State.onDev_dev, Dev.order_of_overrun ha hr hf]
    exact Dev.raise_onlyRaised _ _

/-- Settles O32: SHUTDOWN, the unknown kind, and RESTART where it may not be. -/
theorem ordersRefusedByRunStateAndKind : Obligations.OrdersRefusedByRunStateAndKind := by
  refine fun s h => ⟨fun c k hs hc hk ha hr hf hans => ?_, fun ht => ⟨fun kind => ?_, fun pins hn => ?_⟩⟩
  · obtain ⟨o, hkind, hexec⟩ := exec_of_head hc
    obtain rfl : o.kind = k := Option.some.inj (hkind.symm.trans hk)
    rw [hexec, State.run_up (Or.inr hs), State.onDev, Dev.order_of_place ha hr hf, Dev.route_of_shutdown (by simpa using hs)]
    exact congrArg _ (congrArg _ (Dev.reply_routed_of_answered hans _ _ _))
  · have hrun : (s.dev.routed (.unknown kind) h).run ≠ .shutdown := by simp [ht.1]
    refine (State.run_order ht (.unknown kind) (by simp)).trans ?_
    rw [← State.next_reply ht]
    exact congrArg _ (congrArg _ (congrArg Dev.reply (if_neg hrun)))
  · refine (State.run_up (Or.inl ht.1) _).trans ?_
    rw [State.onDev, Dev.order_taken ht, Dev.route_restart_of_refused (by simpa [Dev.con] using hn), ← State.next_reply ht]
    rfl

end Sys2Proof.Machine

/-! # Messages read back, the own mark and the own bulletin (O20, O22, O23; R42, R45, R47, R50, R51, R56, R178) -/

/-! ### Byte order and check words (R178) -/

namespace Sys2Proof.Machine

@[simp] theorem natBe_length (k v : Nat) : (natBe k v).length = k := by
  induction k generalizing v with
  | zero => rfl
  | succ k ih => simp [natBe, ih]

@[simp] theorem intBe_length (k : Nat) (x : Int) : (intBe k x).length = k := natBe_length _ _

@[simp] theorem fitBe_length (k v : Nat) : (fitBe k v).length = k := by
  unfold fitBe
  split <;> simp

theorem beNat_concat (l : List Byte) (x : Byte) : beNat (l ++ [x]) = beNat l * 256 + x.toNat := by
  simp [beNat, List.foldl_append]

/-- R178: k bytes hold a value modulo 256^k. -/
theorem beNat_natBe (k v : Nat) : beNat (natBe k v) = v % 256 ^ k := by
  induction k generalizing v with
  | zero => simp [natBe, beNat, Nat.mod_one]
  | succ k ih =>
    have hsplit : v % 256 ^ (k + 1) = v % 256 + 256 * (v / 256 % 256 ^ k) := by rw [Nat.pow_succ', Nat.mod_mul]
    rw [natBe, beNat_concat, ih, hsplit, BitVec.toNat_ofNat]
    omega

theorem field_append_of_length {l : List Byte} {off : Nat} (h : l.length = off) (m : List Byte) (len : Nat) :
    field (l ++ m) off len = m.take len := by
  rw [field, List.drop_left' h]

@[simp] theorem withCrc16_length (l : List Byte) : (withCrc16 l).length = l.length + 2 := by simp [withCrc16]

/-- R178: a message with its check word after it passes the check. -/
theorem crc16Good_withCrc16 {l : List Byte} {n : Nat} (h : l.length = n) : crc16Good (withCrc16 l) (n + 2) = true := by
  have hword : field (withCrc16 l) n 2 = natBe 2 (crc16 l).toNat := by
    rw [withCrc16, field_append_of_length h, List.take_of_length_le (by simp)]
  have htaken : (withCrc16 l).take n = l := by
    rw [withCrc16, List.take_left' h]
  simp [crc16Good, hword, htaken, h]

/-- Table 12-1: a mark is decoded to the cycle number and the station it was encoded from. -/
theorem decodeMark_encodeMark {cycle station : Nat} (hc : cycle ≤ 65535) (hk : station ≤ 31) :
    decodeMark (encodeMark cycle station) = some (cycle, station) := by
  have hgood : crc16Good (encodeMark cycle station) 6 = true := crc16Good_withCrc16 (by simp)
  have hnumber : field (encodeMark cycle station) 1 2 = natBe 2 cycle := by
    simp only [encodeMark, withCrc16, List.cons_append, List.append_assoc, field, List.drop_succ_cons, List.drop_zero]
    exact List.take_left' (natBe_length 2 cycle)
  have hsender : byteAt (encodeMark cycle station) 3 = BitVec.ofNat 8 station := by
    simp only [encodeMark, withCrc16, byteAt, List.getD_eq_getElem?_getD]
    simp [natBe]
  have hfirst : byteAt (encodeMark cycle station) 0 = 165 := rfl
  rw [decodeMark, hgood, hfirst, hnumber, hsender, beNat_natBe, BitVec.toNat_ofNat, Nat.mod_eq_of_lt (by omega),
    Nat.mod_eq_of_lt (by omega)]
  rfl

end Sys2Proof.Machine

/-! ### The own mark (R42, R45) -/

namespace Sys2Proof.Machine

theorem exec_sendMark_up {s : State} (h : s.dev.awake) : exec .sendMark s = .next (s.onDev Dev.sendMark) := State.run_up h _

/-- R42, R45: the link's records of a cycle in which the own mark is sent. -/
def Lnk.markSent (l : Lnk) (station : Nat) : Lnk :=
  { l with
    contending := false
    markSender := true
    refSender := some station
    markTx := some (encodeMark l.cycle station)
    markAge := 0
    markOut := some (encodeMark l.cycle station) }

section
variable {d : Dev} (hs : d.lnk.state = .aligned) (hc : d.lnk.contending = true) (hk : d.cfg.station ≠ 0)
include hs hc hk

/-- R45: another station marked the cycle before. -/
theorem Dev.sendMark_of_change {p : Nat} (hp : d.lnk.prevRef = some p) (hne : p ≠ d.cfg.station) :
    d.sendMark = (d.setLnk (d.lnk.markSent d.cfg.station)).raise .markChange := by
  simp [Dev.sendMark, hs, hc, hk, hp, hne, Dev.raiseIf, Lnk.markSent]

/-- R45: no station, or the own one, marked the cycle before. -/
theorem Dev.sendMark_of_no_change (hp : d.lnk.prevRef = none ∨ d.lnk.prevRef = some d.cfg.station) :
    d.sendMark = d.setLnk (d.lnk.markSent d.cfg.station) := by
  rcases hp with hp | hp <;> simp [Dev.sendMark, hs, hc, hk, hp, Dev.raiseIf, Lnk.markSent]
end

/-- Settles O20: the mark of a contending cell by the sender of the cycle before, and the cell that sends none. -/
theorem sendMarkPutsAMarkOnTheLine : Obligations.SendMarkPutsAMarkOnTheLine := by
  intro s h
  rw [exec_sendMark_up h]
  refine ⟨fun hs hc hk hle hcyc => ?_, fun hn => ?_⟩
  · refine ⟨_, encodeMark s.dev.lnk.cycle s.dev.cfg.station, rfl, rfl, by simp [encodeMark], decodeMark_encodeMark hcyc hle, ?_⟩
    rw [State.onDev_dev]
    by_cases hp : ∃ p, s.dev.lnk.prevRef = some p ∧ p ≠ s.dev.cfg.station
    · obtain ⟨p, hp, hne⟩ := hp
      rw [Dev.sendMark_of_change hs hc hk hp hne]
      refine ⟨rfl, fun _ => Ntu.raise_raisedTo _ _ _, fun hn => ?_⟩
      rw [hp] at hn
      exact absurd hn (by simpa using hne)
    · have hp2 : s.dev.lnk.prevRef = none ∨ s.dev.lnk.prevRef = some s.dev.cfg.station := by
        cases hv : s.dev.lnk.prevRef with
        | none => exact .inl rfl
        | some p => exact .inr (congrArg some (by_contra fun hne => hp ⟨p, hv, hne⟩))
      rw [Dev.sendMark_of_no_change hs hc hk hp2]
      exact ⟨rfl, fun hn => absurd hn hp, fun _ => rfl⟩
  · have hnot : ¬(s.dev.lnk.state = .aligned ∧ s.dev.lnk.contending = true ∧ s.dev.cfg.station ≠ 0) := by
      rintro ⟨hs, hc, hk⟩
      rcases hn with hn | hn | hn
      · exact hn hs
      · rw [hn] at hc
        cases hc
      · exact hk hn
    have hnone : s.dev.sendMark = s.dev := if_neg hnot
    rw [State.onDev_eq_self hnone]

end Sys2Proof.Machine

/-! ### Silence and the lone count (R47, R56) -/

namespace Sys2Proof.Machine

theorem exec_markWindowClose_up {s : State} (h : s.dev.awake) : exec .markWindowClose s = .next (s.onDev Dev.windowClose) :=
  State.run_up h _
theorem exec_silenceCountExpiry_up {s : State} (h : s.dev.awake) :
    exec .silenceCountExpiry s = .next (s.onDev Dev.silenceExpiry) := State.run_up h _
theorem exec_loneCountExpiry_up {s : State} (h : s.dev.awake) : exec .loneCountExpiry s = .next (s.onDev Dev.loneExpiry) :=
  State.run_up h _

/-- R46, R47, R56: the entry to ALIGNED writes the link's own records; R112 may move the blocks behind the handover controller. -/
theorem Dev.becomeAligned_effect (d : Dev) :
    d.becomeAligned.lnk =
      { d.lnk with state := .aligned, faults := [], loneCount := 0, loneReported := false, contending := false } ∧
    d.becomeAligned = { d with
      lnk := d.becomeAligned.lnk, syu := d.becomeAligned.syu, syn := d.becomeAligned.syn, hoc := d.becomeAligned.hoc } := by
  have hlnk : d.becomeAligned.lnk =
      { d.lnk with state := .aligned, faults := [], loneCount := 0, loneReported := false, contending := false } := by
    simp [Dev.becomeAligned]
  obtain ⟨hrun, hpins, hcfg, hptb, hmsu, hctc, hmtr, hrst, hntu, hfree⟩ := d.becomeAligned_frame
  exact ⟨hlnk, by rw [← hrun, ← hpins, ← hcfg, ← hptb, ← hmsu, ← hctc, ← hmtr, ← hrst, ← hntu, ← hfree]⟩

/-- Settles O22: the window's close, and the two counts at and off their ends. -/
theorem silenceAlignsAndIsReported : Obligations.SilenceAlignsAndIsReported := by
  intro s h
  rw [exec_markWindowClose_up h, exec_silenceCountExpiry_up h, exec_loneCountExpiry_up h]
  refine ⟨?_, fun hs hc => ?_, fun hn => ?_, fun hs hc hr => ?_, fun hn => ?_⟩
  · simp [State.onDev, Dev.windowClose, Dev.setLnk]
  · have haligned : s.dev.silenceExpiry = s.dev.becomeAligned := if_pos ⟨hs, hc⟩
    obtain ⟨hlnk, hdev⟩ := s.dev.becomeAligned_effect
    exact ⟨_, rfl, rfl, by rw [State.onDev_dev, haligned]; exact hdev, by rw [State.onDev_dev, haligned]; exact hlnk⟩
  · have hnot : ¬(s.dev.lnk.state = .listen ∧ s.dev.lnk.silenceCount = 25) := fun hy => hn.elim (· hy.1) (· hy.2)
    have hnone : s.dev.silenceExpiry = s.dev := if_neg hnot
    rw [State.onDev_eq_self hnone]
  · have hdue : s.dev.loneExpiry = (s.dev.setLnk { s.dev.lnk with loneReported := true }).raise .linkSilent :=
      if_pos ⟨hs, hc, by simp [hr]⟩
    refine ⟨_, rfl, rfl, ?_⟩
    rw [State.onDev_dev, hdue]
    exact ⟨rfl, Ntu.raise_raisedTo _ _ _⟩
  · have hnot : ¬(s.dev.lnk.state = .aligned ∧ s.dev.lnk.loneCount = 50 ∧ (!s.dev.lnk.loneReported) = true) := by
      rintro ⟨hs, hc, hr⟩
      rcases hn with hn | hn | hn
      · exact hn hs
      · exact hn hc
      · rw [hn] at hr
        cases hr
    have hnone : s.dev.loneExpiry = s.dev := if_neg hnot
    rw [State.onDev_eq_self hnone]

end Sys2Proof.Machine

/-! ### The own bulletin (R50, R51) -/

namespace Sys2Proof.Machine

theorem exec_ownBulletinAssembly_up {s : State} (h : s.dev.awake) :
    exec .ownBulletinAssembly s = .next (s.onDev Dev.assemble) := State.run_up h _

theorem Dev.cellBody_length (d : Dev) : d.cellBody.length = 20 := by simp [Dev.cellBody]

theorem padTo_length {n : Nat} {l : List Byte} (h : l.length ≤ n) : (padTo n l).length = n := by
  rw [padTo, List.length_append, List.length_replicate]
  omega

theorem padTo_of_length {n : Nat} {l : List Byte} (h : l.length = n) : padTo n l = l := by simp [padTo, h]

/-- Table 12-6: an annex fits its 32 bytes where the image of a RECORD does. -/
theorem Annex.bytes_length_le {a : Annex} (h : ∀ i, a = .record i → i.length ≤ 32) : a.bytes.length ≤ 32 := by
  cases a
  case record i => exact h i rfl
  all_goals simp [Annex.bytes]

/-- R104, R123, R124: an outlet annex is no RECORD. -/
theorem Dev.outletAnnex_ne_record (d : Dev) (i : List Byte) : d.outletAnnex ≠ some (.record i) := by
  unfold Dev.outletAnnex
  (repeat' split) <;> simp

/-- R161, R170: a RECORD is granted only where it is the ready item of the collection job. -/
theorem Dev.grant_record {d : Dev} {i : List Byte} (h : d.grant.1 = .record i) :
    ∃ j, d.rst.job = some j ∧ j.ready = some (.record i) := by
  unfold Dev.grant at h
  split at h
  · next a ha => exact absurd (ha.trans (congrArg some h)) (d.outletAnnex_ne_record i)
  split at h
  · cases h
  split at h
  · next a ha =>
    obtain ⟨k, -, hk⟩ := Option.map_eq_some_iff.1 ha
    exact absurd (hk.trans h) (by simp)
  split at h
  · next a ha =>
    obtain ⟨j, hj, hready⟩ := Option.bind_eq_some_iff.1 ha
    obtain ⟨item, hitem, hannex⟩ := Option.map_eq_some_iff.1 hready
    have hrecord : item.annex j.requester = .record i := hannex.trans h
    cases item
    case record l =>
      cases hrecord
      exact ⟨j, hj, hitem⟩
    all_goals cases hrecord
  · split at h <;> cases h

/-- Table 12-2: the own bulletin: its header, the CELL body as the fields stand, and its check word. -/
theorem Dev.bulletin_shows (d : Dev) {a : Annex} (ha : a.bytes.length ≤ 32) (hk : d.cfg.station ≤ 31) :
    (d.bulletin a).length = 58 ∧ crc16Good (d.bulletin a) 58 = true ∧ (byteAt (d.bulletin a) 0).toNat = d.cfg.station ∧
      byteAt (d.bulletin a) 1 = 1 ∧ byteAt (d.bulletin a) 3 = outletCode d.hoc.assignment ∧
      bulletinBody (d.bulletin a) = d.cellBody := by
  have hannex : (padTo 32 a.bytes).length = 32 := padTo_length ha
  have hbody : padTo 20 d.cellBody = d.cellBody := padTo_of_length d.cellBody_length
  refine ⟨?_, crc16Good_withCrc16 (by simp [hbody, hannex, d.cellBody_length]), ?_, rfl, rfl, ?_⟩
  · simp [Dev.bulletin, hbody, hannex, d.cellBody_length]
  · have hfirst : byteAt (d.bulletin a) 0 = BitVec.ofNat 8 d.cfg.station := rfl
    rw [hfirst, BitVec.toNat_ofNat, Nat.mod_eq_of_lt (by omega)]
  · rw [Dev.bulletin, withCrc16, hbody, List.append_assoc, List.append_assoc, bulletinBody,
      field_append_of_length (off := 4) rfl, List.take_left' d.cellBody_length]

/-- R50, R51, R113, R123: the part after an assembly of the own bulletin. -/
theorem Dev.assemble_eq {d : Dev} (hs : d.lnk.state = .aligned) (hk : d.cfg.station ≠ 0) :
    d.assemble = { d with
      lnk := { d.lnk with tx := some (d.bulletin d.grant.1), txAge := 0, bulletinOut := some (d.bulletin d.grant.1) }
      hoc := { d.hoc with shedDue := none, claimCarried := d.hoc.forming }
      rst := d.grant.2.rst
      ntu := d.grant.2.ntu } := by
  obtain ⟨hrun, hpins, hcfg, hlnk, hptb, hmsu, hsyu, hctc, hsyn, hhoc, hmtr, hfree⟩ := d.grant_frame
  have hdue : d.assemble = (d.grant.2.setHoc { d.grant.2.hoc with shedDue := none, claimCarried := d.hoc.forming }).setLnk
      { d.grant.2.lnk with tx := some (d.bulletin d.grant.1), txAge := 0, bulletinOut := some (d.bulletin d.grant.1) } :=
    if_pos ⟨hs, hk⟩
  rw [hdue, hlnk, hhoc, Dev.setHoc, Dev.setLnk]
  simp only [hrun, hpins, hcfg, hptb, hmsu, hsyu, hctc, hsyn, hmtr, hfree]

/-- Settles O23: the bulletin as it stands after the assembly, and what the assembly leaves. -/
theorem ownBulletinIsAssembledWhole : Obligations.OwnBulletinIsAssembledWhole := by
  intro s h
  rw [exec_ownBulletinAssembly_up h]
  refine ⟨fun hs hk hle hrecord => ?_, fun hn => ?_⟩
  · have hannex : s.dev.grant.1.bytes.length ≤ 32 := Annex.bytes_length_le fun i hi => by
      obtain ⟨j, hj, hready⟩ := Dev.grant_record hi
      exact hrecord j i hj hready
    obtain ⟨hlen, hcrc, hstation, hrole, houtlet, hbody⟩ := s.dev.bulletin_shows hannex hle
    refine ⟨_, s.dev.bulletin s.dev.grant.1, rfl, rfl, ?_⟩
    rw [State.onDev_dev, Dev.assemble_eq hs hk]
    exact ⟨rfl, hlen, hcrc, hstation, hrole, houtlet, hbody, rfl, s.dev.grant_mem⟩
  · have hnone : s.dev.assemble = s.dev := if_neg fun hy => hn.elim (· hy.1) (hy.2 ·)
    rw [State.onDev_eq_self hnone]

end Sys2Proof.Machine

/-! # Receptions (O27; R41, R46 to R48, R52, R53) -/

namespace Sys2Proof.Machine

theorem exec_bulletinReceived_up {s : State} (h : s.dev.awake) (bytes : List Byte) (start : Int) :
    exec (.bulletinReceived bytes start) s = .next (s.onDev (Dev.bulletinReceived bytes start)) := State.run_up h _

section
variable {l : Lnk} {start : Int} {k : Nat} (hlo : 125 * (k : Int) ≤ start - l.refInstant)
  (hhi : start - l.refInstant ≤ 125 * (k : Int) + 20)
include hlo hhi

/-- R41: the place of a carrier start inside the slot that it is attributed to. -/
theorem Lnk.start_in_slot : (start - l.refInstant) / 125 = k ∧ (start - l.refInstant) % 125 = start - l.refInstant - 125 * k := by
  omega

theorem Lnk.slotOf_of_slot (h1 : 1 ≤ k) (h31 : k ≤ 31) : l.slotOf start = some k := by
  obtain ⟨hslot, hplace⟩ := Lnk.start_in_slot hlo hhi
  have hin : 1 ≤ (k : Int) ∧ (k : Int) ≤ 31 ∧ (start - l.refInstant) % 125 ≤ 20 := by omega
  simp only [Lnk.slotOf, hslot, if_pos hin, Int.toNat_natCast]

theorem Lnk.checkGood_of_slot (bytes : List Byte) :
    l.checkGood bytes start = (crc16Good bytes 58 && decide (start - l.refInstant ≤ 125 * (k : Int) + 9)) := by
  obtain ⟨-, hplace⟩ := Lnk.start_in_slot hlo hhi
  rw [Lnk.checkGood, hplace]
  exact congrArg _ (decide_eq_decide.2 (by omega))

theorem Lnk.beforeOwn_of_slot : l.beforeOwn start = decide (start - l.refInstant < 125 * (k : Int) + 4) := by
  obtain ⟨-, hplace⟩ := Lnk.start_in_slot hlo hhi
  rw [Lnk.beforeOwn, hplace]
  exact decide_eq_decide.2 (by omega)
end

/-- R41: a carrier start inside no slot is attributed to none. -/
theorem Lnk.slotOf_of_none {l : Lnk} {start : Int}
    (h : ∀ k : Nat, 1 ≤ k → k ≤ 31 → ¬(125 * (k : Int) ≤ start - l.refInstant ∧ start - l.refInstant ≤ 125 * (k : Int) + 20)) :
    l.slotOf start = none := by
  refine if_neg fun ⟨h1, h31, hplace⟩ => ?_
  exact h ((start - l.refInstant) / 125).toNat (by omega) (by omega) (by omega)

/-- Table 12-2: the three role codes. -/
theorem roleOfCode_isNone (x : Byte) : (roleOfCode x).isNone = true ↔ ¬(1 ≤ x.toNat ∧ x.toNat ≤ 3) := by
  have hcode : (x = 1 ↔ x.toNat = 1) ∧ (x = 2 ↔ x.toNat = 2) ∧ (x = 3 ↔ x.toNat = 3) := by simp [← BitVec.toNat_inj]
  obtain ⟨h1, h2, h3⟩ := hcode
  simp only [roleOfCode, h1, h2, h3]
  split_ifs <;> simp <;> omega

/-- R46 to R48: what a carrier in the own slot leaves, by link state. -/
theorem Dev.ownSlotCarrier_of_aligned {d : Dev} (h : d.lnk.state = .aligned) (bytes : List Byte) (start : Int) :
    d.ownSlotCarrier bytes start = d.setLnk { d.lnk with
      ownCarrier := if d.lnk.beforeOwn start = true then true else d.lnk.ownCarrier } := by
  simp only [Dev.ownSlotCarrier, h]
  split
  · rfl
  · rw [← h]
    rfl

theorem Dev.ownSlotCarrier_of_listen {d : Dev} (h : d.lnk.state = .listen) (bytes : List Byte) (start : Int) :
    d.ownSlotCarrier bytes start = d.setLnk { d.lnk with
      ownCarrier := true
      ownDuplicate := d.lnk.ownDuplicate || (d.lnk.checkGood bytes start && (byteAt bytes 0).toNat == d.cfg.station) } := by
  simp only [Dev.ownSlotCarrier, h]

theorem Dev.ownSlotCarrier_of_muted {d : Dev} (h : d.lnk.state = .muted) (bytes : List Byte) (start : Int) :
    d.ownSlotCarrier bytes start = d := by
  simp only [Dev.ownSlotCarrier, h]

section
variable {d : Dev} {k : Nat} {bytes : List Byte} {start : Int}

/-- R52: a bulletin that fails its check, or whose header names another slot or no role. -/
theorem Dev.checkBulletin_of_bad
    (h : d.lnk.checkGood bytes start = false ∨ (byteAt bytes 0).toNat ≠ k ∨ ¬(1 ≤ (byteAt bytes 1).toNat ∧ (byteAt bytes 1).toNat ≤ 3)) :
    d.checkBulletin k bytes start = d.raise .badBulletin := by
  refine if_pos ?_
  rw [← roleOfCode_isNone] at h
  simpa [or_assoc] using h

variable (hg : d.lnk.checkGood bytes start = true) (hk : (byteAt bytes 0).toNat = k) (h1 : 1 ≤ (byteAt bytes 1).toNat)
  (h3 : (byteAt bytes 1).toNat ≤ 3)
include hg hk h1 h3

/-- R52, R53: a good bulletin by the accept vector. -/
theorem Dev.checkBulletin_of_good :
    d.checkBulletin k bytes start =
      if d.cfg.accept.getLsbD k = true then d.setLnk { d.lnk with rx := some (k, bytes) } else d.raise .foreign := by
  have hrole : (roleOfCode (byteAt bytes 1)).isNone = false := by
    rw [← Bool.not_eq_true, roleOfCode_isNone]
    exact fun hn => hn ⟨h1, h3⟩
  have hgood : ¬((!d.lnk.checkGood bytes start || (byteAt bytes 0).toNat != k || (roleOfCode (byteAt bytes 1)).isNone) = true) := by
    simp [hg, hk, hrole]
  unfold Dev.checkBulletin
  rw [if_neg hgood, Dev.accepts]
  cases d.cfg.accept.getLsbD k <;> rfl
end

/-- Settles O27: a reception in another slot, in the own slot by link state, and in none. -/
theorem receptionIsCheckedInOrder : Obligations.ReceptionIsCheckedInOrder := by
  intro s bytes start h t0
  rw [exec_bulletinReceived_up h]
  refine ⟨fun k h1 h31 hlo hhi hne => ?_, fun h1 h31 hlo hhi => ?_, fun hn => ?_⟩
  · have hslot : s.dev.bulletinReceived bytes start = s.dev.checkBulletin k bytes start := by
      simp only [Dev.bulletinReceived, Lnk.slotOf_of_slot hlo hhi h1 h31, if_neg hne]
    have hcheck := Lnk.checkGood_of_slot hlo hhi bytes
    refine ⟨fun hbad => ?_, fun hcrc hedge hk hr1 hr3 => ?_⟩
    · refine ⟨_, rfl, rfl, ?_⟩
      rw [State.onDev_dev, hslot, Dev.checkBulletin_of_bad]
      · exact Dev.raise_onlyRaised _ _
      · have hfails (hb : crc16Good bytes 58 = false ∨ 125 * (k : Int) + 9 < t0) : s.dev.lnk.checkGood bytes start = false := by
          rw [hcheck]
          rcases hb with hb | hb
          · rw [hb, Bool.false_and]
          · rw [decide_eq_false (Int.not_le.2 hb), Bool.and_false]
        rcases hbad with hb | hb | hb
        · exact .inl (hfails (.inl hb))
        · exact .inl (hfails (.inr hb))
        · exact .inr hb
    · have hgood := Dev.checkBulletin_of_good (d := s.dev) (start := start) (by simp [hcheck, hcrc, hedge, t0]) hk hr1 hr3
      refine ⟨fun hf => ?_, fun ha => ?_⟩
      · refine ⟨_, rfl, rfl, ?_⟩
        rw [State.onDev_dev, hslot, hgood, if_neg (by simp [hf])]
        exact Dev.raise_onlyRaised _ _
      · rw [State.onDev, hslot, hgood, if_pos ha]
        rfl
  · have hslot : s.dev.bulletinReceived bytes start = s.dev.ownSlotCarrier bytes start := by
      simp only [Dev.bulletinReceived, Lnk.slotOf_of_slot hlo hhi h1 h31, if_pos]
    have hcheck := Lnk.checkGood_of_slot hlo hhi bytes
    have hbefore := Lnk.beforeOwn_of_slot hlo hhi
    refine ⟨fun hs => ?_, fun hs => ?_, fun hs => ?_⟩
    · have hnone : s.dev.bulletinReceived bytes start = s.dev := hslot.trans (Dev.ownSlotCarrier_of_muted hs bytes start)
      rw [State.onDev_eq_self hnone]
    · rw [State.onDev, hslot]
      rw [Dev.ownSlotCarrier_of_aligned hs, hbefore]
      simp only [decide_eq_true_eq]
      rfl
    · rw [State.onDev, hslot]
      rw [Dev.ownSlotCarrier_of_listen hs, hcheck]
      rfl
  · have hnone : s.dev.bulletinReceived bytes start = s.dev := by simp only [Dev.bulletinReceived, Lnk.slotOf_of_none hn]
    rw [State.onDev_eq_self hnone]

end Sys2Proof.Machine

/-! # The entry to MUTED and the end of the own slot (O26; R46, R48, R49, R126) -/

/-! ### The entry to MUTED (R49, R82, R126) -/

namespace Sys2Proof.Machine

/-- R112: outside ALIGNED no cell energises. -/
theorem Dev.energise_of_not_aligned {d : Dev} (h : d.lnk.state ≠ .aligned) : d.energise = d := by
  have hmay : d.mayEnergise = false := by simp [Dev.mayEnergise, h]
  unfold Dev.energise
  split
  · rfl
  · exact if_neg (by simp [hmay])

/-- R49, R126: a MUTED cell has no lead claim, and no forming claim either. -/
theorem Dev.hocMuted_effect {d : Dev} (h : d.lnk.state ≠ .aligned) :
    d.hocMuted.hoc.lead = false ∧ d.hocMuted.hoc.state = (if d.hoc.state = .forming then .assigned else d.hoc.state) := by
  let d1 := d.setHoc { d.hoc with lead := false, leadCount := 0 }
  have hmuted : d.hocMuted = if d.hoc.state = .forming then d1.toAssigned else d1 := rfl
  rw [hmuted]
  split
  · have hassigned : d1.toAssigned = d1.move .assigned := Dev.energise_of_not_aligned (by simpa [d1] using h)
    rw [hassigned]
    exact ⟨by simp [Dev.move, Hoc.enter, d1], Dev.move_state _ _⟩
  · exact ⟨rfl, rfl⟩

theorem CState.connected_iff (c : CState) : c.connected = true ↔ c = .closing ∨ c = .closed := by cases c <;> decide

/-- A contactor is CLOSING or CLOSED, so that the entry to MUTED trips (R49, R81). -/
def Dev.connects (d : Dev) : Prop :=
  d.con .a = .closing ∨ d.con .a = .closed ∨ d.con .b = .closing ∨ d.con .b = .closed

theorem Dev.connects_iff (d : Dev) : ((d.con .a).connected || (d.con .b).connected) = true ↔ d.connects := by
  simp [CState.connected_iff, Dev.connects, or_assoc]

/-- R49, R126: what the entry to MUTED leaves behind the link controller. -/
def Dev.mutedFrom (d t : Dev) : Prop :=
  d.ntu.raisedOnce .duplicateStation t.ntu ∧ t.hoc.lead = false ∧ t.hoc.state ≠ .forming ∧ (d.connects → t.hoc.state = .tripped)

/-- R81, R82: the trip of the entry to MUTED, where a contactor is connected. -/
theorem Dev.ctcMuted_effect (d : Dev) (connected : Bool) :
    (d.ctcMuted connected).ntu.entry .duplicateStation = d.ntu.entry .duplicateStation ∧
      (connected = true → (d.ctcMuted connected).hoc.state = .tripped ∧ (d.ctcMuted connected).hoc.lead = false) ∧
      (connected = false → (d.ctcMuted connected).hoc = d.hoc) := by
  cases connected
  · exact ⟨rfl, nofun, fun _ => rfl⟩
  · obtain ⟨hst, ⟨-, hlead, -⟩, -⟩ := d.trip_effect .muted none
    exact ⟨d.trip_entry .muted none _ (by decide) (by decide), fun _ => ⟨hst, hlead⟩, nofun⟩

/-- R49: the entry to MUTED, whichever block is handed the change first (log entry 3). -/
theorem Dev.enterMuted_effect (d : Dev) :
    d.enterMuted.lnk = { d.lnk with state := .muted, markSender := false, contending := false } ∧ d.mutedFrom d.enterMuted := by
  let connected := (d.con .a).connected || (d.con .b).connected
  let d1 := ((d.setLnk { d.lnk with state := .muted, markSender := false, contending := false }).raise .duplicateStation).spend
  have hraise : d.ntu.raisedOnce .duplicateStation d1.ntu := Dev.raise_own (d.setLnk _) .duplicateStation
  have hmuted : d1.lnk.state ≠ .aligned := nofun
  have hconnects (hc : d.connects) : connected = true := d.connects_iff.2 hc
  have hentry : d.enterMuted = (d1.ctcMuted connected).hocMuted ∨ d.enterMuted = d1.hocMuted.ctcMuted connected := by
    unfold Dev.enterMuted
    dsimp only
    split
    · exact .inl rfl
    · exact .inr rfl
  rcases hentry with he | he <;> rw [he]
  · obtain ⟨hsame, htrip, hnone⟩ := d1.ctcMuted_effect connected
    obtain ⟨hlead, hst⟩ := Dev.hocMuted_effect (d := d1.ctcMuted connected) (by simpa using hmuted)
    refine ⟨by simp [d1], ?_, hlead, ?_, fun hc => ?_⟩
    · simpa [Ntu.raisedOnce, hsame] using hraise
    · rw [hst]
      split
      · nofun
      · assumption
    · rw [hst, (htrip (hconnects hc)).1]
      rfl
  · obtain ⟨hsame, htrip, hnone⟩ := d1.hocMuted.ctcMuted_effect connected
    obtain ⟨hlead, hst⟩ := Dev.hocMuted_effect hmuted
    have hends : (d1.hocMuted.ctcMuted connected).hoc.lead = false ∧ (d1.hocMuted.ctcMuted connected).hoc.state ≠ .forming := by
      cases hc : connected
      · rw [hc] at hnone
        rw [hnone rfl, hst]
        refine ⟨hlead, ?_⟩
        split
        · nofun
        · assumption
      · rw [hc] at htrip
        obtain ⟨hst, hlead⟩ := htrip rfl
        rw [hst]
        exact ⟨hlead, nofun⟩
    refine ⟨by simp [d1], ?_, hends.1, hends.2, fun hc => (htrip (hconnects hc)).1⟩
    rw [Ntu.raisedOnce, hsame, d1.hocMuted_frame.2.2.2.2.2.2.2.2.2.1]
    exact hraise

/-! ### Faulty cycles (R48) -/

theorem markFault_zero (l : List Bool) : markFault l 0 = (true :: l.tail).take 8 := by
  cases l <;> simp [markFault]

/-- R48: the newest cycle is the second faulty one of eight. -/
theorem two_le_count_iff (l : List Bool) : 2 ≤ ((true :: l.tail).take 8).count true ↔ true ∈ l.tail.take 7 := by
  rw [List.take_succ_cons, List.count_cons_self, ← List.one_le_count_iff]
  omega

theorem Dev.faulty_of_first {d : Dev} {i : Nat} (h : (markFault d.lnk.faults i).count true < 2) :
    d.faulty i = d.setLnk { d.lnk with faults := markFault d.lnk.faults i } := if_neg (by omega)

theorem Dev.faulty_of_second {d : Dev} {i : Nat} (h : 2 ≤ (markFault d.lnk.faults i).count true) :
    d.faulty i = (d.setLnk { d.lnk with faults := markFault d.lnk.faults i }).enterMuted := if_pos h

/-- R48, R49: the second faulty cycle of eight mutes. -/
theorem Dev.faulty_mutes {d : Dev} {i : Nat} (h : 2 ≤ (markFault d.lnk.faults i).count true) :
    (d.faulty i).lnk = { d.lnk with
      faults := markFault d.lnk.faults i, state := .muted, markSender := false, contending := false } ∧
      d.mutedFrom (d.faulty i) := by
  rw [Dev.faulty_of_second h]
  exact Dev.enterMuted_effect _

end Sys2Proof.Machine

/-! ### The end of the own slot (R46, R48) -/

namespace Sys2Proof.Machine

theorem exec_ownSlotEnd_up {s : State} (h : s.dev.awake) (heard : List Byte) (drive : Bool) :
    exec (.ownSlotEnd heard drive) s = .next (s.onDev (Dev.ownSlotEnd heard drive)) := State.run_up h _

/-- The link's records once the watch of the own slot begins anew. -/
def Lnk.watched (l : Lnk) : Lnk := { l with tx := none, ownCarrier := false, ownDuplicate := false }

section
variable {d : Dev} (hk : d.cfg.station ≠ 0) (heard : List Byte) (drive : Bool)
include hk

theorem Dev.ownSlotEnd_of_muted (hs : d.lnk.state = .muted) : d.ownSlotEnd heard drive = d.setLnk d.lnk.watched := by
  simp only [Dev.ownSlotEnd, if_neg hk, hs]
  rfl

theorem Dev.ownSlotEnd_of_listen (hs : d.lnk.state = .listen) :
    d.ownSlotEnd heard drive = d.listenSlot.setLnk d.listenSlot.lnk.watched := by
  simp only [Dev.ownSlotEnd, if_neg hk, hs]
  rfl

theorem Dev.ownSlotEnd_of_aligned (hs : d.lnk.state = .aligned) :
    d.ownSlotEnd heard drive = (d.readBack heard drive).setLnk (d.readBack heard drive).lnk.watched := by
  simp only [Dev.ownSlotEnd, if_neg hk, hs]
  rfl
end

/-- R46: the alignment count of the own slot. -/
theorem Lnk.alignNext_of_silent {l : Lnk} (ha : l.adopted = true) (hc : l.ownCarrier = false) : l.alignNext = min 8 (l.alignCount + 1) := by
  simp [Lnk.alignNext, ha, hc]

theorem Lnk.alignNext_of_broken {l : Lnk} (h : l.adopted = false ∨ l.ownCarrier = true) : l.alignNext = 0 := by
  rcases h with h | h <;> simp [Lnk.alignNext, h]

/-- R46: a slot in LISTEN without a duplicate, before the eighth count and at it. -/
theorem Dev.listenSlot_counts {d : Dev} (hd : d.lnk.ownDuplicate = false) (hn : d.lnk.alignNext ≠ 8) :
    d.listenSlot = d.setLnk { d.lnk with alignCount := d.lnk.alignNext } := by
  simp [Dev.listenSlot, hd, hn]

theorem Dev.listenSlot_aligns {d : Dev} (hd : d.lnk.ownDuplicate = false) (hn : d.lnk.alignNext = 8) :
    d.listenSlot = (d.setLnk { d.lnk with alignCount := 8 }).becomeAligned := by
  simp [Dev.listenSlot, hd, hn]

theorem Dev.listenSlot_mutes {d : Dev} (hd : d.lnk.ownDuplicate = true) : d.listenSlot = d.enterMuted := by
  simp [Dev.listenSlot, hd]

/-- R48: a read-back that matches, or of nothing sent, judges nothing. -/
theorem Dev.readBack_of_match {d : Dev} {heard : List Byte} {drive : Bool}
    (h : d.lnk.tx = none ∨ (d.lnk.tx = some heard ∧ drive = false ∧ d.lnk.ownCarrier = false)) : d.readBack heard drive = d := by
  rcases h with h | ⟨h, hd, hc⟩ <;> simp [Dev.readBack, h]
  simp [hd, hc]

theorem Dev.readBack_of_mismatch {d : Dev} {heard sent : List Byte} {drive : Bool} (ht : d.lnk.tx = some sent)
    (h : heard ≠ sent ∨ drive = true ∨ d.lnk.ownCarrier = true) : d.readBack heard drive = d.faulty d.lnk.txAge := by
  simp only [Dev.readBack, ht]
  exact if_pos h

/-- Settles O26: the own slot's end by link state. -/
theorem ownSlotEndAlignsOrMutes : Obligations.OwnSlotEndAlignsOrMutes := by
  intro s heard drive h watched
  rw [exec_ownSlotEnd_up h]
  refine ⟨fun hk => ?_, fun hk => ⟨fun hs => ?_, fun hs hd => ?_, fun hs hd => ⟨fun hb => ?_, fun ha hc hn => ?_, fun ha hc hn => ?_⟩,
    fun hs => ⟨fun hm => ?_, fun sent ht hage hm => ⟨fun hf => ?_, fun hf => ?_⟩⟩⟩⟩
  · have hnone : s.dev.ownSlotEnd heard drive = s.dev := if_pos hk
    rw [State.onDev_eq_self hnone]
  · rw [State.onDev, Dev.ownSlotEnd_of_muted hk _ _ hs]
    rfl
  · obtain ⟨hlnk, hraise, hlead, hforming, htrip⟩ := s.dev.enterMuted_effect
    refine ⟨_, rfl, rfl, ?_⟩
    rw [State.onDev_dev, Dev.ownSlotEnd_of_listen hk _ _ hs, Dev.listenSlot_mutes hd, hlnk]
    exact ⟨rfl, hraise, hlead, hforming, htrip⟩
  · have hzero := Lnk.alignNext_of_broken hb
    rw [State.onDev, Dev.ownSlotEnd_of_listen hk _ _ hs, Dev.listenSlot_counts hd (by omega), hzero]
    rfl
  · have hnext := Lnk.alignNext_of_silent ha hc
    rw [State.onDev, Dev.ownSlotEnd_of_listen hk _ _ hs, Dev.listenSlot_counts hd (by omega),
      show s.dev.lnk.alignNext = s.dev.lnk.alignCount + 1 by omega]
    rfl
  · have hnext := Lnk.alignNext_of_silent ha hc
    obtain ⟨hlnk, hdev⟩ := (s.dev.setLnk { s.dev.lnk with alignCount := 8 }).becomeAligned_effect
    refine ⟨_, rfl, rfl, ?_⟩
    rw [State.onDev_dev, Dev.ownSlotEnd_of_listen hk _ _ hs, Dev.listenSlot_aligns hd (by omega), hlnk, hdev]
    exact ⟨rfl, rfl⟩
  · rw [State.onDev, Dev.ownSlotEnd_of_aligned hk _ _ hs, Dev.readBack_of_match hm]
    rfl
  · have hjudged : markFault s.dev.lnk.faults s.dev.lnk.txAge = (true :: s.dev.lnk.faults.tail).take 8 := by
      rw [hage, markFault_zero]
    have hfirst : (markFault s.dev.lnk.faults s.dev.lnk.txAge).count true < 2 := by
      rw [hjudged]
      exact Nat.lt_of_not_le fun hle => hf ((two_le_count_iff _).1 hle)
    rw [State.onDev, Dev.ownSlotEnd_of_aligned hk _ _ hs, Dev.readBack_of_mismatch ht hm, Dev.faulty_of_first hfirst, hjudged]
    rfl
  · have hsecond : 2 ≤ (markFault s.dev.lnk.faults s.dev.lnk.txAge).count true := by
      rw [hage, markFault_zero]
      exact (two_le_count_iff _).2 hf
    obtain ⟨hlnk, hraise, -, -, htrip⟩ := Dev.faulty_mutes hsecond
    refine ⟨_, rfl, rfl, ?_⟩
    rw [State.onDev_dev, Dev.ownSlotEnd_of_aligned hk _ _ hs, Dev.readBack_of_mismatch ht hm, hlnk]
    exact ⟨rfl, rfl, hraise, htrip⟩

end Sys2Proof.Machine

/-! # Marks on the line (O21; R42 to R44, R48) -/

/-! ### Adoption (R43, R44) -/

namespace Sys2Proof.Machine

theorem exec_markReceived_up {s : State} (h : s.dev.awake) (bytes : List Byte) (start : MarkHeard) :
    exec (.markReceived bytes start) s = .next (s.onDev (Dev.markReceived bytes start)) := State.run_up h _

/-- R39: a superframe boundary reaches the synthesis unit and the handover controller, and uses up a free choice (log entry 3). -/
theorem Dev.superframe_eq (d : Dev) :
    d.superframe = { d with syu := d.superframe.syu, hoc := d.superframe.hoc, freeIdx := d.superframe.freeIdx } := by
  obtain ⟨hrun, hpins, hcfg, hlnk, hptb, hmsu, hctc, hsyn, hmtr, hrst, hntu⟩ := d.superframe_frame
  rw [← hrun, ← hpins, ← hcfg, ← hlnk, ← hptb, ← hmsu, ← hctc, ← hsyn, ← hmtr, ← hrst, ← hntu]

/-- R43: a mark adopted in the current cycle gives it its number, its timing and its reference sender, and a boundary where the new number
is one and the old one is none. -/
theorem Dev.adoptMark_effect (d : Dev) (n k : Nat) (ref : Int) :
    (d.adoptMark n k ref).lnk = { d.lnk.retimed ref k with cycle := n } ∧
      d.adoptMark n k ref = { d with
        lnk := (d.adoptMark n k ref).lnk
        syu := (d.adoptMark n k ref).syu
        hoc := (d.adoptMark n k ref).hoc
        freeIdx := (d.adoptMark n k ref).freeIdx } ∧
      (¬(n ≠ d.lnk.cycle ∧ n % 8 = 0 ∧ d.lnk.cycle % 8 ≠ 0) →
        (d.adoptMark n k ref).syu = d.syu ∧ (d.adoptMark n k ref).hoc = d.hoc) := by
  unfold Dev.adoptMark
  dsimp only
  split
  · next hb =>
    let d1 := d.setLnk { d.lnk.retimed ref k with cycle := n }
    refine ⟨?_, ?_, fun hn => absurd hb hn⟩
    · rw [d1.superframe_eq]
      rfl
    · exact d1.superframe_eq.trans (by rw [d1.superframe_eq]; rfl)
  · exact ⟨rfl, rfl, fun _ => ⟨rfl, rfl⟩⟩

/-- R44: a mark adopted outside the window cuts the cycle short and begins the one of its number. -/
theorem Dev.adoptOutside_effect (d : Dev) (n k : Nat) :
    (d.adoptOutside n k).lnk = (d.lnk.cut.begun n).retimed (markRef k) k ∧ (d.adoptOutside n k).mtr = d.mtr.tick ∧
      (d.adoptOutside n k).ntu = d.ntu.tick ∧ (d.adoptOutside n k).msu = d.msu ∧ (d.adoptOutside n k).rst = d.rst := by
  obtain ⟨hlnk, hmtr, hntu, -, hmsu, hrst⟩ := (d.setLnk d.lnk.cut).beginCycle_keeps n
  refine ⟨?_, hmtr, hntu, hmsu, hrst⟩
  simp only [Dev.adoptOutside, Dev.setLnk_lnk, hlnk]

/-- R43: an early mark is adopted in the cycle that the own expiry begins. -/
theorem Dev.adoptEarly_effect (d : Dev) (n k : Nat) :
    (d.adoptEarly n k).lnk = { (d.lnk.begun (nextCycle d.lnk.cycle)).retimed (markRef k) k with cycle := n } ∧
      (d.adoptEarly n k).mtr = d.mtr.tick ∧ (d.adoptEarly n k).msu = d.msu ∧ (d.adoptEarly n k).rst = d.rst := by
  obtain ⟨hlnk, hmtr, -, -, hmsu, hrst⟩ := d.beginCycle_keeps (nextCycle d.lnk.cycle)
  obtain ⟨hadopted, hdev, -⟩ := d.cycleExpiry.adoptMark_effect n k (markRef k)
  refine ⟨?_, ?_, ?_, ?_⟩
  · rw [Dev.adoptEarly, hadopted, Dev.cycleExpiry, hlnk]
  · rw [Dev.adoptEarly, hdev]
    exact hmtr
  · rw [Dev.adoptEarly, hdev]
    exact hmsu
  · rw [Dev.adoptEarly, hdev]
    exact hrst

end Sys2Proof.Machine

/-! ### A carrier in slot 0 (R42, R43, R48) -/

namespace Sys2Proof.Machine

theorem inWindow_iff (start : Int) : inWindow start = true ↔ -16 ≤ start ∧ start ≤ 96 := decide_eq_true_iff

theorem not_inWindow_iff (start : Int) : inWindow start = false ↔ start < -16 ∨ 96 < start := by
  rw [← Bool.not_eq_true, inWindow_iff]
  omega

/-- R42: the link's records after a carrier: the cell stands down inside the window. -/
def Lnk.stoodDown (l : Lnk) (start : Int) : Lnk :=
  { l with contending := if -16 ≤ start ∧ start ≤ 96 then false else l.contending }

theorem Dev.standDown_eq (d : Dev) (start : Int) : d.standDown start = d.setLnk (d.lnk.stoodDown start) := by
  unfold Dev.standDown Lnk.stoodDown
  by_cases h : inWindow start = true
  · rw [if_pos h, if_pos ((inWindow_iff _).1 h)]
  · rw [if_neg h, if_neg (by rwa [inWindow_iff] at h)]
    rfl

theorem Lnk.stoodDown_inside {l : Lnk} {start : Int} (h : inWindow start = true) : l.stoodDown start = { l with contending := false } := by
  rw [Lnk.stoodDown, if_pos ((inWindow_iff _).1 h)]

theorem Lnk.stoodDown_outside {l : Lnk} {start : Int} (h : inWindow start = false) : l.stoodDown start = l := by
  rw [Lnk.stoodDown, if_neg (by rw [← inWindow_iff, h]; nofun)]

section
variable {d : Dev} {start : Int}

theorem Dev.markCollision_of_none (h : d.lnk.markSender = false) : d.markCollision = d := if_neg (by simp [h])

theorem Dev.markCollision_of_sender (hs : d.lnk.state = .aligned) (h : d.lnk.markSender = true) : d.markCollision = d.faulty 0 :=
  if_pos ⟨hs, h⟩

variable {n k : Nat}

/-- R43: the first mark of a cycle inside its window. -/
theorem Dev.validMark_first (hw : inWindow start = true) (hm : d.lnk.marked = false) :
    d.validMark n k start = d.adoptMark n k (start - 3 * k) := by
  simp [Dev.validMark, hw, hm]

theorem Dev.validMark_second (hw : inWindow start = true) (hm : d.lnk.marked = true) : d.validMark n k start = d := by
  simp [Dev.validMark, hw, hm]

/-- R44: a mark outside the window, adopted or not. -/
theorem Dev.validMark_outside (hw : inWindow start = false) (ha : d.lnk.adoptsOutside k = true) :
    d.validMark n k start = d.adoptOutside n k := by
  simp [Dev.validMark, hw, ha]

theorem Dev.validMark_ignored (hw : inWindow start = false) (ha : d.lnk.adoptsOutside k = false) : d.validMark n k start = d := by
  simp [Dev.validMark, hw, ha]
end

section
variable {l : Lnk} {k : Nat}

/-- R43: no mark of the cycle was adopted or sent. -/
theorem Lnk.marked_eq_false (ha : l.adopted = false) (hr : l.refSender = none) : l.marked = false := by simp [Lnk.marked, ha, hr]

theorem Lnk.marked_eq_true (h : l.adopted = true ∨ l.refSender ≠ none) : l.marked = true := by
  rcases h with h | h
  · simp [Lnk.marked, h]
  · simp [Lnk.marked, Option.isSome_iff_ne_none.2 h]

/-- R44: the reference sender of an ALIGNED cell's cycle holds against a sender not below it. -/
theorem Lnk.adoptsOutside_of_free (h : l.state ≠ .aligned ∨ l.refSender = none ∨ ∃ r, l.refSender = some r ∧ k < r) :
    l.adoptsOutside k = true := by
  unfold Lnk.adoptsOutside
  split
  · rfl
  · rfl
  · next hs =>
    rcases h with h | h | ⟨r, h, hlt⟩
    · exact absurd hs h
    · rw [h]
    · rw [h]
      exact decide_eq_true hlt

theorem Lnk.adoptsOutside_of_held {r : Nat} (hs : l.state = .aligned) (hr : l.refSender = some r) (hle : r ≤ k) :
    l.adoptsOutside k = false := by
  simp only [Lnk.adoptsOutside, hs, hr]
  exact decide_eq_false (Nat.not_lt.2 hle)
end

section
variable {d : Dev} {bytes : List Byte} {start : Int} {n k : Nat}

theorem Dev.markHeard_of_invalid (h : decodeMark bytes = none) : d.markHeard bytes start = d.setLnk (d.lnk.stoodDown start) := by
  simp only [Dev.markHeard, h, d.standDown_eq]

variable (h : decodeMark bytes = some (n, k))
include h

theorem Dev.markHeard_of_early (he : d.lnk.nextExpiry - 16 ≤ start) : d.markHeard bytes start = d.adoptEarly n k := by
  have hearly : d.lnk.early start = true := decide_eq_true he
  simp [Dev.markHeard, h, hearly]

variable (he : start < d.lnk.nextExpiry - 16)
include he

theorem Dev.markHeard_of_valid :
    d.markHeard bytes start = ((d.setLnk (d.lnk.stoodDown start)).markCollision).validMark n k start := by
  have hearly : d.lnk.early start = false := decide_eq_false (Int.not_le.2 he)
  simp [Dev.markHeard, h, hearly, d.standDown_eq]

/-- R43, R44: a mark in a cycle without an own one meets no collision. -/
theorem Dev.markHeard_of_no_sender (hm : d.lnk.markSender = false) :
    d.markHeard bytes start = (d.setLnk (d.lnk.stoodDown start)).validMark n k start := by
  rw [Dev.markHeard_of_valid h he, Dev.markCollision_of_none (d := d.setLnk (d.lnk.stoodDown start)) hm]

variable (hm : d.lnk.markSender = true) (hs : d.lnk.state = .aligned)
include hm hs

/-- R48: a valid mark in a cycle in which the cell sent one makes the cycle faulty before it is weighed for adoption (log entry 10). -/
theorem Dev.markHeard_of_sender :
    d.markHeard bytes start = ((d.setLnk (d.lnk.stoodDown start)).faulty 0).validMark n k start := by
  rw [Dev.markHeard_of_valid h he, Dev.markCollision_of_sender (d := d.setLnk (d.lnk.stoodDown start)) hs hm]

/-- R48: the first faulty cycle of eight. -/
theorem Dev.markHeard_of_first_fault (hf : true ∉ d.lnk.faults.tail.take 7) :
    d.markHeard bytes start =
      (d.setLnk { d.lnk.stoodDown start with faults := (true :: d.lnk.faults.tail).take 8 }).validMark n k start := by
  have hfirst : (markFault d.lnk.faults 0).count true < 2 := by
    rw [markFault_zero]
    exact Nat.lt_of_not_le fun hle => hf ((two_le_count_iff _).1 hle)
  rw [Dev.markHeard_of_sender h he hm hs, Dev.faulty_of_first (d := d.setLnk (d.lnk.stoodDown start)) hfirst, ← markFault_zero]
  rfl

/-- R48, R49: the second faulty cycle of eight mutes before the mark is weighed. -/
theorem Dev.markHeard_of_second_fault (hf : true ∈ d.lnk.faults.tail.take 7) :
    ∃ e : Dev, d.markHeard bytes start = e.validMark n k start ∧ d.mutedFrom e ∧
      e.lnk = { d.lnk.stoodDown start with
        faults := (true :: d.lnk.faults.tail).take 8, state := .muted, markSender := false, contending := false } := by
  have hsecond : 2 ≤ (markFault d.lnk.faults 0).count true := by
    rw [markFault_zero]
    exact (two_le_count_iff _).2 hf
  obtain ⟨hlnk, hmuted⟩ := Dev.faulty_mutes (d := d.setLnk (d.lnk.stoodDown start)) hsecond
  rw [show (d.setLnk (d.lnk.stoodDown start)).lnk.faults = d.lnk.faults from rfl, markFault_zero] at hlnk
  exact ⟨_, Dev.markHeard_of_sender h he hm hs, hmuted, hlnk⟩

variable (hr : d.lnk.refSender = some d.cfg.station)
include hr

/-- R43, R44, R48: the first fault, with the mark adopted neither way. -/
theorem Dev.markHeard_collision_counts (hf : true ∉ d.lnk.faults.tail.take 7) (hw : inWindow start = true ∨ d.cfg.station ≤ k) :
    d.markHeard bytes start = d.setLnk { d.lnk.stoodDown start with faults := (true :: d.lnk.faults.tail).take 8 } := by
  rw [Dev.markHeard_of_first_fault h he hm hs hf]
  cases hin : inWindow start with
  | true => exact Dev.validMark_second hin (Lnk.marked_eq_true (.inr (by simp [Lnk.stoodDown, hr])))
  | false => exact Dev.validMark_ignored hin (Lnk.adoptsOutside_of_held hs hr (hw.resolve_left (by simp [hin])))

/-- R43, R48, R49: inside the window the mark stays the second one where the collision has just muted the cell (log entry 10). -/
theorem Dev.markHeard_collision_mutes (hf : true ∈ d.lnk.faults.tail.take 7) (hw : inWindow start = true) :
    d.mutedFrom (d.markHeard bytes start) ∧ (d.markHeard bytes start).lnk = { d.lnk.stoodDown start with
      faults := (true :: d.lnk.faults.tail).take 8, state := .muted, markSender := false, contending := false } := by
  obtain ⟨e, he, hmuted, hlnk⟩ := Dev.markHeard_of_second_fault h he hm hs hf
  have hsecond : e.validMark n k start = e :=
    Dev.validMark_second hw (Lnk.marked_eq_true (.inr (by simp [hlnk, Lnk.stoodDown, hr])))
  rw [he, hsecond]
  exact ⟨hmuted, hlnk⟩

/-- R44, R48: outside the window a collision's mark is adopted from a lower station, and by a cell that the collision has muted. -/
theorem Dev.markHeard_collision_adopts (hw : inWindow start = false) (hk : k < d.cfg.station ∨ true ∈ d.lnk.faults.tail.take 7) :
    ∃ e : Dev, d.markHeard bytes start = e.adoptOutside n k ∧
      e.lnk.state = (if true ∈ d.lnk.faults.tail.take 7 then .muted else .aligned) ∧
      (true ∈ d.lnk.faults.tail.take 7 → d.mutedFrom e) ∧
      e.lnk.faults = (true :: d.lnk.faults.tail).take 8 := by
  by_cases hf : true ∈ d.lnk.faults.tail.take 7
  · obtain ⟨e, he, hmuted, hlnk⟩ := Dev.markHeard_of_second_fault h he hm hs hf
    refine ⟨e, he.trans (Dev.validMark_outside hw (Lnk.adoptsOutside_of_free (.inl (by simp [hlnk])))), ?_, fun _ => hmuted, ?_⟩
    · rw [hlnk, if_pos hf]
    · rw [hlnk]
  · refine ⟨_, (Dev.markHeard_of_first_fault h he hm hs hf).trans (Dev.validMark_outside hw (Lnk.adoptsOutside_of_free ?_)), ?_,
      fun hy => absurd hy hf, rfl⟩
    · exact .inr (.inr ⟨_, hr, hk.resolve_right hf⟩)
    · rw [if_neg hf]
      exact hs
end

end Sys2Proof.Machine

/-! ### The read-back of the own mark (R44, R48) -/

namespace Sys2Proof.Machine

section
variable {d : Dev} {bytes : List Byte} {drive : Bool}

theorem Dev.markReadBack_of_none (h : d.lnk.markTx = none) : d.markReadBack bytes drive = d := by
  simp only [Dev.markReadBack, h]

variable {sent : List Byte} (h : d.lnk.markTx = some sent)
include h

/-- R48: a read-back as sent, or of a cell that is not ALIGNED, judges nothing. -/
theorem Dev.markReadBack_of_match (hm : d.lnk.state ≠ .aligned ∨ (bytes = sent ∧ drive = false)) :
    d.markReadBack bytes drive = d.setLnk { d.lnk with markTx := none } := by
  simp only [Dev.markReadBack, h]
  refine if_neg fun ⟨hs, hne⟩ => ?_
  rcases hm with hm | ⟨hm, hd⟩
  · exact hm hs
  · rcases hne with hne | hne
    · exact hne hm
    · rw [hd] at hne
      cases hne

variable (hs : d.lnk.state = .aligned) (hm : bytes ≠ sent ∨ drive = true)
include hs hm

theorem Dev.markReadBack_of_mismatch :
    d.markReadBack bytes drive = (d.setLnk { d.lnk with markTx := none }).faulty d.lnk.markAge := by
  simp only [Dev.markReadBack, h]
  exact if_pos ⟨hs, hm⟩

/-- R48: the cycle in which the own mark began is the first faulty one of eight (log entry 30). -/
theorem Dev.markReadBack_counts (hf : (markFault d.lnk.faults d.lnk.markAge).count true < 2) :
    d.markReadBack bytes drive =
      d.setLnk { d.lnk with markTx := none, faults := markFault d.lnk.faults d.lnk.markAge } := by
  rw [Dev.markReadBack_of_mismatch h hs hm, Dev.faulty_of_first (d := d.setLnk { d.lnk with markTx := none }) hf]
  rfl

theorem Dev.markReadBack_mutes (hf : 2 ≤ (markFault d.lnk.faults d.lnk.markAge).count true) :
    d.mutedFrom (d.markReadBack bytes drive) ∧ (d.markReadBack bytes drive).lnk = { d.lnk with
      markTx := none, faults := markFault d.lnk.faults d.lnk.markAge, state := .muted, markSender := false, contending := false } := by
  obtain ⟨hlnk, hmuted⟩ := Dev.faulty_mutes (d := d.setLnk { d.lnk with markTx := none }) hf
  rw [Dev.markReadBack_of_mismatch h hs hm]
  exact ⟨hmuted, hlnk⟩
end

/-! ### The settlement -/

/-- R44: the next expiry of a cycle adopted when its mark proved valid. -/
theorem markRef_next (k : Nat) : markRef k + 4000 = 3988 - 3 * (k : Int) := by
  unfold markRef
  omega

/-- R48: the record of faulty cycles once a new cycle has begun after a collision. -/
theorem Lnk.begun_faults_of_counted {l : Lnk} {f : List Bool} (hs : l.state = .aligned) (hf : l.faults = (true :: f).take 8) (n : Nat) :
    (l.begun n).faults = (false :: true :: f).take 8 := by
  simp [Lnk.begun, hs, hf, List.take_take]

/-- Settles O21: the invalid mark, the mark in a cycle without an own one, the collision, the early mark, and the read-back. -/
theorem markHeardSetsTheCycle : Obligations.MarkHeardSetsTheCycle := by
  intro s bytes start h l heard standing connected muted
  have hheard : heard = .next (s.onDev (Dev.markHeard bytes start)) := exec_markReceived_up h bytes (.other start)
  refine ⟨fun hd => ?_, fun n k hd => ⟨fun he hm => ⟨fun hlo hhi ha hr => ?_, fun hlo hhi hr => ?_, fun hw hk => ?_, fun hw hs hk => ?_⟩,
    fun he hm hs hr => ⟨fun hw => ⟨fun hf => ?_, fun hlo hhi hf => ?_⟩, fun hw hk => ?_⟩, fun he => ?_⟩, fun drive => ?_⟩
  · rw [hheard, State.onDev, Dev.markHeard_of_invalid hd]
    rfl
  · have hw := (inWindow_iff start).2 ⟨hlo, hhi⟩
    obtain ⟨hlnk, hdev, hkept⟩ := (s.dev.setLnk (s.dev.lnk.stoodDown start)).adoptMark_effect n k (start - 3 * k)
    refine ⟨_, hheard, rfl, ?_⟩
    rw [State.onDev_dev, Dev.markHeard_of_no_sender hd he hm,
      Dev.validMark_first (d := s.dev.setLnk (s.dev.lnk.stoodDown start)) hw (Lnk.marked_eq_false ha hr)]
    refine ⟨hdev, ?_, hkept⟩
    rw [hlnk, Dev.setLnk_lnk, Lnk.stoodDown_inside hw]
    rfl
  · have hw := (inWindow_iff start).2 ⟨hlo, hhi⟩
    rw [hheard, State.onDev, Dev.markHeard_of_no_sender hd he hm,
      Dev.validMark_second (d := s.dev.setLnk (s.dev.lnk.stoodDown start)) hw (Lnk.marked_eq_true hr), Lnk.stoodDown_inside hw]
    rfl
  · have hout := (not_inWindow_iff start).2 hw
    have hkeep : s.dev.setLnk (s.dev.lnk.stoodDown start) = s.dev := by rw [Lnk.stoodDown_outside hout]; rfl
    obtain ⟨hlnk, hmtr, -, hmsu, hrst⟩ := s.dev.adoptOutside_effect n k
    obtain ⟨hrun, -, hcfg, hptb⟩ := s.dev.adoptOutside_frame n k
    refine ⟨_, hheard, rfl, ?_⟩
    rw [State.onDev_dev, Dev.markHeard_of_no_sender hd he hm, hkeep, Dev.validMark_outside hout (Lnk.adoptsOutside_of_free hk),
      hlnk]
    exact ⟨rfl, rfl, rfl, markRef_next k, rfl, rfl, rfl, rfl, rfl, rfl, hmtr, hrun, hcfg, hptb, hmsu, hrst⟩
  · obtain ⟨r, hr, hle⟩ := hk
    have hout := (not_inWindow_iff start).2 hw
    have hnone : s.dev.markHeard bytes start = s.dev := by
      rw [Dev.markHeard_of_no_sender hd he hm, Lnk.stoodDown_outside hout]
      exact Dev.validMark_ignored hout (Lnk.adoptsOutside_of_held hs hr hle)
    rw [hheard, State.onDev_eq_self hnone]
  · rw [← inWindow_iff] at hw
    rw [hheard, State.onDev, Dev.markHeard_collision_counts hd he hm hs hr hf hw]
    rfl
  · obtain ⟨⟨hraise, hlead, hst, htrip⟩, hlnk⟩ :=
      Dev.markHeard_collision_mutes hd he hm hs hr hf ((inWindow_iff start).2 ⟨hlo, hhi⟩)
    refine ⟨_, hheard, ⟨rfl, ?_, ?_, ?_, hraise, hlead, hst, htrip⟩, ?_⟩ <;> rw [State.onDev_dev, hlnk]
    exact ⟨rfl, rfl, rfl, rfl⟩
  · have hout := (not_inWindow_iff start).2 hw
    obtain ⟨e, he, hst, hmuted, hfaults⟩ := Dev.markHeard_collision_adopts hd he hm hs hr hout hk
    obtain ⟨hlnk, -, hntu, -, -⟩ := e.adoptOutside_effect n k
    refine ⟨_, hheard, rfl, ?_⟩
    rw [State.onDev_dev, he, hlnk, hntu]
    refine ⟨rfl, markRef_next k, rfl, rfl, hst, fun hf => (hmuted hf).1, fun hf => ?_⟩
    rw [if_neg hf] at hst
    exact Lnk.begun_faults_of_counted hst hfaults n
  · obtain ⟨hlnk, hmtr, hmsu, hrst⟩ := s.dev.adoptEarly_effect n k
    obtain ⟨hrun, -, hcfg, hptb⟩ := s.dev.adoptEarly_frame n k
    refine ⟨_, hheard, rfl, ?_⟩
    rw [State.onDev_dev, Dev.markHeard_of_early hd he, hlnk]
    exact ⟨rfl, rfl, rfl, markRef_next k, rfl, rfl, rfl, hmtr, hrun, hcfg, hptb, hmsu, hrst⟩
  · have hown : exec (.markReceived bytes (.own drive)) s = .next (s.onDev (Dev.markReadBack bytes drive)) := exec_markReceived_up h _ _
    rw [hown]
    refine ⟨fun hn => ?_, fun sent ht => ⟨fun hm => ?_, fun hs hm hage => ?_, fun hs hm => ⟨fun hf => ?_, fun hf => ?_⟩⟩⟩
    · rw [State.onDev_eq_self (Dev.markReadBack_of_none hn)]
    · rw [State.onDev, Dev.markReadBack_of_match ht hm]
      rfl
    · have hjudged : markFault l.faults l.markAge = (true :: l.faults.tail).take 8 := by rw [hage, markFault_zero]
      refine ⟨fun hf => ?_, fun hf => ?_⟩
      · have hfirst : (markFault l.faults l.markAge).count true < 2 := by
          rw [hjudged]
          exact Nat.lt_of_not_le fun hle => hf ((two_le_count_iff _).1 hle)
        rw [State.onDev, Dev.markReadBack_counts ht hs hm hfirst, hjudged]
        rfl
      · have hsecond : 2 ≤ (markFault l.faults l.markAge).count true := by
          rw [hjudged]
          exact (two_le_count_iff _).2 hf
        obtain ⟨⟨hraise, hlead, hst, htrip⟩, hlnk⟩ := Dev.markReadBack_mutes ht hs hm hsecond
        refine ⟨_, rfl, ⟨rfl, ?_, ?_, ?_, hraise, hlead, hst, htrip⟩, ?_⟩ <;> rw [State.onDev_dev, hlnk]
    · rw [State.onDev, Dev.markReadBack_counts ht hs hm hf]
      rfl
    · obtain ⟨⟨hraise, hlead, hst, htrip⟩, hlnk⟩ := Dev.markReadBack_mutes ht hs hm hf
      refine ⟨_, rfl, ⟨rfl, ?_, ?_, ?_, hraise, hlead, hst, htrip⟩, ?_⟩ <;> rw [State.onDev_dev, hlnk]
      exact ⟨rfl, rfl⟩

end Sys2Proof.Machine

/-! # The ends of the other slots: the peer table (O28; R54, R59 to R63, R70) -/

/-! ### Entries of the peer table -/

namespace Sys2Proof.Machine

theorem exec_slotEnd_up {s : State} (h : s.dev.awake) (k : Nat) (pins : Pins) :
    exec (.slotEnd ⟨k, pins⟩) s = .next (s.onDev (Dev.slotEnd k pins)) := State.run_up h _

section
variable {k : Nat} (h1 : 1 ≤ k) (h31 : k ≤ 31)
include h1 h31

theorem Ptb.get_put_same (t : Ptb) (e : PeerEntry) : (t.put k e).get k = e := by
  simp [Ptb.get, Ptb.put, h1, h31]

theorem Lnk.remembered_remember_same (l : Lnk) (v : Option Byte) : (l.remember k v).remembered k = v := by
  simp [Lnk.remembered, Lnk.remember, h1, h31]
end

theorem Ptb.get_put_other {j k : Nat} (h : j ≠ k) (t : Ptb) (e : PeerEntry) : (t.put k e).get j = t.get j := by
  by_cases hk : 1 ≤ k ∧ k ≤ 31
  · by_cases hj : 1 ≤ j ∧ j ≤ 31
    · simp only [Ptb.get, Ptb.put, dif_pos hk, dif_pos hj]
      exact Vector.getElem_set_ne (by omega) (by omega) (by omega)
    · simp only [Ptb.get, dif_neg hj]
  · simp only [Ptb.put, dif_neg hk]

section
variable {e : PeerEntry}

theorem PeerEntry.aged_body (e : PeerEntry) : e.aged.body = e.body := by
  unfold PeerEntry.aged
  split <;> rfl

theorem PeerEntry.aged_of_absent (h : e.state = .absent) : e.aged = e := by simp only [PeerEntry.aged, h]

/-- R62: a LIVE entry turns STALE at its third missed outcome. -/
theorem PeerEntry.aged_of_live (h : e.state = .live) :
    e.aged = ⟨if e.missed + 1 < 3 then .live else .stale, min 50 (e.missed + 1), e.body⟩ := by
  simp only [PeerEntry.aged, h, ← Nat.not_lt, ite_not]

/-- R62: a STALE entry turns ABSENT at its fiftieth missed outcome. -/
theorem PeerEntry.aged_of_stale (h : e.state = .stale) :
    e.aged = ⟨if e.missed + 1 < 50 then .stale else .absent, min 50 (e.missed + 1), e.body⟩ := by
  simp only [PeerEntry.aged, h, ← Nat.not_lt, ite_not]

/-- R62: the missed outcome that makes an entry ABSENT. -/
abbrev PeerEntry.goes (e : PeerEntry) : Prop := e.state ≠ .absent ∧ e.aged.state = .absent

theorem PeerEntry.goes_iff (e : PeerEntry) : e.goes ↔ e.state = .stale ∧ 50 ≤ e.missed + 1 := by
  cases hs : e.state with
  | absent => simp [PeerEntry.goes, hs]
  | live =>
    simp only [PeerEntry.goes, PeerEntry.aged_of_live hs, hs]
    split <;> simp
  | stale =>
    simp only [PeerEntry.goes, PeerEntry.aged_of_stale hs, hs]
    split <;> simp <;> omega

theorem PeerEntry.lastMember_iff {x : Outlet} :
    e.lastMember x = true ↔ ∃ b, e.body = .cell b ∧ b.outlet = some x ∧ b.con x = .closed := by
  unfold PeerEntry.lastMember
  split
  · next b hb => simp [hb]
  · next hb => exact ⟨nofun, fun ⟨b, h, _⟩ => absurd h (hb b)⟩

theorem PeerEntry.lastMember_aged (e : PeerEntry) (x : Outlet) : e.aged.lastMember x = e.lastMember x := by
  simp only [PeerEntry.lastMember, e.aged_body]
end

end Sys2Proof.Machine

/-! ### A missed outcome (R62, R63) -/

namespace Sys2Proof.Machine

section
variable (d : Dev) (k : Nat)

theorem Dev.entryGone_lnk (e : PeerEntry) : (d.entryGone k e).lnk = d.lnk.remember k none := by
  simp only [Dev.entryGone]
  simp

theorem Dev.entryGone_entry (e : PeerEntry) {j : NoticeKind} (h : j ≠ .peerLost) : (d.entryGone k e).ntu.entry j = d.ntu.entry j :=
  Dev.raiseIf_entry _ _ h

/-- R63: PEER_LOST tells of a member of the assigned outlet. -/
theorem Dev.entryGone_raises {e : PeerEntry} {x : Outlet} (hx : d.hoc.assignment = some x) (hm : e.lastMember x = true) :
    d.ntu.raisedOnce .peerLost (d.entryGone k e).ntu := by
  simp only [Dev.entryGone, hx, hm]
  exact Dev.raise_own _ _

theorem Dev.entryGone_silent {e : PeerEntry} (h : ∀ x, d.hoc.assignment = some x → e.lastMember x = false) :
    (d.entryGone k e).ntu = d.ntu := by
  unfold Dev.entryGone
  split
  · rfl
  · next x hx =>
    rw [h x hx]
    rfl

theorem Dev.missedSlot_of_kept (h : ¬(d.ptb.get k).goes) : d.missedSlot k = d.setPtb (d.ptb.put k (d.ptb.get k).aged) := if_neg h

theorem Dev.missedSlot_of_gone (h : (d.ptb.get k).goes) :
    d.missedSlot k = (d.setPtb (d.ptb.put k (d.ptb.get k).aged)).entryGone k (d.ptb.get k).aged := if_pos h

theorem Dev.missedSlot_ptb : (d.missedSlot k).ptb = d.ptb.put k (d.ptb.get k).aged := by
  by_cases h : (d.ptb.get k).goes
  · rw [d.missedSlot_of_gone k h]
    exact (Dev.entryGone_frame _ _ _).2.2.2.1
  · rw [d.missedSlot_of_kept k h]
    rfl

/-- R62: the order memory loses the place of an entry that goes. -/
theorem Dev.missedSlot_lnk : (d.missedSlot k).lnk = if (d.ptb.get k).goes then d.lnk.remember k none else d.lnk := by
  split
  · next h =>
    rw [d.missedSlot_of_gone k h]
    exact Dev.entryGone_lnk _ _ _
  · next h =>
    rw [d.missedSlot_of_kept k h]
    rfl

theorem Dev.missedSlot_entry {j : NoticeKind} (h : j ≠ .peerLost) : (d.missedSlot k).ntu.entry j = d.ntu.entry j := by
  by_cases hg : (d.ptb.get k).goes
  · rw [d.missedSlot_of_gone k hg]
    exact Dev.entryGone_entry _ _ _ h
  · rw [d.missedSlot_of_kept k hg]
    rfl

/-- R63: PEER_LOST tells of a member of the assigned outlet that goes. -/
theorem Dev.missedSlot_raises {x : Outlet} (hg : (d.ptb.get k).goes) (hx : d.hoc.assignment = some x)
    (hm : (d.ptb.get k).lastMember x = true) : d.ntu.raisedOnce .peerLost (d.missedSlot k).ntu := by
  rw [d.missedSlot_of_gone k hg]
  exact Dev.entryGone_raises _ _ hx (by rwa [PeerEntry.lastMember_aged])

theorem Dev.missedSlot_silent
    (h : ¬(d.ptb.get k).goes ∨ ∀ x, d.hoc.assignment = some x → (d.ptb.get k).lastMember x = false) :
    (d.missedSlot k).ntu = d.ntu := by
  by_cases hg : (d.ptb.get k).goes
  · rw [d.missedSlot_of_gone k hg]
    exact Dev.entryGone_silent _ _ fun x hx => by
      rw [PeerEntry.lastMember_aged]
      exact h.resolve_left (not_not_intro hg) x hx
  · rw [d.missedSlot_of_kept k hg]
    rfl

/-- The link's records that a missed outcome leaves: all but the order memory. -/
theorem Dev.missedSlot_link :
    (d.missedSlot k).lnk = { d.lnk with orderMem := (d.missedSlot k).lnk.orderMem } := by
  rw [d.missedSlot_lnk k]
  unfold Lnk.remember
  (repeat' split) <;> rfl
end

end Sys2Proof.Machine

/-! ### What a ship-view notice leaves (R70, R119) -/

namespace Sys2Proof.Machine

/-- A ship's events raise no kind but their own two. -/
abbrev NoticeKind.noShipEvent (j : NoticeKind) : Prop := j ≠ .shipOpenUnexpected ∧ j ≠ .shipCloseUnpermitted

section
variable {j : NoticeKind}

theorem Dev.breakerCloses_entry (d : Dev) (n : Nat) (h : j ≠ .shipCloseUnpermitted) :
    (d.breakerCloses n).ntu.entry j = d.ntu.entry j := by
  unfold Dev.breakerCloses
  (repeat' split) <;> simp [Dev.raise_entry, h]

theorem Dev.breakerOpens_entry (d : Dev) (h : j ≠ .shipOpenUnexpected) : d.breakerOpens.ntu.entry j = d.ntu.entry j := by
  unfold Dev.breakerOpens
  (repeat' split) <;> simp [Dev.raise_entry, h]

variable (h : j.noShipEvent)
include h

theorem Dev.shipEvents_entry (d : Dev) (old new : ShipFacts) : (d.shipEvents old new).ntu.entry j = d.ntu.entry j := by
  obtain ⟨ho, hc⟩ := h
  unfold Dev.shipEvents
  (repeat' split) <;> simp [Dev.breakerOpens_entry, Dev.breakerCloses_entry, ho, hc]

theorem Dev.takeView_entry (d : Dev) : d.takeView.ntu.entry j = d.ntu.entry j := by
  unfold Dev.takeView
  split
  · rfl
  · split
    · rfl
    · exact Dev.shipEvents_entry h _ _ _

theorem Dev.shipNotice_entry (d : Dev) : d.shipNotice.ntu.entry j = d.ntu.entry j := by
  unfold Dev.shipNotice
  split
  · rfl
  · simp [d.takeView_entry h]

theorem Dev.viewNotice_entry (d : Dev) (before : Ptb) (vessel : Bool) : (d.viewNotice before vessel).ntu.entry j = d.ntu.entry j := by
  unfold Dev.viewNotice
  split
  · exact d.shipNotice_entry h
  · rfl
end

end Sys2Proof.Machine

/-! ### A slot without a bulletin -/

namespace Sys2Proof.Machine

/-- The part once the reception that waited for a slot's end is taken. -/
def Dev.received (d : Dev) : Dev := d.setLnk { d.lnk with rx := none }

section
variable {d : Dev} {k : Nat} (h1 : 1 ≤ k) (h31 : k ≤ 31) (hk : k ≠ d.cfg.station) (pins : Pins)
include h1 h31 hk

theorem Dev.slotEnd_of_missed (hr : ∀ b, d.lnk.rx ≠ some (k, b)) :
    d.slotEnd k pins = (d.received.missedSlot k).viewNotice d.ptb false := by
  have hnone : d.lnk.outcome k = none := by
    unfold Lnk.outcome
    rcases hx : d.lnk.rx with _ | ⟨j, b⟩
    · rfl
    · exact if_neg fun (he : j = k) => hr b (by rw [hx, he])
  unfold Dev.slotEnd
  rw [if_neg (by omega)]
  simp only [hnone]
  rfl

theorem Dev.slotEnd_of_accepted {bytes : List Byte} (hr : d.lnk.rx = some (k, bytes)) :
    d.slotEnd k pins = d.received.acceptedSlot k bytes pins := by
  have hsome : d.lnk.outcome k = some bytes := by simp [Lnk.outcome, hr]
  unfold Dev.slotEnd
  rw [if_neg (by omega)]
  simp only [hsome]
  rfl
end

/-- Settles O28: the entry aged, its place in the order memory, PEER_LOST, and what the notice to the handover controller leaves. -/
theorem missedSlotAgesTheEntry : Obligations.MissedSlotAgesTheEntry := by
  intro s k pins h h1 h31 hk hr e
  let m := s.dev.received.missedSlot k
  obtain ⟨hrun, -, hcfg, hlnk, hptb, hmsu, hctc, hmtr, hrst, -⟩ := m.viewNotice_frame s.dev.ptb false
  obtain ⟨hrun', -, hcfg', hmsu', -, hctc', -, -, hmtr', hrst', -⟩ := s.dev.received.missedSlot_frame k
  have hentry : (m.viewNotice s.dev.ptb false).ntu.entry .peerLost = m.ntu.entry .peerLost := m.viewNotice_entry (by decide) _ _
  have hput : m.ptb = s.dev.ptb.put k e.aged := s.dev.received.missedSlot_ptb k
  refine ⟨_, exec_slotEnd_up h k pins, rfl, ?_⟩
  rw [State.onDev_dev, Dev.slotEnd_of_missed h1 h31 hk pins hr, hrun, hcfg, hlnk, hptb, hmsu, hctc, hmtr, hrst, hput,
    Ptb.get_put_same h1 h31]
  refine ⟨fun j _ _ hj => Ptb.get_put_other hj _ _, e.aged_body, PeerEntry.aged_of_absent, fun hs => ?_, fun hs => ?_,
    ⟨fun hs hm => ?_, fun hn => ?_⟩, ?_, ?_, hrun', hcfg', hctc', hmsu', hmtr', hrst'⟩
  · rw [PeerEntry.aged_of_live hs]
    exact ⟨rfl, rfl⟩
  · rw [PeerEntry.aged_of_stale hs]
    exact ⟨rfl, rfl⟩
  · have hgoes : e.goes := e.goes_iff.2 ⟨hs, hm⟩
    refine ⟨?_, fun ⟨x, b, hx, hmember⟩ => ?_⟩
    · have hplace : m.lnk = s.dev.received.lnk.remember k none := (s.dev.received.missedSlot_lnk k).trans (if_pos hgoes)
      rw [hplace, Lnk.remembered_remember_same h1 h31]
    · rw [Ntu.raisedOnce, hentry]
      exact s.dev.received.missedSlot_raises k hgoes hx (PeerEntry.lastMember_iff.2 ⟨b, hmember⟩)
  · have hsilent : m.ntu = s.dev.ntu := by
      refine s.dev.received.missedSlot_silent k ?_
      rw [show (s.dev.received.ptb.get k).goes = e.goes from rfl, e.goes_iff]
      rcases hn with hn | hn | hn
      · exact .inl fun hg => hn hg.1
      · exact .inl fun hg => by omega
      · refine .inr fun x hx => Bool.eq_false_iff.2 fun hlast => hn ?_
        obtain ⟨b, hmember⟩ := PeerEntry.lastMember_iff.1 hlast
        exact ⟨x, b, hx, hmember⟩
    rw [hentry, hsilent]
  · rw [show m.lnk = _ from s.dev.received.missedSlot_link k]
    rfl
  · rw [show m.lnk = _ from s.dev.received.missedSlot_link k]
    rfl

end Sys2Proof.Machine

/-! # An accepted CELL or VESSEL bulletin at the end of its slot (O29; R54, R56, R59 to R61, R70, R71) -/

/-! ### The body at the peer table (R59, R60) -/

namespace Sys2Proof.Machine

section
variable (d : Dev) (k : Nat)

theorem Dev.storeBody_ptb (b : PeerBody) : (d.storeBody k b).ptb = d.ptb.put k (PeerEntry.stored b) := by
  simp only [Dev.storeBody]
  simp

theorem Dev.storeBody_entry (b : PeerBody) {j : NoticeKind} (h : j ≠ .vesselConflict) :
    (d.storeBody k b).ntu.entry j = d.ntu.entry j := by
  simp only [Dev.storeBody]
  rw [Dev.raiseIf_entry _ _ h, Dev.raiseIf_entry _ _ h]
  rfl
end

section
variable {d : Dev} {k : Nat} {role : Role} {bytes : List Byte}

theorem Dev.takeBody_of_some {b : PeerBody} (h : decodeBody role (bulletinBody bytes) = some b) :
    d.takeBody k role bytes = d.storeBody k b := by
  simp only [Dev.takeBody, h]

theorem Dev.takeBody_of_none (h : decodeBody role (bulletinBody bytes) = none) :
    d.takeBody k role bytes = (d.raise .badBulletin).missedSlot k := by
  simp only [Dev.takeBody, h]

theorem Dev.takeBody_other (d : Dev) (role : Role) (bytes : List Byte) {j k : Nat} (h : j ≠ k) :
    (d.takeBody k role bytes).ptb.get j = d.ptb.get j := by
  cases hb : decodeBody role (bulletinBody bytes) with
  | some b => rw [Dev.takeBody_of_some hb, Dev.storeBody_ptb, Ptb.get_put_other h]
  | none => rw [Dev.takeBody_of_none hb, Dev.missedSlot_ptb, Ptb.get_put_other h, (d.raise_frame _).2.2.2.2.1]

/-- The link's records that an accepted bulletin's body leaves: all but the order memory. -/
theorem Dev.takeBody_link (d : Dev) (k : Nat) (role : Role) (bytes : List Byte) :
    (d.takeBody k role bytes).lnk = { d.lnk with orderMem := (d.takeBody k role bytes).lnk.orderMem } := by
  cases hb : decodeBody role (bulletinBody bytes) with
  | some b => rw [Dev.takeBody_of_some hb, (d.storeBody_frame k b).2.2.2.1]
  | none => rw [Dev.takeBody_of_none hb]; exact Dev.missedSlot_link _ k

theorem Dev.takeBody_entry (d : Dev) (k : Nat) (role : Role) (bytes : List Byte) {j : NoticeKind}
    (h : j ≠ .vesselConflict ∧ j ≠ .badBulletin ∧ j ≠ .peerLost) : (d.takeBody k role bytes).ntu.entry j = d.ntu.entry j := by
  obtain ⟨hv, hb, hp⟩ := h
  cases hd : decodeBody role (bulletinBody bytes) with
  | some b => rw [Dev.takeBody_of_some hd, d.storeBody_entry k b hv]
  | none => rw [Dev.takeBody_of_none hd, Dev.missedSlot_entry _ _ hp, d.raise_entry _ _ hb]

/-- R60: a rejected body is told by BAD_BULLETIN, and the entry ages. -/
theorem Dev.takeBody_rejected (h1 : 1 ≤ k) (h31 : k ≤ 31) (h : decodeBody role (bulletinBody bytes) = none) :
    d.ntu.raisedOnce .badBulletin (d.takeBody k role bytes).ntu ∧ (d.takeBody k role bytes).ptb.get k = (d.ptb.get k).aged := by
  rw [Dev.takeBody_of_none h, Ntu.raisedOnce, Dev.missedSlot_entry _ _ (by decide), Dev.missedSlot_ptb, Ptb.get_put_same h1 h31]
  exact ⟨d.raise_own _, by simp⟩
end

end Sys2Proof.Machine

/-! ### The slot end of an accepted bulletin -/

namespace Sys2Proof.Machine

/-- R54, R56: the part once an accepted bulletin has cleared the lone count. -/
def Dev.heardFrom (d : Dev) : Dev :=
  d.setLnk { d.lnk with rx := none, heard := true, loneCount := 0, loneReported := false }

theorem Dev.slotEnd_of_role {d : Dev} {k : Nat} {bytes : List Byte} (h1 : 1 ≤ k) (h31 : k ≤ 31) (hk : k ≠ d.cfg.station)
    (hr : d.lnk.rx = some (k, bytes)) {role : Role} (ho : roleOfCode (byteAt bytes 1) = some role) (pins : Pins) :
    d.slotEnd k pins = (d.heardFrom.takeBody k role bytes).byRole k role bytes pins d.ptb := by
  rw [Dev.slotEnd_of_accepted h1 h31 hk pins hr]
  simp only [Dev.acceptedSlot, ho]
  rfl

/-- R54, R56, R59, R60: what an accepted bulletin and the ship-view notice after it leave in the link, the peer table, the notices and
every other block but those of the handover controller. -/
theorem Dev.takeBody_viewNotice_effect (d : Dev) {k : Nat} (h1 : 1 ≤ k) (h31 : k ≤ 31) (role : Role) (bytes : List Byte)
    (before : Ptb) (vessel : Bool) :
    let t := (d.heardFrom.takeBody k role bytes).viewNotice before vessel
    t.lnk.loneCount = 0 ∧ t.lnk.heard = true ∧ (∀ j, 1 ≤ j → j ≤ 31 → j ≠ k → t.ptb.get j = d.ptb.get j) ∧
      (∀ b, decodeBody role (bulletinBody bytes) = some b → t.ptb.get k = PeerEntry.stored b) ∧
      (decodeBody role (bulletinBody bytes) = none →
        d.ntu.raisedOnce .badBulletin t.ntu ∧ (t.ptb.get k).body = (d.ptb.get k).body ∧
          ((d.ptb.get k).state = .live → (t.ptb.get k).missed = min 50 ((d.ptb.get k).missed + 1))) ∧
      t.run = d.run ∧ t.cfg = d.cfg ∧ t.ctc = d.ctc ∧ t.msu = d.msu ∧ t.mtr = d.mtr ∧ t.rst = d.rst := by
  intro t
  let e := d.heardFrom.takeBody k role bytes
  obtain ⟨hrun, -, hcfg, hlnk, hptb, hmsu, hctc, hmtr, hrst, -⟩ := e.viewNotice_frame before vessel
  obtain ⟨hrun', -, hcfg', hmsu', -, hctc', -, -, hmtr', hrst', -⟩ := d.heardFrom.takeBody_frame k role bytes
  have hlink : t.lnk = { d.heardFrom.lnk with orderMem := e.lnk.orderMem } := hlnk.trans (d.heardFrom.takeBody_link k role bytes)
  have htable : t.ptb = e.ptb := hptb
  refine ⟨by rw [hlink]; rfl, by rw [hlink]; rfl, fun j _ _ hj => ?_, fun b hb => ?_, fun hb => ?_, hrun.trans hrun', hcfg.trans hcfg',
    hctc.trans hctc', hmsu.trans hmsu', hmtr.trans hmtr', hrst.trans hrst'⟩
  · rw [htable]
    exact d.heardFrom.takeBody_other role bytes hj
  · rw [htable, show e = _ from Dev.takeBody_of_some hb, Dev.storeBody_ptb, Ptb.get_put_same h1 h31]
  · obtain ⟨hraise, hentry⟩ := Dev.takeBody_rejected (d := d.heardFrom) h1 h31 hb
    rw [htable, hentry]
    refine ⟨(e.viewNotice_entry (by decide) before vessel).trans hraise, PeerEntry.aged_body _, fun hs => ?_⟩
    rw [show (d.heardFrom.ptb.get k).aged = _ from PeerEntry.aged_of_live hs]
    rfl

end Sys2Proof.Machine

/-! ### The adapters of an outlet (R70, R71) -/

namespace Sys2Proof.Machine

theorem PeerEntry.adapterOf_iff {e : PeerEntry} {x : Outlet} :
    e.adapterOf x = true ↔ e.state ≠ .absent ∧ ∃ g, e.body = .vessel x g := by
  unfold PeerEntry.adapterOf
  split
  · next hs => simp [hs]
  · next hb hs =>
    rw [beq_iff_eq, hb]
    exact ⟨fun h => ⟨hs, _, by rw [h]⟩, fun ⟨_, _, h⟩ => by injection h⟩
  · next hs hb => exact ⟨nofun, fun ⟨_, g, h⟩ => absurd h (hb x g)⟩

theorem Ptb.mem_all {t : Ptb} {j : Nat} {e : PeerEntry} : (j, e) ∈ t.all ↔ 1 ≤ j ∧ j ≤ 31 ∧ t.get j = e := by
  simp only [Ptb.all, List.mem_map, List.mem_range, Prod.mk.injEq]
  refine ⟨fun ⟨i, hi, hj, he⟩ => ?_, fun ⟨h1, h31, he⟩ => ⟨j - 1, by omega, by omega, ?_⟩⟩
  · subst hj
    exact ⟨by omega, by omega, he⟩
  · rwa [Nat.sub_add_cancel h1]

/-- R70, R71: the counted adapters of an outlet. -/
theorem Ptb.mem_adapters {t : Ptb} {x : Outlet} {j : Nat} :
    (∃ f, (j, f) ∈ t.adapters x) ↔ 1 ≤ j ∧ j ≤ 31 ∧ (t.get j).adapterOf x = true := by
  rw [PeerEntry.adapterOf_iff]
  simp only [Ptb.adapters, List.mem_filterMap]
  constructor
  · rintro ⟨f, ⟨i, e⟩, hall, hm⟩
    obtain ⟨h1, h31, he⟩ := Ptb.mem_all.1 hall
    split at hm
    · cases hm
    · next hb hs =>
      split at hm
      · next hy =>
        obtain ⟨rfl, rfl⟩ : i = j ∧ _ = f := by simpa using hm
        exact ⟨h1, h31, by rwa [he], _, by rw [he, hb, hy]⟩
      · cases hm
    · cases hm
  · rintro ⟨h1, h31, hs, f, hb⟩
    refine ⟨f, (j, t.get j), Ptb.mem_all.2 ⟨h1, h31, rfl⟩, ?_⟩
    simp only [hb]
    exact if_pos trivial

/-- R71: a store that makes a station an adapter beside another. -/
theorem vesselConflict_iff {t : Ptb} {k : Nat} (h1 : 1 ≤ k) (h31 : k ≤ 31) {x y : Outlet} {f : ShipFacts} :
    vesselConflict t (t.put k (PeerEntry.stored (.vessel y f))) k x = true ↔
      x = y ∧ (t.get k).adapterOf x = false ∧ ∃ j, 1 ≤ j ∧ j ≤ 31 ∧ j ≠ k ∧ (t.get j).adapterOf x = true := by
  have hstored : (PeerEntry.stored (.vessel y f)).adapterOf x = true ↔ x = y := by
    rw [PeerEntry.adapterOf_iff]
    refine ⟨fun ⟨_, g, hg⟩ => ?_, fun hx => ⟨nofun, f, by rw [hx]; rfl⟩⟩
    injection hg with hy _
    exact hy.symm
  have hother : ((t.put k (PeerEntry.stored (.vessel y f))).adapters x).any (fun v => v.1 != k) = true ↔
      ∃ j, 1 ≤ j ∧ j ≤ 31 ∧ j ≠ k ∧ (t.get j).adapterOf x = true := by
    simp only [List.any_eq_true, bne_iff_ne]
    constructor
    · rintro ⟨⟨j, g⟩, hmem, hj⟩
      obtain ⟨hj1, hj31, hadapter⟩ := Ptb.mem_adapters.1 ⟨g, hmem⟩
      exact ⟨j, hj1, hj31, hj, by rwa [Ptb.get_put_other hj] at hadapter⟩
    · rintro ⟨j, hj1, hj31, hj, hadapter⟩
      obtain ⟨g, hmem⟩ := Ptb.mem_adapters.2 ⟨hj1, hj31, (Ptb.get_put_other hj t _).symm ▸ hadapter⟩
      exact ⟨(j, g), hmem, hj⟩
  rw [vesselConflict, Ptb.get_put_same h1 h31, Bool.and_eq_true, Bool.and_eq_true, hstored, hother, Bool.not_eq_true']
  exact ⟨fun ⟨⟨hold, hxy⟩, hj⟩ => ⟨hxy, hold, hj⟩, fun ⟨hxy, hold, hj⟩ => ⟨⟨hold, hxy⟩, hj⟩⟩

/-- R71: VESSEL_CONFLICT, once, where a stored vessel body makes its station an adapter beside another. -/
theorem Dev.storeBody_conflict (d : Dev) {k : Nat} (h1 : 1 ≤ k) (h31 : k ≤ 31) (y : Outlet) (f : ShipFacts) :
    let appears := (d.ptb.get k).adapterOf y = false ∧ ∃ j, 1 ≤ j ∧ j ≤ 31 ∧ j ≠ k ∧ (d.ptb.get j).adapterOf y = true
    (appears → d.ntu.raisedOnce .vesselConflict (d.storeBody k (.vessel y f)).ntu) ∧
      (¬appears → (d.storeBody k (.vessel y f)).ntu.entry .vesselConflict = d.ntu.entry .vesselConflict) := by
  intro appears
  let t := d.ptb.put k (PeerEntry.stored (.vessel y f))
  have hof (x : Outlet) : vesselConflict d.ptb t k x = true ↔ x = y ∧ appears := by
    rw [vesselConflict_iff h1 h31]
    exact and_congr_right fun hx => by rw [hx]
  have hstore : d.storeBody k (.vessel y f) =
      ((d.setPtb t).raiseIf (vesselConflict d.ptb t k .a) .vesselConflict).raiseIf (vesselConflict d.ptb t k .b) .vesselConflict := rfl
  rw [hstore]
  constructor
  · intro ha
    have hraised : vesselConflict d.ptb t k y = true := (hof y).2 ⟨rfl, ha⟩
    have hsilent (x : Outlet) (hx : x ≠ y) : vesselConflict d.ptb t k x = false := Bool.eq_false_iff.2 fun h => hx ((hof x).1 h).1
    cases y with
    | a =>
      rw [hraised, hsilent .b nofun]
      exact Dev.raise_own _ _
    | b =>
      rw [hraised, hsilent .a nofun]
      exact Dev.raise_own _ _
  · intro hn
    have hsilent (x : Outlet) : vesselConflict d.ptb t k x = false := Bool.eq_false_iff.2 fun h => hn ((hof x).1 h).2
    rw [hsilent, hsilent]
    rfl

end Sys2Proof.Machine

/-! # The ship view at the handover controller (O29; R112, R113, R115, R119, R120, R125 and Table 7-5) -/

/-! ### The ship's events by state (Table 7-5) -/

namespace Sys2Proof.Machine

/-- The members whose bus the ship's breaker joins to the ship. -/
def HState.shipJoined (st : HState) : Bool := st.isMember && st != .onBus && st != .matching

/-- The members in parallel with the ship's generators. -/
abbrev HState.paralleled (st : HState) : Prop := st = .parallelUp ∨ st = .parallelHold ∨ st = .parallelDown ∨ st = .releaseWait

theorem HState.shipJoined_iff {st : HState} : st.shipJoined = true ↔ st.isMember = true ∧ st ≠ .onBus ∧ st ≠ .matching := by
  simp [HState.shipJoined, and_assoc]

/-- R125: the breaker's opening is one that the cell or its lead waits for. -/
def Dev.released (d : Dev) : Prop :=
  d.hoc.state = .releaseWait ∨
    (d.hoc.state = .parallelDown ∧ d.hoc.lead = false ∧ d.hoc.assignment.bind d.ptb.leadState = some .releaseWait)

section
variable {d : Dev} {n : Nat}

theorem Dev.breakerCloses_of_onBus (h : d.hoc.state = .onBus) :
    d.breakerCloses n = if n = 0 then d.move .island else (d.move .parallelHold).raise .shipCloseUnpermitted := by
  simp only [Dev.breakerCloses, h]

theorem Dev.breakerCloses_of_matching (h : d.hoc.state = .matching) :
    d.breakerCloses n = if n = 0 then d.move .island else d.move .parallelUp := by
  simp only [Dev.breakerCloses, h]

theorem Dev.breakerCloses_of_other (h : d.hoc.state ≠ .onBus ∧ d.hoc.state ≠ .matching) : d.breakerCloses n = d := by
  obtain ⟨hb, hm⟩ := h
  unfold Dev.breakerCloses
  split
  · contradiction
  · contradiction
  · rfl

/-- R125: an opening that the cell waits for returns to ON_BUS in silence. -/
theorem Dev.breakerOpens_of_released (h : d.released) : d.breakerOpens = d.backToOnBus := by
  rcases h with hs | ⟨hs, hl, hr⟩
  · simp only [Dev.breakerOpens, hs]
  · simp only [Dev.breakerOpens, hs]
    exact if_pos ⟨by simp [hl], hr⟩

theorem Dev.breakerOpens_of_unexpected (hs : d.hoc.state.shipJoined = true) (h : ¬d.released) :
    d.breakerOpens = d.backToOnBus.raise .shipOpenUnexpected := by
  unfold Dev.breakerOpens
  cases hst : d.hoc.state with
  | releaseWait => exact absurd (.inl hst) h
  | parallelDown => exact if_neg fun hr => h (.inr ⟨hst, by simpa using hr.1, hr.2⟩)
  | parallelUp | parallelHold | island | departWait => rfl
  | off | assigned | forming | joining | onBus | matching | leaving | tripped => simp [hst, HState.shipJoined, HState.isMember] at hs

theorem Dev.breakerOpens_of_other (h : d.hoc.state.shipJoined = false) : d.breakerOpens = d := by
  unfold Dev.breakerOpens
  cases hst : d.hoc.state with
  | off | assigned | forming | joining | onBus | matching | leaving | tripped => rfl
  | releaseWait | parallelDown | parallelUp | parallelHold | island | departWait =>
    simp [hst, HState.shipJoined, HState.isMember] at h

theorem Dev.generatorEvent_of_paralleled (h : d.hoc.state.paralleled) :
    d.generatorEvent n = if n = 0 then d.move .island else d := by
  rcases h with h | h | h | h <;> simp only [Dev.generatorEvent, h]

theorem Dev.generatorEvent_of_departWait (h : d.hoc.state = .departWait) :
    d.generatorEvent n = if n = 0 then d else d.move .parallelDown := by
  simp only [Dev.generatorEvent, h]

theorem Dev.generatorEvent_of_other (h : ¬d.hoc.state.paralleled ∧ d.hoc.state ≠ .departWait) : d.generatorEvent n = d := by
  obtain ⟨hp, hd⟩ := h
  unfold Dev.generatorEvent
  cases hst : d.hoc.state with
  | off | assigned | forming | joining | onBus | matching | island | leaving | tripped => rfl
  | departWait => contradiction
  | parallelUp | parallelHold | parallelDown | releaseWait => simp [hst] at hp
end

end Sys2Proof.Machine

/-! ### What an event keeps -/

namespace Sys2Proof.Machine

/-- What a ship's event keeps of the handover controller: assignment, the facts acted on, and being a member. -/
def Hoc.eventFrom (h t : Hoc) : Prop :=
  t.assignment = h.assignment ∧ t.acted = h.acted ∧ (h.state.isMember = true → t.state.isMember = true)

theorem Hoc.eventFrom_refl (h : Hoc) : h.eventFrom h := ⟨rfl, rfl, id⟩

theorem Hoc.eventFrom.trans {h t u : Hoc} (a : h.eventFrom t) (b : t.eventFrom u) : h.eventFrom u := by
  obtain ⟨ha, hc, hm⟩ := a
  obtain ⟨ha', hc', hm'⟩ := b
  exact ⟨ha'.trans ha, hc'.trans hc, hm' ∘ hm⟩

theorem Dev.move_acted (d : Dev) (st : HState) : (d.move st).hoc.acted = d.hoc.acted := by
  simp only [Dev.move, Dev.setHoc_hoc, Hoc.enter]
  split <;> rfl

theorem Dev.move_event (d : Dev) {st : HState} (h : st.isMember = true) : d.hoc.eventFrom (d.move st).hoc :=
  ⟨(d.move_sameTable st).1, d.move_acted st, fun _ => by rwa [d.move_state]⟩

section
variable (d : Dev)

theorem Dev.breakerCloses_event (n : Nat) : d.hoc.eventFrom (d.breakerCloses n).hoc := by
  by_cases hb : d.hoc.state = .onBus
  · rw [Dev.breakerCloses_of_onBus hb]
    split
    · exact d.move_event rfl
    · exact d.move_event (st := .parallelHold) rfl
  · by_cases hm : d.hoc.state = .matching
    · rw [Dev.breakerCloses_of_matching hm]
      split <;> exact d.move_event rfl
    · rw [Dev.breakerCloses_of_other ⟨hb, hm⟩]
      exact d.hoc.eventFrom_refl

theorem Dev.breakerOpens_event : d.hoc.eventFrom d.breakerOpens.hoc := by
  have hback : d.hoc.eventFrom d.backToOnBus.hoc := d.move_event (st := .onBus) rfl
  cases hs : d.hoc.state.shipJoined with
  | false =>
    rw [Dev.breakerOpens_of_other hs]
    exact d.hoc.eventFrom_refl
  | true =>
    by_cases hr : d.released
    · rwa [Dev.breakerOpens_of_released hr]
    · rw [Dev.breakerOpens_of_unexpected hs hr]
      exact hback

theorem Dev.generatorEvent_event (n : Nat) : d.hoc.eventFrom (d.generatorEvent n).hoc := by
  by_cases hp : d.hoc.state.paralleled
  · rw [Dev.generatorEvent_of_paralleled hp]
    split
    · exact d.move_event rfl
    · exact d.hoc.eventFrom_refl
  · by_cases hw : d.hoc.state = .departWait
    · rw [Dev.generatorEvent_of_departWait hw]
      split
      · exact d.hoc.eventFrom_refl
      · exact d.move_event rfl
    · rw [Dev.generatorEvent_of_other ⟨hp, hw⟩]
      exact d.hoc.eventFrom_refl
end

end Sys2Proof.Machine

/-! ### The events of a ship view: the breaker, then the generators (R119) -/

namespace Sys2Proof.Machine

/-- The breaker's event of a ship view. -/
def Dev.breakerEvent (old v : ShipFacts) (d : Dev) : Dev :=
  if old.breaker = v.breaker then d else if v.breaker then d.breakerCloses v.generators else d.breakerOpens

/-- The generators' event of a ship view. -/
def Dev.generatorChange (old v : ShipFacts) (d : Dev) : Dev :=
  if decide (old.generators = 0) = decide (v.generators = 0) then d else d.generatorEvent v.generators

theorem Dev.shipEvents_eq (d : Dev) (old v : ShipFacts) : d.shipEvents old v = (d.breakerEvent old v).generatorChange old v := rfl

section
variable {d : Dev} {old v : ShipFacts}

theorem Dev.breakerEvent_of_same (h : old.breaker = v.breaker) : d.breakerEvent old v = d := if_pos h

theorem Dev.breakerEvent_of_opens (ho : old.breaker = true) (hv : v.breaker = false) : d.breakerEvent old v = d.breakerOpens := by
  simp [Dev.breakerEvent, ho, hv]

theorem Dev.breakerEvent_of_closes (ho : old.breaker = false) (hv : v.breaker = true) :
    d.breakerEvent old v = d.breakerCloses v.generators := by
  simp [Dev.breakerEvent, ho, hv]

theorem Dev.generatorChange_of_same (h : old.generators = 0 ↔ v.generators = 0) : d.generatorChange old v = d :=
  if_pos (decide_eq_decide.2 h)

theorem Dev.generatorChange_of_change (h : ¬(old.generators = 0 ↔ v.generators = 0)) :
    d.generatorChange old v = d.generatorEvent v.generators := if_neg fun he => h (decide_eq_decide.1 he)

/-- The generators' event leaves a cell that no generators' event moves. -/
theorem Dev.generatorChange_of_still (h : d.generatorEvent v.generators = d) : d.generatorChange old v = d := by
  unfold Dev.generatorChange
  split
  · rfl
  · exact h

theorem Dev.breakerEvent_event (d : Dev) (old v : ShipFacts) : d.hoc.eventFrom (d.breakerEvent old v).hoc := by
  unfold Dev.breakerEvent
  split
  · exact d.hoc.eventFrom_refl
  · split
    · exact d.breakerCloses_event _
    · exact d.breakerOpens_event

theorem Dev.generatorChange_event (d : Dev) (old v : ShipFacts) : d.hoc.eventFrom (d.generatorChange old v).hoc := by
  unfold Dev.generatorChange
  split
  · exact d.hoc.eventFrom_refl
  · exact d.generatorEvent_event _

theorem Dev.shipEvents_event (d : Dev) (old v : ShipFacts) : d.hoc.eventFrom (d.shipEvents old v).hoc :=
  (d.breakerEvent_event old v).trans (Dev.generatorChange_event _ old v)

theorem Dev.generatorChange_ntu (d : Dev) (old v : ShipFacts) : (d.generatorChange old v).ntu = d.ntu := by
  unfold Dev.generatorChange
  split
  · rfl
  · simp

/-- Table 7-5: a cell that energises takes no event. -/
theorem Dev.shipEvents_of_energising (h : d.hoc.state = .forming ∨ d.hoc.state = .joining) : d.shipEvents old v = d := by
  have hcloses (n : Nat) : d.breakerCloses n = d := Dev.breakerCloses_of_other (by rcases h with h | h <;> simp [h])
  have hopens : d.breakerOpens = d := Dev.breakerOpens_of_other (by rcases h with h | h <;> rw [h] <;> rfl)
  have hgenerators (n : Nat) : d.generatorEvent n = d := Dev.generatorEvent_of_other (by rcases h with h | h <;> simp [h])
  have hbreaker : d.breakerEvent old v = d := by
    unfold Dev.breakerEvent
    (repeat' split) <;> simp only [hcloses, hopens]
  rw [Dev.shipEvents_eq, hbreaker, Dev.generatorChange_of_still (hgenerators _)]
end

end Sys2Proof.Machine

/-! ### A member takes a ship view (R119, R120, R125) -/

namespace Sys2Proof.Machine

section
variable {d : Dev} {n : Nat}

/-- R125: an opening breaker takes a member that it joined to the ship back to ON_BUS. -/
theorem Dev.breakerOpens_joined (h : d.hoc.state.shipJoined = true) :
    d.breakerOpens.hoc.state = .onBus ∧ d.breakerOpens.syu.fRamp = 0 := by
  have hback : d.backToOnBus.hoc.state = .onBus ∧ d.backToOnBus.syu.fRamp = 0 := ⟨d.move_state .onBus, rfl⟩
  by_cases hr : d.released
  · rwa [Dev.breakerOpens_of_released hr]
  · rwa [Dev.breakerOpens_of_unexpected h hr]

theorem Dev.breakerOpens_told :
    (d.hoc.state.shipJoined = true ∧ ¬d.released → d.ntu.raisedOnce .shipOpenUnexpected d.breakerOpens.ntu) ∧
      (¬(d.hoc.state.shipJoined = true ∧ ¬d.released) → d.breakerOpens.ntu = d.ntu) := by
  have hback : d.backToOnBus.ntu = d.ntu := by simp
  refine ⟨fun ⟨hs, hr⟩ => ?_, fun hn => ?_⟩
  · rw [Dev.breakerOpens_of_unexpected hs hr, Ntu.raisedOnce, ← hback]
    exact Dev.raise_own _ _
  · by_cases hr : d.released
    · rwa [Dev.breakerOpens_of_released hr]
    · rw [Dev.breakerOpens_of_other (Bool.eq_false_iff.2 fun hs => hn ⟨hs, hr⟩)]

theorem Dev.breakerCloses_told :
    (d.hoc.state = .onBus ∧ n ≠ 0 → d.ntu.raisedOnce .shipCloseUnpermitted (d.breakerCloses n).ntu) ∧
      (¬(d.hoc.state = .onBus ∧ n ≠ 0) → (d.breakerCloses n).ntu = d.ntu) := by
  have hmoved (st : HState) : (d.move st).ntu = d.ntu := by simp
  refine ⟨fun ⟨hs, hn⟩ => ?_, fun hq => ?_⟩
  · rw [Dev.breakerCloses_of_onBus hs, if_neg hn, Ntu.raisedOnce, ← hmoved .parallelHold]
    exact Dev.raise_own _ _
  · by_cases hb : d.hoc.state = .onBus
    · rw [Dev.breakerCloses_of_onBus hb, if_pos (by_contra fun hn => hq ⟨hb, hn⟩), hmoved]
    · by_cases hm : d.hoc.state = .matching
      · rw [Dev.breakerCloses_of_matching hm]
        split <;> exact hmoved _
      · rw [Dev.breakerCloses_of_other ⟨hb, hm⟩]

/-- Table 7-5: a closing breaker at a member that it did not join to the ship, and no generators' event after it. -/
theorem Dev.breakerCloses_joins (h : d.hoc.state = .onBus ∨ d.hoc.state = .matching) :
    (d.breakerCloses n).hoc.state = (if n = 0 then .island else if d.hoc.state = .onBus then .parallelHold else .parallelUp) := by
  rcases h with h | h
  · rw [Dev.breakerCloses_of_onBus h, h]
    split <;> exact d.move_state _
  · rw [Dev.breakerCloses_of_matching h, h]
    split <;> exact d.move_state _
end

section
variable {d : Dev} {old v : ShipFacts}

theorem Dev.generatorEvent_after_closes (h : d.hoc.state = .onBus ∨ d.hoc.state = .matching) :
    (d.breakerCloses v.generators).generatorEvent v.generators = d.breakerCloses v.generators := by
  have hjoins := Dev.breakerCloses_joins (n := v.generators) h
  by_cases hn : v.generators = 0
  · rw [if_pos hn] at hjoins
    exact Dev.generatorEvent_of_other (by simp [hjoins])
  · rw [if_neg hn] at hjoins
    have hpar : (d.breakerCloses v.generators).hoc.state.paralleled := by
      rw [hjoins]
      split
      · exact .inr (.inl rfl)
      · exact .inl rfl
    rw [Dev.generatorEvent_of_paralleled hpar, if_neg hn]

theorem Dev.shipEvents_of_opens (ho : old.breaker = true) (hv : v.breaker = false) (hs : d.hoc.state.shipJoined = true) :
    d.shipEvents old v = d.breakerOpens := by
  rw [Dev.shipEvents_eq, Dev.breakerEvent_of_opens ho hv]
  exact Dev.generatorChange_of_still (Dev.generatorEvent_of_other (by simp [(Dev.breakerOpens_joined hs).1]))

theorem Dev.shipEvents_of_closes (ho : old.breaker = false) (hv : v.breaker = true)
    (hs : d.hoc.state = .onBus ∨ d.hoc.state = .matching) : d.shipEvents old v = d.breakerCloses v.generators := by
  rw [Dev.shipEvents_eq, Dev.breakerEvent_of_closes ho hv]
  exact Dev.generatorChange_of_still (Dev.generatorEvent_after_closes hs)

/-- R119: a breaker that opens beside no ship, or closes beside a joined one, leaves the generators' event alone. -/
theorem Dev.shipEvents_of_no_move (hopens : old.breaker = true ∧ v.breaker = false → d.hoc.state.shipJoined = false)
    (hcloses : old.breaker = false ∧ v.breaker = true → d.hoc.state ≠ .onBus ∧ d.hoc.state ≠ .matching) :
    d.shipEvents old v = d.generatorChange old v := by
  rw [Dev.shipEvents_eq]
  cases ho : old.breaker <;> cases hv : v.breaker
  · rw [Dev.breakerEvent_of_same (ho.trans hv.symm)]
  · rw [Dev.breakerEvent_of_closes ho hv, Dev.breakerCloses_of_other (hcloses ⟨ho, hv⟩)]
  · rw [Dev.breakerEvent_of_opens ho hv, Dev.breakerOpens_of_other (hopens ⟨ho, hv⟩)]
  · rw [Dev.breakerEvent_of_same (ho.trans hv.symm)]

/-- R125: SHIP_OPEN_UNEXPECTED. -/
theorem Dev.shipEvents_open_told :
    let unexpected := (old.breaker = true ∧ v.breaker = false) ∧ d.hoc.state.shipJoined = true ∧ ¬d.released
    (unexpected → d.ntu.raisedOnce .shipOpenUnexpected (d.shipEvents old v).ntu) ∧
      (¬unexpected → (d.shipEvents old v).ntu.entry .shipOpenUnexpected = d.ntu.entry .shipOpenUnexpected) := by
  intro unexpected
  rw [Dev.shipEvents_eq, Dev.generatorChange_ntu]
  refine ⟨fun ⟨⟨ho, hv⟩, hjoined⟩ => ?_, fun hu => ?_⟩
  · rw [Dev.breakerEvent_of_opens ho hv]
    exact Dev.breakerOpens_told.1 hjoined
  · by_cases hopens : old.breaker = true ∧ v.breaker = false
    · rw [Dev.breakerEvent_of_opens hopens.1 hopens.2, Dev.breakerOpens_told.2 fun hj => hu ⟨hopens, hj⟩]
    · unfold Dev.breakerEvent
      split
      · rfl
      · rw [if_pos (by grind)]
        exact d.breakerCloses_entry _ (by decide)

/-- Table 7-5: SHIP_CLOSE_UNPERMITTED. -/
theorem Dev.shipEvents_close_told :
    let unpermitted := (old.breaker = false ∧ v.breaker = true) ∧ d.hoc.state = .onBus ∧ v.generators ≠ 0
    (unpermitted → d.ntu.raisedOnce .shipCloseUnpermitted (d.shipEvents old v).ntu) ∧
      (¬unpermitted → (d.shipEvents old v).ntu.entry .shipCloseUnpermitted = d.ntu.entry .shipCloseUnpermitted) := by
  intro unpermitted
  rw [Dev.shipEvents_eq, Dev.generatorChange_ntu]
  refine ⟨fun ⟨⟨ho, hv⟩, hbus⟩ => ?_, fun hu => ?_⟩
  · rw [Dev.breakerEvent_of_closes ho hv]
    exact Dev.breakerCloses_told.1 hbus
  · by_cases hcloses : old.breaker = false ∧ v.breaker = true
    · rw [Dev.breakerEvent_of_closes hcloses.1 hcloses.2, Dev.breakerCloses_told.2 fun hj => hu ⟨hcloses, hj⟩]
    · unfold Dev.breakerEvent
      split
      · rfl
      · rw [if_neg (by grind)]
        exact d.breakerOpens_entry (by decide)
end

/-- R119, R120, R125: a member's move on a ship view. -/
theorem Dev.shipEvents_taken {d : Dev} {x : Outlet} {old v : ShipFacts} (hx : d.hoc.assignment = some x)
    (hm : d.hoc.state.isMember = true) :
    d.shipTakenFrom x old v ((d.setHoc { d.hoc with acted := some v }).shipEvents old v) := by
  let e := d.setHoc { d.hoc with acted := some v }
  have hjoined : e.hoc.state.shipJoined = true ↔ d.hoc.state ≠ .onBus ∧ d.hoc.state ≠ .matching :=
    HState.shipJoined_iff.trans (and_iff_right hm)
  have hreleased : e.released ↔ d.hoc.state = .releaseWait ∨
      (d.hoc.state = .parallelDown ∧ d.hoc.lead = false ∧ (e.shipEvents old v).ptb.leadState x = some .releaseWait) := by
    have hview : e.hoc.assignment.bind e.ptb.leadState = (e.shipEvents old v).ptb.leadState x := by
      rw [(e.shipEvents_frame old v).2.2.2.2.1, show e.hoc.assignment = some x from hx]
      rfl
    rw [← hview]
    rfl
  unfold Dev.shipTakenFrom
  intro st opens closes stops starts released unexpected unpermitted
  refine ⟨?_, ?_, fun ho hb ht => ?_, fun hc hs => ?_, fun ho hstops hs => ?_, fun ho hstarts hs => ?_, fun ho hc hst hsp => ?_⟩
  · split
    · next hu =>
      obtain ⟨hopens, hb, ht, hr⟩ := hu
      exact (Dev.shipEvents_open_told (d := e)).1 ⟨hopens, hjoined.2 ⟨hb, ht⟩, fun h => hr (hreleased.1 h)⟩
    · next hu =>
      refine (Dev.shipEvents_open_told (d := e)).2 fun ⟨hopens, hj, hr⟩ => hu ?_
      obtain ⟨hb, ht⟩ := hjoined.1 hj
      exact ⟨hopens, hb, ht, fun h => hr (hreleased.2 h)⟩
  · split
    · next hu => exact (Dev.shipEvents_close_told (d := e)).1 hu
    · next hu => exact (Dev.shipEvents_close_told (d := e)).2 hu
  · have hs := hjoined.2 ⟨hb, ht⟩
    rw [Dev.shipEvents_of_opens ho.1 ho.2 hs]
    exact Dev.breakerOpens_joined hs
  · rw [Dev.shipEvents_of_closes (d := e) hc.1 hc.2 hs]
    exact Dev.breakerCloses_joins hs
  · have hstill : e.hoc.state ≠ .onBus ∧ e.hoc.state ≠ .matching := by
      rcases hs with hs | hs | hs | hs <;> rw [show e.hoc.state = _ from hs] <;> decide
    rw [Dev.shipEvents_of_no_move (d := e) (fun h => absurd h ho) fun _ => hstill,
      Dev.generatorChange_of_change fun h => hstops.1 (h.2 hstops.2), Dev.generatorEvent_of_paralleled (d := e) hs, if_pos hstops.2]
    exact e.move_state _
  · have hstill : e.hoc.state ≠ .onBus ∧ e.hoc.state ≠ .matching := by
      rw [show e.hoc.state = _ from hs]
      decide
    rw [Dev.shipEvents_of_no_move (d := e) (fun h => absurd h ho) fun _ => hstill,
      Dev.generatorChange_of_change fun h => hstarts.2 (h.1 hstarts.1), Dev.generatorEvent_of_departWait (d := e) hs,
      if_neg hstarts.2]
    exact e.move_state _
  · rw [Dev.shipEvents_of_no_move (d := e) (fun h => absurd h ho) fun h => absurd h hc, Dev.generatorChange_of_same]
    · exact ⟨rfl, rfl, rfl⟩
    · exact ⟨fun h => by_contra fun hn => hsp ⟨h, hn⟩, fun h => by_contra fun hn => hst ⟨hn, h⟩⟩

end Sys2Proof.Machine

/-! ### The ship-view notice (R70, R112, R113, R115) -/

namespace Sys2Proof.Machine

theorem Dev.reconsider_of_member {d : Dev} (h : d.hoc.state.isMember = true) : d.reconsider = d := by
  unfold Dev.reconsider
  cases hs : d.hoc.state with
  | onBus | matching | parallelUp | parallelHold | island | departWait | parallelDown | releaseWait => rfl
  | off | assigned | forming | joining | leaving | tripped => simp [hs, HState.isMember] at h

theorem Dev.energise_of_cable {d : Dev} (h : d.cableReady = false) : d.energise = d := by
  simp only [Dev.energise, Dev.mayEnergise, h]
  split <;> simp

/-- R112: a cell that comes to ASSIGNED without a ready cable stays there. -/
theorem Dev.toAssigned_of_cable {d : Dev} (h : d.cableReady = false) : d.toAssigned.hoc.state = .assigned := by
  have hcable : (d.move .assigned).cableReady = false := by
    rw [← h]
    simp [Dev.cableReady, Dev.ownView, (d.move_sameTable .assigned).1]
  rw [Dev.toAssigned, Dev.energise_of_cable hcable, d.move_state]

/-- R113, R115: FORMING and JOINING are withdrawn while the contactor is OPEN and the cable is not ready. -/
theorem Dev.reconsider_of_cable {d : Dev} (hs : d.hoc.state = .forming ∨ d.hoc.state = .joining) (hc : d.ownCon = some .opened)
    (h : d.cableReady = false) : d.reconsider.hoc.state = .assigned := by
  have hwithdrawn : d.reconsider = d.toAssigned := by
    rcases hs with hs | hs <;> simp only [Dev.reconsider, hs]
    · exact if_pos ⟨hc, .inr (.inl (by simp [h]))⟩
    · exact if_pos ⟨hc, .inr (by simp [h])⟩
  rw [hwithdrawn, Dev.toAssigned_of_cable h]

theorem Dev.energise_acted (d : Dev) : d.energise.hoc.acted = d.hoc.acted := by
  rcases d.energise_cases with he | ⟨-, -, he | he⟩ <;> rw [he]
  · exact d.move_acted _
  · exact d.move_acted _

theorem Dev.toAssigned_acted (d : Dev) : d.toAssigned.hoc.acted = d.hoc.acted :=
  (Dev.energise_acted _).trans (d.move_acted _)

theorem Dev.reconsider_acted (d : Dev) : d.reconsider.hoc.acted = d.hoc.acted := by
  unfold Dev.reconsider
  split
  · split
    · exact d.toAssigned_acted
    · rfl
  · split
    · exact d.toAssigned_acted
    · rfl
  · exact d.energise_acted
  · rfl

section
variable {d : Dev}

theorem Dev.shipNotice_of_leaving (h : d.hoc.state = .leaving) : d.shipNotice = d := if_pos h

theorem Dev.shipNotice_of_taken (h : d.hoc.state ≠ .leaving) : d.shipNotice = d.takeView.reconsider := if_neg h

theorem Dev.takeView_of_none (h : d.ownView = none) : d.takeView = d := by simp only [Dev.takeView, h]

variable {v : ShipFacts} (h : d.ownView = some v)
include h

/-- R119: the first view after facts of none raises no event (log entry 9). -/
theorem Dev.takeView_of_first (ha : d.hoc.acted = none) : d.takeView = d.setHoc { d.hoc with acted := some v } := by
  simp only [Dev.takeView, h, ha]

theorem Dev.takeView_of_change {old : ShipFacts} (ha : d.hoc.acted = some old) :
    d.takeView = (d.setHoc { d.hoc with acted := some v }).shipEvents old v := by
  simp only [Dev.takeView, h, ha]

theorem Dev.takeView_event : ({ d.hoc with acted := some v } : Hoc).eventFrom d.takeView.hoc := by
  cases ha : d.hoc.acted with
  | none =>
    rw [Dev.takeView_of_first h ha]
    exact Hoc.eventFrom_refl _
  | some old =>
    rw [Dev.takeView_of_change h ha]
    exact Dev.shipEvents_event (d.setHoc _) old v

/-- Table 7-5: a cell that energises takes the facts alone. -/
theorem Dev.takeView_of_energising (hs : d.hoc.state = .forming ∨ d.hoc.state = .joining) :
    d.takeView = d.setHoc { d.hoc with acted := some v } := by
  cases ha : d.hoc.acted with
  | none => exact Dev.takeView_of_first h ha
  | some old => exact (Dev.takeView_of_change h ha).trans (Dev.shipEvents_of_energising hs)
end

section
variable {d : Dev} {x : Outlet} (hx : d.hoc.assignment = some x)
include hx

theorem Dev.ownView_of_assigned : d.ownView = d.ptb.shipView x := by simp [Dev.ownView, hx]

/-- R119: the assignment stands, and the facts acted on are those of the view. -/
theorem Dev.shipNotice_facts (hs : d.hoc.state ≠ .leaving) :
    d.shipNotice.hoc.assignment = some x ∧ (d.ptb.shipView x = none → d.shipNotice.hoc.acted = d.hoc.acted) ∧
      ∀ v, d.ptb.shipView x = some v → d.shipNotice.hoc.acted = some v := by
  rw [Dev.shipNotice_of_taken hs, d.takeView.reconsider_acted, d.takeView.reconsider_sameTable.1]
  rw [← Dev.ownView_of_assigned hx]
  cases hv : d.ownView with
  | none =>
    rw [Dev.takeView_of_none hv]
    exact ⟨hx, fun _ => rfl, nofun⟩
  | some w =>
    obtain ⟨hassigned, hacted, -⟩ := Dev.takeView_event hv
    refine ⟨hassigned.trans hx, nofun, fun v hwv => hacted.trans hwv⟩

omit hx in
/-- R119, R120, R125: a member at a ship-view notice. -/
theorem Dev.shipNotice_of_member (hm : d.hoc.state.isMember = true) : d.shipNotice = d.takeView := by
  have hs : d.hoc.state ≠ .leaving := fun hs => by simp [hs, HState.isMember] at hm
  have hmember : d.takeView.hoc.state.isMember = true := by
    cases hv : d.ownView with
    | none => rwa [Dev.takeView_of_none hv]
    | some v => exact (Dev.takeView_event hv).2.2 hm
  rw [Dev.shipNotice_of_taken hs, Dev.reconsider_of_member hmember]

/-- R113, R115: FORMING and JOINING are withdrawn by a ship-view notice without a ready cable while the contactor is OPEN. -/
theorem Dev.shipNotice_withdraws (hs : d.hoc.state = .forming ∨ d.hoc.state = .joining) (hc : d.con x = .opened)
    (hv : ∀ v, d.ptb.shipView x = some v → v.cableReady = false) : d.shipNotice.hoc.state = .assigned := by
  have hleaving : d.hoc.state ≠ .leaving := by rcases hs with hs | hs <;> simp [hs]
  obtain ⟨a, ha⟩ : ∃ a, d.takeView = d.setHoc { d.hoc with acted := a } := by
    cases hw : d.ownView with
    | none => exact ⟨d.hoc.acted, Dev.takeView_of_none hw⟩
    | some v => exact ⟨some v, Dev.takeView_of_energising hw hs⟩
  rw [Dev.shipNotice_of_taken hleaving, ha]
  refine Dev.reconsider_of_cable hs ?_ ?_
  · simp [Dev.ownCon, hx, Dev.con, ← hc]
  · have hview : (d.setHoc { d.hoc with acted := a }).ownView = d.ptb.shipView x :=
      Dev.ownView_of_assigned (d := d.setHoc { d.hoc with acted := a }) hx
    rw [Dev.cableReady, hview]
    cases hw : d.ptb.shipView x with
    | none => rfl
    | some v => exact hv v hw
end

end Sys2Proof.Machine

/-! ### The settlement -/

namespace Sys2Proof.Machine

/-- The handover of a ship view by a part with the same controllers and the same counts of the ship's two kinds. -/
theorem Dev.shipTakenFrom.of_same {d e t : Dev} {x : Outlet} {old v : ShipFacts} (h : e.shipTakenFrom x old v t)
    (hhoc : e.hoc = d.hoc) (hsyu : e.syu = d.syu) (hsyn : e.syn = d.syn)
    (hopen : e.ntu.entry .shipOpenUnexpected = d.ntu.entry .shipOpenUnexpected)
    (hclose : e.ntu.entry .shipCloseUnpermitted = d.ntu.entry .shipCloseUnpermitted) : d.shipTakenFrom x old v t := by
  unfold Dev.shipTakenFrom at h ⊢
  rwa [hhoc, hsyu, hsyn, hopen, hclose] at h

/-- R71: the entry counts among the outlet's adapters, as the statement writes it out. -/
theorem PeerEntry.adapterOf_eq_false {e : PeerEntry} {x : Outlet} :
    e.adapterOf x = false ↔ ¬(e.state ≠ .absent ∧ ∃ g, e.body = .vessel x g) := by
  rw [← PeerEntry.adapterOf_iff, Bool.not_eq_true]

/-- Settles O29: the CELL bulletin, then the VESSEL bulletin with its conflict and its ship view. -/
theorem cellBulletinIsStored : Obligations.CellBulletinIsStored := by
  refine ⟨fun s k pins bytes h h1 h31 hk hr ho => ?_, fun s k pins bytes h h1 h31 hk hr ho => ?_⟩
  · have hslot : s.dev.slotEnd k pins = (s.dev.heardFrom.takeBody k .cell bytes).viewNotice s.dev.ptb false :=
      Dev.slotEnd_of_role (role := .cell) h1 h31 hk hr (by rw [ho]; rfl) pins
    obtain ⟨hlone, hheard, hother, hstored, hrejected, hrest⟩ :=
      s.dev.takeBody_viewNotice_effect h1 h31 .cell bytes s.dev.ptb false
    refine ⟨_, exec_slotEnd_up h k pins, rfl, ?_⟩
    rw [State.onDev_dev, hslot]
    exact ⟨hlone, hheard, hother, fun b hb => hstored _ (congrArg (Option.map PeerBody.cell) hb),
      fun hb => hrejected (Option.map_eq_none_iff.2 hb), hrest⟩
  · intro old adapter st
    let e := s.dev.heardFrom.takeBody k .vessel bytes
    have hslot : s.dev.slotEnd k pins = e.shipNotice :=
      Dev.slotEnd_of_role (role := .vessel) h1 h31 hk hr (by rw [ho]; rfl) pins
    obtain ⟨hlone, hheard, hother, hstored, hrejected, hrest⟩ :=
      s.dev.takeBody_viewNotice_effect h1 h31 .vessel bytes s.dev.ptb true
    obtain ⟨-, -, -, -, hsyu, hctc, hsyn, hhoc, -⟩ := s.dev.heardFrom.takeBody_frame k .vessel bytes
    have htable : e.shipNotice.ptb = e.ptb := e.shipNotice_frame.2.2.2.2.1
    refine ⟨_, exec_slotEnd_up h k pins, rfl, ?_⟩
    rw [State.onDev_dev, hslot]
    refine ⟨hlone, hheard, hother, fun y f hb => ?_, fun hb => hrejected (Option.map_eq_none_iff.2 hb), fun hs => ?_,
      fun x hx hs => ?_, hrest⟩
    · have hbody : decodeBody .vessel (bulletinBody bytes) = some (.vessel y f) :=
        congrArg (Option.map fun v : Outlet × ShipFacts => PeerBody.vessel v.1 v.2) hb
      have hconflict := s.dev.heardFrom.storeBody_conflict h1 h31 y f
      simp only [PeerEntry.adapterOf_eq_false, PeerEntry.adapterOf_iff] at hconflict
      rw [← Dev.takeBody_of_some hbody] at hconflict
      rw [e.shipNotice_entry (by decide)]
      exact ⟨hstored _ hbody, hconflict⟩
    · rw [Dev.shipNotice_of_leaving (d := e) (by rw [hhoc]; exact hs)]
      exact ⟨hhoc, hsyu, hsyn⟩
    · have hx' : e.hoc.assignment = some x := by rw [hhoc]; exact hx
      have hs' : e.hoc.state ≠ .leaving := by rw [hhoc]; exact hs
      have hentry {j : NoticeKind} := s.dev.heardFrom.takeBody_entry k .vessel bytes (j := j)
      obtain ⟨hassigned, hkept, hacted⟩ := Dev.shipNotice_facts hx' hs'
      rw [htable]
      refine ⟨hassigned, fun hv => (hkept hv).trans (congrArg _ hhoc), hacted, fun hm => ?_, fun hst hc hv => ?_⟩
      · have hm' : e.hoc.state.isMember = true := by rw [hhoc]; exact hm
        rw [Dev.shipNotice_of_member hm', ← Dev.ownView_of_assigned hx']
        refine ⟨fun hv => ?_, fun v hv => ⟨fun ha => ?_, fun o ha => ?_⟩⟩
        · rw [Dev.takeView_of_none hv]
          exact ⟨hhoc, hsyu⟩
        · rw [Dev.takeView_of_first hv (by rw [hhoc]; exact ha)]
          exact ⟨show e.hoc.state = st by rw [hhoc]; rfl, hsyu⟩
        · rw [Dev.takeView_of_change hv (by rw [hhoc]; exact ha)]
          exact (Dev.shipEvents_taken hx' hm').of_same hhoc hsyu hsyn (hentry (by decide)) (hentry (by decide))
      · refine Dev.shipNotice_withdraws hx' (by rw [hhoc]; exact hst) ?_ hv
        rw [Dev.con, hctc]
        exact hc

end Sys2Proof.Machine

/-! # A TERMINAL bulletin at the end of its slot: its time and its order (O30; R54, R55, R60, R69, R133, R134, R179) -/

/-! ### The bytes of a bulletin without its order (Table 12-4) -/

namespace Sys2Proof.Machine

section
variable {l : List Byte} {i : Nat} {v : Byte}

theorem byteAt_set_other {j : Nat} (h : i ≠ j) : byteAt (l.set i v) j = byteAt l j := by
  simp [byteAt, List.getD_eq_getElem?_getD, List.getElem?_set_ne h]

theorem byteAt_set_zero (l : List Byte) (i : Nat) : byteAt (l.set i 0) i = 0 := by
  simp only [byteAt, List.getD_eq_getElem?_getD, List.getElem?_set_self']
  cases l[i]? <;> rfl

/-- A field that ends before the byte. -/
theorem field_set_beyond {off len : Nat} (h : off + len ≤ i) : field (l.set i v) off len = field l off len := by
  unfold field
  rw [List.drop_set, if_neg (by omega), List.take_set, List.set_eq_of_length_le]
  exact (List.length_take_le _ _).trans (by omega)

theorem field_set_inside {off len : Nat} (h : off ≤ i) : field (l.set i v) off len = (field l off len).set (i - off) v := by
  unfold field
  rw [List.drop_set, if_neg (by omega), List.take_set]
end

/-- The time of a TERMINAL body stands before the bytes of its order. -/
theorem decodeTime_without_order (bytes : List Byte) : decodeTime (bulletinBody (bytes.set 11 0)) = decodeTime (bulletinBody bytes) := by
  rw [bulletinBody, field_set_inside (by decide)]
  unfold decodeTime
  rw [field_set_beyond (by decide), field_set_beyond (by decide), field_set_beyond (by decide)]
  rfl

/-- The row of an order (Table 3-4). -/
def Order.row (h : OrderHead) : Order → Instr
  | .assign x => .assign h x
  | .unassign => .unassign h
  | .sessionOpen f => .sessionOpen h f
  | .sessionClose x id => .sessionClose h x id
  | .startTransfer x => .startTransfer h x
  | .startDeparture x => .startDeparture h x
  | .clearTrip => .clearTrip h
  | .tariff n g => .tariff h n g
  | .collect p n => .collect h p n
  | .confirm n => .confirm h n
  | .flush => .flush h
  | .acknowledge n l => .acknowledgeNotices h n l
  | .restart p => .restart h p
  | .unknown x => .unknownOrder h x

theorem exec_row (h : OrderHead) (o : Order) (s : State) : exec (o.row h) s = s.run (Dev.whenUp (Dev.order h o)) := by
  cases o <;> rfl

theorem byte_eq_of_code {x : Byte} {n : Nat} (h : x.toNat = n) : x = BitVec.ofNat 8 n := by
  rw [← h]
  simp

theorem decodeOrder_of_unlisted {kind : Byte} (h : 13 < kind.toNat) (f : List Byte) (pins : Pins) :
    decodeOrder kind f pins = some (.unknown kind) := by
  simp (disch := bv_omega) only [decodeOrder, if_neg]

/-- Table 12-4, ORDER FIELDS: the order decoded from a bulletin is the one of its row. -/
theorem orderRow_eq (k : Nat) (bytes : List Byte) (pins : Pins) :
    orderRow k bytes pins =
      (decodeOrder (byteAt bytes 11) (orderFields bytes) pins).map (Order.row ⟨k, byteAt bytes 12, byteAt bytes 13⟩) := by
  unfold orderRow
  generalize byteAt bytes 11 = kind
  split
  case h_15 =>
    simp only [imp_false] at *
    have hcode : 13 < kind.toNat := by omega
    rw [decodeOrder_of_unlisted hcode]
    rfl
  all_goals next hk =>
    obtain rfl := byte_eq_of_code hk
    rfl

end Sys2Proof.Machine

/-! ### The time source (R69) -/

namespace Sys2Proof.Machine

/-- R69: a LIVE terminal. -/
def PeerEntry.tellsTime (e : PeerEntry) : Prop := e.state = .live ∧ ∃ c, e.body = .terminal c

theorem Ptb.timeSource_eq_some {t : Ptb} {k : Nat} (h1 : 1 ≤ k) (h31 : k ≤ 31) :
    t.timeSource = some k ↔ (t.get k).tellsTime ∧ ∀ j < k, ¬(t.get j).tellsTime := by
  have hnone : ¬(t.get 0).tellsTime := nofun
  obtain ⟨p, hp, hsource⟩ : ∃ p : Nat × PeerEntry → Bool, (∀ e, p e = true ↔ e.2.tellsTime) ∧
      t.timeSource = (t.all.find? p).map (fun e => e.1) := by
    refine ⟨_, fun e => ?_, rfl⟩
    unfold PeerEntry.tellsTime
    split
    · next hs hb => exact ⟨fun _ => ⟨hs, _, hb⟩, fun _ => rfl⟩
    · next hn => exact ⟨nofun, fun ⟨hs, c, hb⟩ => absurd hb (hn c hs)⟩
  simp only [hsource, Ptb.all, List.find?_map, Option.map_map, Option.map_eq_some_iff, List.find?_range_eq_some, Function.comp_apply,
    hp, Bool.not_eq_true', ← Bool.not_eq_true]
  constructor
  · rintro ⟨i, ⟨htells, -, hlower⟩, rfl⟩
    refine ⟨htells, fun j hj => ?_⟩
    cases j with
    | zero => exact hnone
    | succ j => exact hlower j (by omega)
  · rintro ⟨htells, hlower⟩
    have hk : k - 1 + 1 = k := Nat.sub_add_cancel h1
    exact ⟨k - 1, ⟨by rwa [hk], List.mem_range.2 (by omega), fun j hj => hlower (j + 1) (by omega)⟩, hk⟩

/-- A station whose entry is no adapter before and after a change of its entry leaves every outlet's adapters. -/
theorem Ptb.adapters_put {t : Ptb} {k : Nat} {e : PeerEntry} {x : Outlet} (hold : ∀ f, (t.get k).body ≠ .vessel x f)
    (hnew : ∀ f, e.body ≠ .vessel x f) (h1 : 1 ≤ k) (h31 : k ≤ 31) : (t.put k e).adapters x = t.adapters x := by
  simp only [Ptb.adapters, Ptb.all, List.filterMap_map]
  refine List.filterMap_congr fun i _ => ?_
  by_cases hi : i + 1 = k
  · subst hi
    simp only [Function.comp_apply, Ptb.get_put_same h1 h31]
    -- neither entry is an adapter of the outlet
    split <;> split <;> grind
  · simp only [Function.comp_apply, Ptb.get_put_other hi]

theorem Dev.viewNotice_of_same {d : Dev} {before : Ptb} (h : ∀ x, d.ptb.shipSource x = before.shipSource x) :
    d.viewNotice before false = d := by
  simp [Dev.viewNotice, h]

end Sys2Proof.Machine

/-! ### A time hand-off (R133, R134) -/

namespace Sys2Proof.Machine

theorem Dev.boundary_entry (d : Dev) (i : Option Nat) {j : NoticeKind} (h : j.apart) : (d.boundary i).ntu.entry j = d.ntu.entry j := by
  by_cases hm : d.mtr.interval.metered = true
  · by_cases hr : 2 ≤ d.rst.free ∧ d.mtr.holder = []
    · rw [Dev.boundary_of_room hm hr.1 hr.2]
      exact Dev.stage_entry _ _ _ h
    · rw [Dev.boundary_of_no_room hm (by rw [not_and_or] at hr; exact hr.imp (by omega) id)]
      rfl
  · rw [Dev.boundary_of_unmetered (by simpa using hm)]
    rfl

/-- R133: the local time of the meter. -/
def Mtr.shows (m : Mtr) (b : TimeBody) : Prop :=
  m.day = b.day ∧ m.second = b.second ∧ m.cycleCount = b.cycle ∧ m.timeValid = true

theorem Dev.secondClose_shows {d : Dev} {b : TimeBody} (h : d.mtr.shows b) : d.secondClose.mtr.shows b := by
  simp only [Dev.secondClose, Dev.setMtr_mtr, Mtr.demand_eq]
  exact h

theorem Dev.boundary_shows {d : Dev} {b : TimeBody} (h : d.mtr.shows b) (i : Option Nat) : (d.boundary i).mtr.shows b := by
  obtain ⟨hcycle, hsecond, hday, hvalid, -⟩ := d.boundary_time i
  unfold Mtr.shows
  rwa [hcycle, hsecond, hday, hvalid]

/-- R133, R134: the source's time at the meter, and the step that it may be. -/
theorem Dev.adoptTime_effect (d : Dev) (b : TimeBody) :
    (d.adoptTime b).mtr.shows b ∧ (d.mtr.isStep b = true → d.ntu.raisedOnce .timeStep (d.adoptTime b).ntu) := by
  let d1 := (d.setMtr (d.mtr.adopt b)).raiseIf (d.mtr.isStep b) .timeStep
  let d2 := if d.mtr.day != b.day || d.mtr.second != b.second then d1.secondClose else d1
  have hshows1 : d1.mtr.shows b := by
    rw [show d1.mtr = d.mtr.adopt b by simp [d1]]
    exact ⟨rfl, rfl, rfl, rfl⟩
  have htold1 : d.mtr.isStep b = true → d.ntu.raisedOnce .timeStep d1.ntu := fun hs => by
    rw [show d1 = (d.setMtr (d.mtr.adopt b)).raise .timeStep from if_pos hs]
    exact Dev.raise_own _ _
  have h2 : d2.mtr.shows b ∧ d2.ntu = d1.ntu := by
    simp only [d2]
    split
    · exact ⟨Dev.secondClose_shows hshows1, by simp⟩
    · exact ⟨hshows1, rfl⟩
  obtain ⟨hshows, hsame⟩ := h2
  have hadopt : d.adoptTime b =
      if d2.mtr.interval.last = none ∨ d2.mtr.interval.last ≠ d2.mtr.index then d2.boundary d2.mtr.index else d2 := rfl
  rw [hadopt]
  split
  · refine ⟨Dev.boundary_shows hshows _, fun hs => ?_⟩
    rw [Ntu.raisedOnce, d2.boundary_entry _ (by decide), hsame]
    exact htold1 hs
  · exact ⟨hshows, fun hs => by rw [hsame]; exact htold1 hs⟩

end Sys2Proof.Machine

/-! ### The slot end of a TERMINAL bulletin -/

namespace Sys2Proof.Machine

/-- R54, R61: a TERMINAL bulletin at the peer table, and the ship-view notice that it may give. -/
def Dev.terminalTaken (k : Nat) (bytes : List Byte) (d : Dev) : Dev :=
  (d.heardFrom.takeBody k .terminal bytes).viewNotice d.ptb false

/-- R54, R69: what a TERMINAL bulletin does before its order. -/
def Dev.terminalSlot (k : Nat) (bytes : List Byte) (d : Dev) : Dev := (d.terminalTaken k bytes).timeHandOff k bytes

theorem Dev.terminalOrder_of_none {d : Dev} {bytes : List Byte} (h : byteAt bytes 11 = 0) (k : Nat) (pins : Pins) :
    d.terminalOrder k bytes pins = d := by
  simp [Dev.terminalOrder, h, decodeOrder]

/-- The bytes of the order play no part before it. -/
theorem Dev.terminalSlot_without_order (d : Dev) (k : Nat) (bytes : List Byte) :
    (d.setLnk { d.lnk with rx := some (k, bytes.set 11 0) }).terminalSlot k (bytes.set 11 0) = d.terminalSlot k bytes := by
  simp only [Dev.terminalSlot, Dev.terminalTaken, Dev.timeHandOff, Dev.takeBody, decodeBody, decodeTime_without_order]
  rfl

section
variable {d : Dev} {k : Nat} {bytes : List Byte} (h1 : 1 ≤ k) (h31 : k ≤ 31)
include h1 h31

theorem Dev.slotEnd_of_terminal (hk : k ≠ d.cfg.station) (hr : d.lnk.rx = some (k, bytes)) (ho : byteAt bytes 1 = 2) (pins : Pins) :
    d.slotEnd k pins = (d.terminalSlot k bytes).terminalOrder k bytes pins :=
  Dev.slotEnd_of_role (role := .terminal) h1 h31 hk hr (by rw [ho]; rfl) pins

/-- R54, R55: what stands after a TERMINAL bulletin, stored or rejected, before its order. -/
theorem Dev.terminalSlot_keeps (d : Dev) (bytes : List Byte) :
    let u := d.terminalSlot k bytes
    u.run = d.run ∧ u.cfg = d.cfg ∧ u.ctc = d.ctc ∧ u.rst.mem = d.rst.mem ∧ u.ntu.replies = d.ntu.replies ∧
      ∀ j, 1 ≤ j → j ≤ 31 → j ≠ k → u.ptb.get j = d.ptb.get j := by
  intro u
  obtain ⟨hrun, -, hcfg, -, hptb, -, hctc, -⟩ := (d.terminalTaken k bytes).timeHandOff_frame k bytes
  obtain ⟨-, -, hother, -, -, hrun', hcfg', hctc', -, -, hrst⟩ := d.takeBody_viewNotice_effect h1 h31 .terminal bytes d.ptb false
  refine ⟨hrun.trans hrun', hcfg.trans hcfg', hctc.trans hctc', ?_, ?_, ?_⟩
  · rw [show u.rst.mem = _ from Dev.timeHandOff_mem _ k bytes]
    exact congrArg Rst.mem hrst
  · rw [show u.ntu.replies = _ from Dev.timeHandOff_replies _ k bytes, Dev.terminalTaken, Dev.viewNotice_replies, Dev.takeBody_replies]
    rfl
  · rw [show u.ptb = _ from hptb]
    exact hother

theorem Dev.terminalTaken_keeps (d : Dev) (bytes : List Byte) :
    (d.terminalTaken k bytes).mtr = d.mtr ∧ (d.terminalTaken k bytes).ntu.entry .timeStep = d.ntu.entry .timeStep := by
  obtain ⟨-, -, -, -, -, -, -, -, -, hmtr, -⟩ := d.takeBody_viewNotice_effect h1 h31 .terminal bytes d.ptb false
  refine ⟨hmtr, ?_⟩
  rw [Dev.terminalTaken, Dev.viewNotice_entry (by decide), Dev.takeBody_entry _ _ _ _ (by decide)]
  rfl

variable {b : TimeBody} (hb : decodeTime (bulletinBody bytes) = some b)
include hb

omit h1 h31 in
theorem Dev.terminalTaken_eq :
    d.terminalTaken k bytes = (d.heardFrom.storeBody k (.terminal b)).viewNotice d.ptb false := by
  have hbody : decodeBody .terminal (bulletinBody bytes) = some (.terminal b) := congrArg (Option.map PeerBody.terminal) hb
  rw [Dev.terminalTaken, Dev.takeBody_of_some hbody]

omit h1 h31 in
theorem Dev.terminalTaken_ptb : (d.terminalTaken k bytes).ptb = d.ptb.put k (PeerEntry.stored (.terminal b)) := by
  rw [Dev.terminalTaken_eq hb, (Dev.viewNotice_frame _ _ _).2.2.2.2.1, Dev.storeBody_ptb]
  rfl

/-- R69: the terminal stored is the time source where no lower one is LIVE. -/
theorem Dev.terminalTaken_source :
    (d.terminalTaken k bytes).ptb.timeSource = some k ↔ ∀ j < k, ¬(d.ptb.get j).tellsTime := by
  rw [Dev.terminalTaken_ptb hb, Ptb.timeSource_eq_some h1 h31, Ptb.get_put_same h1 h31]
  refine (and_iff_right ⟨rfl, b, rfl⟩).trans (forall₂_congr fun j hj => ?_)
  rw [Ptb.get_put_other (Nat.ne_of_lt hj)]

theorem Dev.terminalSlot_of_source (hs : ∀ j < k, ¬(d.ptb.get j).tellsTime) :
    d.terminalSlot k bytes = (d.terminalTaken k bytes).adoptTime b := by
  simp only [Dev.terminalSlot, Dev.timeHandOff, hb]
  exact if_pos ((Dev.terminalTaken_source h1 h31 hb).2 hs)

theorem Dev.terminalSlot_of_lower {j : Nat} (hj : j < k) (hs : (d.ptb.get j).tellsTime) :
    d.terminalSlot k bytes = d.terminalTaken k bytes := by
  simp only [Dev.terminalSlot, Dev.timeHandOff, hb]
  exact if_neg fun h => (Dev.terminalTaken_source h1 h31 hb).1 h j hj hs

theorem Dev.terminalSlot_stored :
    (d.terminalSlot k bytes).ptb.get k = PeerEntry.stored (.terminal b) ∧ (d.terminalSlot k bytes).lnk = d.heardFrom.lnk := by
  obtain ⟨-, -, -, hlnk, hptb, -⟩ := (d.terminalTaken k bytes).timeHandOff_frame k bytes
  rw [Dev.terminalSlot, hlnk, hptb, Dev.terminalTaken_ptb hb, Ptb.get_put_same h1 h31]
  refine ⟨rfl, ?_⟩
  rw [Dev.terminalTaken_eq hb, (Dev.viewNotice_frame _ _ _).2.2.2.1, (Dev.storeBody_frame _ _ _).2.2.2.1]

/-- R61: a terminal where no vessel stood gives no ship-view notice. -/
theorem Dev.terminalSlot_of_no_vessel (hn : ∀ x f, (d.ptb.get k).body ≠ .vessel x f) :
    (d.terminalSlot k bytes).hoc = d.hoc ∧ (d.terminalSlot k bytes).syu = d.syu ∧ (d.terminalSlot k bytes).syn = d.syn := by
  obtain ⟨-, -, -, -, -, hsyu, -, hsyn, hhoc, -⟩ := (d.terminalTaken k bytes).timeHandOff_frame k bytes
  obtain ⟨-, -, -, -, -, hsyu', -, hsyn', hhoc', -⟩ := d.heardFrom.storeBody_frame k (.terminal b)
  have hsource (x : Outlet) : (d.heardFrom.storeBody k (.terminal b)).ptb.shipSource x = d.ptb.shipSource x := by
    have hadapters : (d.ptb.put k (PeerEntry.stored (.terminal b))).adapters x = d.ptb.adapters x :=
      Ptb.adapters_put (hn x) (fun _ hv => by cases hv) h1 h31
    rw [Dev.storeBody_ptb, Ptb.shipSource, Ptb.shipSource, ← hadapters]
    rfl
  have htaken : d.terminalTaken k bytes = d.heardFrom.storeBody k (.terminal b) :=
    (Dev.terminalTaken_eq hb).trans (Dev.viewNotice_of_same hsource)
  rw [htaken] at hsyu hsyn hhoc
  rw [Dev.terminalSlot, htaken]
  exact ⟨hhoc.trans hhoc', hsyu.trans hsyu', hsyn.trans hsyn'⟩
end

end Sys2Proof.Machine

/-! ### The settlement -/

namespace Sys2Proof.Machine

/-- Settles O30: the time of a TERMINAL bulletin, then its order. -/
theorem timeSourceSetsLocalTime : Obligations.TimeSourceSetsLocalTime := by
  refine ⟨fun s k pins bytes b h h1 h31 hk hr ho hnone hb => ?_, fun s k pins bytes c h h1 h31 hk hr ho hrow => ?_⟩
  · have hslot : s.dev.slotEnd k pins = s.dev.terminalSlot k bytes :=
      (Dev.slotEnd_of_terminal h1 h31 hk hr ho pins).trans (Dev.terminalOrder_of_none hnone _ _)
    obtain ⟨hrun, hcfg, hctc, hmem, -, -⟩ := s.dev.terminalSlot_keeps h1 h31 bytes
    obtain ⟨hstored, -⟩ := Dev.terminalSlot_stored (d := s.dev) h1 h31 hb
    refine ⟨_, exec_slotEnd_up h k pins, rfl, ?_⟩
    rw [State.onDev_dev, hslot]
    refine ⟨hstored, fun hs => ?_, fun ⟨j, hj, hs⟩ => ?_, hrun, hcfg, hctc, hmem⟩
    · obtain ⟨hshows, htold⟩ := (s.dev.terminalTaken k bytes).adoptTime_effect b
      obtain ⟨hmtr, hentry⟩ := s.dev.terminalTaken_keeps h1 h31 bytes
      rw [hmtr, Ntu.raisedOnce, hentry] at htold
      rw [Dev.terminalSlot_of_source h1 h31 hb hs]
      obtain ⟨hday, hsecond, hcycle, hvalid⟩ := hshows
      refine ⟨hday, hsecond, hcycle, hvalid, fun ht hstep => htold ?_⟩
      rw [Mtr.isStep, ht, Bool.true_and, decide_eq_true_eq]
      exact hstep
    · rw [Dev.terminalSlot_of_lower h1 h31 hb hj hs, (s.dev.terminalTaken_keeps h1 h31 bytes).1]
  · intro unordered
    obtain ⟨o, ho', rfl⟩ : ∃ o, decodeOrder (byteAt bytes 11) (orderFields bytes) pins = some o ∧
        o.row ⟨k, byteAt bytes 12, byteAt bytes 13⟩ = c := by
      rwa [orderRow_eq, Option.map_eq_some_iff] at hrow
    have hordered : s.dev.slotEnd k pins = (s.dev.terminalSlot k bytes).order ⟨k, byteAt bytes 12, byteAt bytes 13⟩ o := by
      rw [Dev.slotEnd_of_terminal h1 h31 hk hr ho]
      simp only [Dev.terminalOrder, ho']
    have hbare : unordered.dev.slotEnd k pins = s.dev.terminalSlot k bytes := by
      rw [Dev.slotEnd_of_terminal (d := unordered.dev) h1 h31 hk rfl ((byteAt_set_other (by decide)).trans ho),
        Dev.terminalOrder_of_none (byteAt_set_zero _ _)]
      exact s.dev.terminalSlot_without_order k bytes
    obtain ⟨hrun, hcfg, hctc, hmem, hreplies, hother⟩ := s.dev.terminalSlot_keeps h1 h31 bytes
    let u := s.onDev (Dev.terminalSlot k bytes)
    have hawake : u.dev.awake := by
      rw [Dev.awake, show u.dev.run = s.dev.run from hrun]
      exact h
    refine ⟨u, u.onDev (Dev.order ⟨k, byteAt bytes 12, byteAt bytes 13⟩ o), ?_, (exec_row _ _ _).trans (State.run_up hawake _), ?_,
      rfl, rfl, hrun, hcfg, hctc, hreplies, hother, fun b hb => ?_⟩
    · rw [exec_slotEnd_up (s := unordered) h, State.onDev, hbare]
      rfl
    · rw [exec_slotEnd_up h, State.onDev, hordered]
      rfl
    · obtain ⟨hstored, hlnk⟩ := Dev.terminalSlot_stored (d := s.dev) h1 h31 hb
      refine ⟨hstored, hlnk, fun hs => ?_, Dev.terminalSlot_of_no_vessel h1 h31 hb⟩
      obtain ⟨⟨-, -, -, hvalid⟩, -⟩ := (s.dev.terminalTaken k bytes).adoptTime_effect b
      rw [State.onDev_dev, Dev.terminalSlot_of_source h1 h31 hb hs]
      exact hvalid

end Sys2Proof.Machine

/-! # The interlock of the two contactors and the coils of each (O55; R73, R74) -/

namespace Sys2Proof.Machine

/-- R73, R74: never both records out of OPEN, never both coils of one. -/
def Ctc.sound (c : Ctc) : Prop := c.interlocked ∧ c.a.oneCoil ∧ c.b.oneCoil

/-! ### One write of a record -/

section
variable {c : Ctc} {x : Outlet} {v : Contactor}

theorem Ctc.sound.coil (h : c.sound) (x : Outlet) : (c.get x).oneCoil := by
  obtain ⟨-, ha, hb⟩ := h
  cases x
  · exact ha
  · exact hb

theorem Ctc.sound.other_opened (h : c.sound) (hx : (c.get x).state ≠ .opened) : (c.get (otherOutlet x)).state = .opened := by
  obtain ⟨hlock, -⟩ := h
  cases x
  · exact hlock.resolve_left hx
  · exact hlock.resolve_right hx

/-- A record may be written while the other is OPEN, and OPEN may be written at any time, with at most one of its coils energised. -/
theorem Ctc.sound.set (h : c.sound) (hv : v.oneCoil) (hs : v.state = .opened ∨ (c.get (otherOutlet x)).state = .opened) :
    (c.set x v).sound := by
  obtain ⟨-, ha, hb⟩ := h
  cases x
  · exact ⟨hs, hv, hb⟩
  · exact ⟨hs.symm, ha, hv⟩

/-- A record that is out of OPEN may be written freely, since the other is OPEN. -/
theorem Ctc.sound.set_moving (h : c.sound) (hv : v.oneCoil) (hx : (c.get x).state ≠ .opened) : (c.set x v).sound :=
  h.set hv (.inr (h.other_opened hx))

/-- A write that keeps the state of the record. -/
theorem Ctc.sound.set_kept (h : c.sound) (hv : v.oneCoil) (hs : v.state = (c.get x).state) : (c.set x v).sound := by
  by_cases hx : (c.get x).state = .opened
  · exact h.set hv (.inl (hs.trans hx))
  · exact h.set_moving hv hx

end

/-! ### The coils of a record after each operation (R73, R75 to R78) -/

section
variable (c : Contactor)

theorem Contactor.startClose_oneCoil (w : Nat) : (c.startClose w).oneCoil := by simp [Contactor.oneCoil, Contactor.startClose]

theorem Contactor.startOpen_oneCoil (w : Nat) : (c.startOpen w).oneCoil := by simp [Contactor.oneCoil, Contactor.startOpen]

theorem Contactor.rest_oneCoil (st : CState) : (c.rest st).oneCoil := by simp [Contactor.oneCoil, Contactor.rest]

theorem Contactor.toConfirm_oneCoil (t : Nat) : (c.toConfirm t).oneCoil := by simp [Contactor.oneCoil, Contactor.toConfirm]

theorem Contactor.secondPulse_oneCoil (cfg : Cfg) : (c.secondPulse cfg).oneCoil := by
  unfold Contactor.secondPulse
  split <;> simp [Contactor.oneCoil]

/-- An open request keeps a record, or starts the open operation of one that is out of OPEN (R77). -/
theorem Contactor.openRequested_cases (w : Nat) :
    c.openRequested w = c ∨ c.state ≠ .opened ∧ c.openRequested w = c.startOpen w := by
  unfold Contactor.openRequested
  split <;> simp_all

end

/-- R77: an open request leaves OPEN alone. -/
theorem Ctc.sound.set_openRequested {c : Ctc} (h : c.sound) (x : Outlet) (w : Nat) : (c.set x ((c.get x).openRequested w)).sound := by
  rcases (c.get x).openRequested_cases w with he | ⟨hx, he⟩
  · rw [he]
    exact h.set_kept (h.coil x) rfl
  · rw [he]
    exact h.set_moving (Contactor.startOpen_oneCoil _ w) hx

/-- A trip is an open request to each record (R82). -/
theorem Ctc.sound.tripped {c : Ctc} (h : c.sound) (w : Nat) : (c.tripped w).sound := (h.set_openRequested .a w).set_openRequested .b w

/-! ### The contactor controller (R74 to R82) -/

section
variable {d : Dev}

/-- R74, R75: a close that the tests let through finds the other record OPEN. -/
theorem Ctc.sound.startClose (h : d.ctc.sound) {x : Outlet} (hc : d.closeRefusal x = none) : (d.startClose x).ctc.sound := by
  have hother : d.con (otherOutlet x) = .opened := by
    by_contra hn
    rw [Dev.closeRefusal, if_pos (.inl hn)] at hc
    cases hc
  rw [Dev.startClose_ctc]
  exact h.set (Contactor.startClose_oneCoil _ _) (.inr hother)

@[simp] theorem Ctc.sound.openRequest (h : d.ctc.sound) (x : Outlet) (o : Origin) : (d.openRequest x o).ctc.sound := by
  rw [Dev.openRequest_ctc]
  exact h.set_openRequested x _

/-- R80: a held closure is taken where the other record is OPEN. -/
@[simp] theorem Ctc.sound.takeHeld (h : d.ctc.sound) (x : Outlet) : (d.takeHeld x).ctc.sound := by
  rw [Dev.takeHeld_ctc]
  split
  · next hh => exact h.set (Contactor.startOpen_oneCoil _ _) (.inr hh.2.2)
  · exact h

@[simp] theorem Ctc.sound.becomeOpen (h : d.ctc.sound) (x : Outlet) (o : Origin) : (d.becomeOpen x o).ctc.sound := by
  rw [Dev.becomeOpen_ctc]
  refine Ctc.sound.takeHeld ?_ _
  rw [Dev.changeCon_ctc]
  exact h.set (Contactor.rest_oneCoil _ _) (.inl rfl)

/-- R75: the record that becomes CLOSED was CLOSING. -/
theorem Ctc.sound.becomeClosed (h : d.ctc.sound) {x : Outlet} (hx : (d.ctc.get x).state = .closing) : (d.becomeClosed x).ctc.sound := by
  rw [Dev.becomeClosed_ctc]
  exact h.set_moving (Contactor.rest_oneCoil _ _) (by rw [hx]; decide)

@[simp] theorem Ctc.sound.trip (h : d.ctc.sound) (cause : TripCause) (on : Option Outlet) : (d.trip cause on).ctc.sound := by
  rw [Dev.trip_ctc]
  exact h.tripped _

@[simp] theorem Ctc.sound.closeFailed (h : d.ctc.sound) (x : Outlet) : (d.closeFailed x).ctc.sound := by
  simp [Dev.closeFailed, h]

/-- R78: the record that becomes WELDED was OPENING. -/
theorem Ctc.sound.openFailed (h : d.ctc.sound) {x : Outlet} (hx : (d.ctc.get x).state = .opening) : (d.openFailed x).ctc.sound := by
  have hwelded : (d.changeCon x ((d.ctc.get x).rest .welded) .handover).ctc.sound := by
    rw [Dev.changeCon_ctc]
    exact h.set_moving (Contactor.rest_oneCoil _ _) (by rw [hx]; decide)
  simp [Dev.openFailed, hwelded]

@[simp] theorem Ctc.sound.pulseEnd (h : d.ctc.sound) (x : Outlet) : (d.pulseEnd x).ctc.sound := by
  have hconfirm : (d.ctc.set x ((d.ctc.get x).toConfirm d.cfg.confirmTime)).sound := h.set_kept (Contactor.toConfirm_oneCoil _ _) rfl
  by_cases hdue : (d.ctc.get x).phase = .pulse ∧ (d.ctc.get x).pulseTimer ≠ none
  · rw [Dev.pulseEnd_of_pulse hdue.1 hdue.2]
    split_ifs with hclosing
    · exact h.becomeClosed hclosing
    · exact hconfirm
    · exact hconfirm
    · exact h.becomeOpen x _
    · exact h
  · rw [Dev.pulseEnd_of_not_due (by tauto)]
    exact h

@[simp] theorem Ctc.sound.confirmEnd (h : d.ctc.sound) (x : Outlet) : (d.confirmEnd x).ctc.sound := by
  have hgap : (d.ctc.set x (d.ctc.get x).toGap).sound := h.set_kept (h.coil x) rfl
  by_cases hdue : (d.ctc.get x).phase = .confirm ∧ (d.ctc.get x).confirmTimer ≠ none
  · rw [Dev.confirmEnd_of_confirm hdue.1 hdue.2]
    split_ifs with _ _ hopening
    · exact h.closeFailed x
    · exact hgap
    · exact h.openFailed hopening
    · exact hgap
    · exact h
  · rw [Dev.confirmEnd_of_not_due (by tauto)]
    exact h

@[simp] theorem Ctc.sound.gapEnd (h : d.ctc.sound) (x : Outlet) : (d.gapEnd x).ctc.sound := by
  simp only [Dev.gapEnd]
  split
  · refine h.set_kept (Contactor.secondPulse_oneCoil _ _) ?_
    unfold Contactor.secondPulse
    split <;> rfl
  · exact h

@[simp] theorem Ctc.sound.setAux (h : d.ctc.sound) (x : Outlet) (closed : Bool) : (d.setAux x closed).ctc.sound := by
  have hlevel : (d.ctc.set x { d.ctc.get x with auxClosed := closed }).sound := h.set_kept (h.coil x) rfl
  cases x <;> exact hlevel

@[simp] theorem Ctc.sound.unexpectedClosure (h : d.ctc.sound) (x : Outlet) : (d.unexpectedClosure x).ctc.sound := by
  simp [Dev.unexpectedClosure, h]

@[simp] theorem Ctc.sound.auxEffect (h : d.ctc.sound) (x : Outlet) (closed : Bool) : (d.auxEffect x closed).ctc.sound := by
  simp only [Dev.auxEffect]
  split
  · split <;> simp [h]
  · next hclosing =>
    split
    · exact h.becomeClosed hclosing
    · exact h
  · split <;> simp [h]
  · split <;> simp [h]
  · exact h

@[simp] theorem Ctc.sound.auxLevel (h : d.ctc.sound) (x : Outlet) (closed : Bool) : (d.auxLevel x closed).ctc.sound := by
  simp only [Dev.auxLevel]
  split <;> simp [h]

end

end Sys2Proof.Machine

/-! ### The contactors through the other blocks: every request comes from one of these (R74, R77) -/

namespace Sys2Proof.Machine

section
variable {d : Dev}

@[simp] theorem Ctc.sound.takeMet (h : d.ctc.sound) : d.takeMet.ctc.sound := by
  simp only [Dev.takeMet]
  split
  · exact h
  · split
    · next hmet => exact h.startClose hmet.2.2
    · exact h

@[simp] theorem Ctc.sound.busCrossing (h : d.ctc.sound) : d.busCrossing.ctc.sound := by
  simp only [Dev.busCrossing]
  (repeat' split) <;> simp [h]

@[simp] theorem Ctc.sound.formingClose (h : d.ctc.sound) (x : Outlet) : (d.formingClose x).ctc.sound := by
  simp only [Dev.formingClose]
  split
  · next hclose => exact h.startClose hclose
  · simp [h]

@[simp] theorem Ctc.sound.judgeForming (h : d.ctc.sound) : d.judgeForming.ctc.sound := by
  simp only [Dev.judgeForming]
  (repeat' split) <;> simp [h]

@[simp] theorem Ctc.sound.beginCycle (h : d.ctc.sound) (n : Nat) : (d.beginCycle n).ctc.sound := by
  simp only [Dev.beginCycle, Dev.hocCycle]
  split <;> simp [h]

@[simp] theorem Ctc.sound.openOwn (h : d.ctc.sound) : d.openOwn.ctc.sound := by
  simp only [Dev.openOwn]
  split <;> simp [h]

@[simp] theorem Ctc.sound.lowLoadExpiry (h : d.ctc.sound) : d.lowLoadExpiry.ctc.sound := by
  simp only [Dev.lowLoadExpiry]
  split <;> simp [h]

@[simp] theorem Ctc.sound.ctcMuted (h : d.ctc.sound) (connected : Bool) : (d.ctcMuted connected).ctc.sound := by
  simp only [Dev.ctcMuted]
  split <;> simp [h]

@[simp] theorem Ctc.sound.enterMuted (h : d.ctc.sound) : d.enterMuted.ctc.sound := by
  simp only [Dev.enterMuted]
  split <;> simp [h]

@[simp] theorem Ctc.sound.warn (h : d.ctc.sound) : d.warn.ctc.sound := by
  have hblocks {e : Dev} (he : e.ctc.sound) : e.blocksWarned.ctc.sound := by simp [Dev.blocksWarned, Dev.ctcWarning, he]
  simp only [Dev.warn]
  split <;> simp [h, hblocks]

/-! ### The sample port -/

theorem Ctc.sound.admitSet (h : d.ctc.sound) (seq : Byte) (gap : Nat) (c : Channels) : (d.admitSet seq gap c).ctc.sound := by
  simp only [Dev.admitSet, Dev.takeCrossings, Dev.overTrip]
  (repeat' split) <;> simp [h]

theorem Ctc.sound.sampleSet (h : d.ctc.sound) (r : RawSet) : (d.sampleSet r).ctc.sound := by
  have hraise (g : Bool) (k : NoticeKind) : (d.raiseIf g k).ctc.sound := by simp [h]
  simp only [Dev.sampleSet]
  split_ifs
  · exact h
  · split
    · exact h.admitSet _ _ _
    · split
      · simp [h]
      · exact (hraise _ _).admitSet _ _ _

theorem Ctc.sound.watchTimerExpiry (h : d.ctc.sound) : d.watchTimerExpiry.ctc.sound := by
  simp only [Dev.watchTimerExpiry]
  (repeat' split) <;> simp [h]

theorem Ctc.sound.overloadExpiry (h : d.ctc.sound) : d.overloadExpiry.ctc.sound := by
  simp only [Dev.overloadExpiry]
  (repeat' split) <;> simp [h]

/-! ### Marks and slots -/

@[simp] theorem Ctc.sound.faulty (h : d.ctc.sound) (i : Nat) : (d.faulty i).ctc.sound := by
  simp only [Dev.faulty]
  split <;> simp [h]

@[simp] theorem Ctc.sound.validMark (h : d.ctc.sound) (m q : Nat) (r : Int) : (d.validMark m q r).ctc.sound := by
  simp only [Dev.validMark, Dev.adoptOutside]
  (repeat' split) <;> simp [h]

theorem Ctc.sound.markReceived (h : d.ctc.sound) (bytes : List Byte) (start : MarkHeard) : (d.markReceived bytes start).ctc.sound := by
  simp only [Dev.markReceived, Dev.markHeard, Dev.adoptEarly, Dev.cycleExpiry, Dev.markCollision, Dev.markReadBack]
  (repeat' split) <;> simp [h]

theorem Ctc.sound.ownSlotEnd (h : d.ctc.sound) (heard : List Byte) (overdrive : Bool) : (d.ownSlotEnd heard overdrive).ctc.sound := by
  simp only [Dev.ownSlotEnd, Dev.listenSlot, Dev.readBack]
  (repeat' split) <;> simp [h]

/-! ### The orders -/

@[simp] theorem Ctc.sound.takeLeave (h : d.ctc.sound) (dest : Option Outlet) : (d.takeLeave dest).1.ctc.sound := by
  simp only [Dev.takeLeave, Dev.abandonClose]
  (repeat' split) <;> simp [h]

theorem Ctc.sound.assign (h : d.ctc.sound) (outlet : Byte) : (d.assign outlet).1.ctc.sound := by
  simp only [Dev.assign, Dev.assignTo]
  (repeat' split) <;> simp [h]

theorem Ctc.sound.sessionClose (h : d.ctc.sound) (outlet : Byte) (id : Nat) : (d.sessionClose outlet id).1.ctc.sound := by
  simp only [Dev.sessionClose, Dev.closeSession, Dev.sessionGone]
  (repeat' split) <;> simp [h]

theorem Ctc.sound.decideOrder (h : d.ctc.sound) (g : OrderHead) (o : Order) : (d.decideOrder g o).1.ctc.sound := by
  simp only [Dev.decideOrder]
  split
  · exact h
  · cases o with
    | assign x => exact h.assign x
    | unassign => exact h.takeLeave none
    | sessionClose x id => exact h.sessionClose x _
    | startTransfer x | startDeparture x =>
      simp only [Dev.stepOrder]
      (repeat' split) <;> simp [h]
    | _ => simp [h]

end

/-! ### START (R87, R172) -/

@[simp] theorem Dev.raiseMany_ctc (k : NoticeKind) (n : Nat) (d : Dev) : (Dev.raiseMany k n d).ctc = d.ctc := by
  induction n generalizing d with
  | zero => rfl
  | succ n ih => rw [Dev.raiseMany, ih, (d.raise_frame k).2.2.2.2.2.2.2.1]

theorem Dev.configure_ctc (d : Dev) : d.configure.ctc = d.ctc := by simp [Dev.configure]

/-- START leaves both records at rest in OPEN, whatever their levels (R87). -/
theorem Ctc.sound_start (a b : Bool) : (Ctc.mk (Contactor.start a) (Contactor.start b)).sound :=
  ⟨.inl rfl, by simp [Contactor.oneCoil, Contactor.start], by simp [Contactor.oneCoil, Contactor.start]⟩

/-- R87: stage 6 opens one contactor, over records that are both OPEN. -/
theorem Ctc.sound.contactorCheck {d : Dev} (h : d.ctc.sound) (ha : d.con .a = .opened) (hb : d.con .b = .opened) :
    d.contactorCheck.ctc.sound := by
  have hopen (x : Outlet) (hx : d.con (otherOutlet x) = .opened) : (d.startOpening x).ctc.sound := by
    rw [Dev.startOpening, Dev.changeCon_ctc]
    exact h.set (Contactor.startOpen_oneCoil _ _) (.inr hx)
  simp only [Dev.contactorCheck]
  split_ifs
  · exact hopen .a hb
  · exact hopen .b ha
  · exact h

theorem Dev.startOver_sound (mem : List Host.Cell) (pins : Pins) (restart : Bool) (d : Dev) : (d.startOver mem pins restart).ctc.sound := by
  have hctc : (((d.stage1 mem pins).configure.scan).interruption restart).ctc =
      ⟨Contactor.start pins.auxA, Contactor.start pins.auxB⟩ := by
    simp [Dev.configure_ctc, Dev.stage1]
  have hstage : (((d.stage1 mem pins).configure.scan).interruption restart).ctc.sound := hctc ▸ Ctc.sound_start _ _
  have hcheck := hstage.contactorCheck (by rw [Dev.con, hctc]; rfl) (by rw [Dev.con, hctc]; rfl)
  simp only [Dev.startOver, Dev.runEntry, Dev.linkEntry]
  (repeat' split) <;> simp [hcheck]

/-! ### The order path and the slot ends -/

theorem Ctc.sound.order {d : Dev} (h : d.ctc.sound) (g : OrderHead) (o : Order) : (d.order g o).ctc.sound := by
  have hroute {e : Dev} (he : e.ctc.sound) : (e.route g o).ctc.sound := by
    cases o with
    | restart pins =>
      simp only [Dev.route]
      split
      · exact Dev.startOver_sound _ _ _ _
      · exact he
    | _ => exact he.decideOrder g _
  simp only [Dev.order]
  split_ifs
  · exact h
  · exact h
  · exact hroute h
  · simp [h]

theorem Ctc.sound.slotEnd {d : Dev} (h : d.ctc.sound) (k : Nat) (pins : Pins) : (d.slotEnd k pins).ctc.sound := by
  have hrole {e : Dev} (he : e.ctc.sound) (role : Role) (bytes : List Byte) (before : Ptb) :
      (e.byRole k role bytes pins before).ctc.sound := by
    have htime : ((e.viewNotice before false).timeHandOff k bytes).ctc.sound := by simp [he]
    simp only [Dev.byRole, Dev.terminalOrder]
    (repeat' split) <;> simp [he, htime.order]
  simp only [Dev.slotEnd, Dev.acceptedSlot]
  (repeat' split) <;> simp [h, hrole]

/-! ### Every command -/

/-- An effect that keeps the interlock and the coils, whatever the part. -/
def keepsContactors (f : Dev → Dev) : Prop := ∀ d : Dev, d.ctc.sound → (f d).ctc.sound

theorem keepsContactors.ofEq {f : Dev → Dev} (h : ∀ d, (f d).ctc = d.ctc) : keepsContactors f := fun d hd => (h d).symm ▸ hd

theorem keepsContactors.whenUp {f : Dev → Dev} (hf : keepsContactors f) : keepsContactors (Dev.whenUp f) := by
  intro d hd
  simp only [Dev.whenUp]
  split
  · exact hf d hd
  · exact hd

theorem keepsContactors.order (g : OrderHead) (o : Order) : keepsContactors (Dev.order g o) := fun _ hd => hd.order g o

theorem keepsContactors.resetPin (pins : Pins) : keepsContactors (Dev.resetPin pins) := by
  intro d hd
  simp only [Dev.resetPin]
  split
  · exact hd
  · exact Dev.startOver_sound _ _ _ _

theorem keepsContactors.supplyWarning : keepsContactors Dev.supplyWarning := by
  intro d hd
  simp only [Dev.supplyWarning]
  (repeat' split) <;> simp [hd]

theorem keepsContactors.warningClear (pins : Pins) : keepsContactors (Dev.warningClear pins) := by
  intro d hd
  simp only [Dev.warningClear]
  split_ifs
  · exact Dev.startOver_sound _ _ _ _
  · exact hd
  · exact hd

/-- Every command is such an effect: the requests of R74 and R77, the operations of R75 to R80, START (R87), or none of these. -/
theorem exec_keepsContactors (c : Instr) : ∃ f, keepsContactors f ∧ ∀ s, exec c s = s.run f := by
  cases c with
  | powerUp pins => exact ⟨_, fun _ _ => Dev.startOver_sound _ _ _ _, fun _ => rfl⟩
  | resetPin pins => exact ⟨_, keepsContactors.resetPin pins, fun _ => rfl⟩
  | supplyWarning => exact ⟨_, keepsContactors.supplyWarning, fun _ => rfl⟩
  | supplyWarningClear pins => exact ⟨_, keepsContactors.warningClear pins, fun _ => rfl⟩
  | powerFail => exact ⟨_, fun _ _ => Ctc.sound_start _ _, fun _ => rfl⟩
  | sampleSet raw => exact ⟨_, keepsContactors.whenUp fun _ h => h.sampleSet raw, fun _ => rfl⟩
  | watchTimerExpiry => exact ⟨_, keepsContactors.whenUp fun _ h => h.watchTimerExpiry, fun _ => rfl⟩
  | overloadTimerExpiry => exact ⟨_, keepsContactors.whenUp fun _ h => h.overloadExpiry, fun _ => rfl⟩
  | cycleTimerExpiry => exact ⟨_, keepsContactors.whenUp fun _ h => h.beginCycle _, fun _ => rfl⟩
  | markReceived bytes start => exact ⟨_, keepsContactors.whenUp fun _ h => h.markReceived bytes start, fun _ => rfl⟩
  | ownSlotEnd heard overdrive => exact ⟨_, keepsContactors.whenUp fun _ h => h.ownSlotEnd heard overdrive, fun _ => rfl⟩
  | slotEnd slot => exact ⟨_, keepsContactors.whenUp fun _ h => h.slotEnd _ _, fun _ => rfl⟩
  | auxLevelQualified x closed => exact ⟨_, keepsContactors.whenUp fun _ h => h.auxLevel x closed, fun _ => rfl⟩
  | coilPulseTimerExpiry x => exact ⟨_, keepsContactors.whenUp fun _ h => h.pulseEnd x, fun _ => rfl⟩
  | confirmTimerExpiry x => exact ⟨_, keepsContactors.whenUp fun _ h => h.confirmEnd x, fun _ => rfl⟩
  | retryGapExpiry x => exact ⟨_, keepsContactors.whenUp fun _ h => h.gapEnd x, fun _ => rfl⟩
  | lowLoadTimerExpiry => exact ⟨_, keepsContactors.whenUp fun _ h => h.lowLoadExpiry, fun _ => rfl⟩
  | fallbackClose k | sendMark | markWindowClose | silenceCountExpiry | loneCountExpiry | ownBulletinAssembly
    | bulletinReceived bytes start | crossingWatchExpiry k | cellChannelTimeout | shipChannelTimeout | backOffExpiry | joinAgeTick
    | progressTimerExpiry | absoluteRampTimerExpiry | lowGeneratorTimerExpiry | releaseTimerExpiry | releaseWaitExpiry
    | leaveStallExpiry | secondAdvance | packingTimerExpiry | storeAbsoluteTimerExpiry | pageProgramComplete | sectorEraseComplete =>
    exact ⟨_, (keepsContactors.ofEq fun _ => by simp).whenUp, fun _ => rfl⟩
  | _ => exact ⟨_, (keepsContactors.order _ _).whenUp, fun _ => rfl⟩

/-- Settles O55: every write of a record keeps the interlock and the coils, and every command is made of such writes. -/
theorem contactorsStayInterlocked : Obligations.ContactorsStayInterlocked := by
  intro s t hlock hcoil h
  have hs : s.dev.ctc.sound := ⟨hlock, hcoil⟩
  suffices ht : t.dev.ctc.sound from ht
  unfold step at h
  split at h
  · obtain rfl : s = t := by simpa using h
    exact hs
  · next c rest _ =>
    obtain ⟨f, hf, he⟩ := exec_keepsContactors c
    rw [he] at h
    obtain rfl := Host.Outcome.next.inj h
    exact hf _ hs

end Sys2Proof.Machine

/-! # CLEAR TRIP (O39; R85, R112, log entry 35) -/

namespace Sys2Proof.Machine

/-! ### The mode of a handover state, and the energising test from TRIPPED -/

theorem Syu.setMode_mode (s : Syu) (m : Mode) (running : Bool) (ses : Option Session) : (s.setMode m running ses).mode = m := by
  unfold Syu.setMode
  split
  · next h => exact h.symm
  · dsimp only
    (repeat' split) <;> rfl

/-- Table 2-2: a move sets the mode of the state entered. -/
theorem Dev.move_mode (d : Dev) (st : HState) : (d.move st).syu.mode = st.mode := by
  refine Eq.trans ?_ (d.syu.setMode_mode st.mode (d.run == .running) d.hoc.ownSession)
  simp only [Dev.move, Dev.setHoc_syu, Dev.setSyn_syu, Dev.setSyu_syu, Syu.enter]
  split <;> rfl

theorem Dev.energise_of_not_mayEnergise {d : Dev} (h : d.mayEnergise = false) : d.energise = d := by
  simp only [Dev.energise, h]
  split <;> simp

/-- A move between states without a channel leaves the conditions of R112 as they are. -/
theorem Dev.mayEnergise_move {d : Dev} {st : HState} (hd : d.hoc.state ≠ .joining) (hst : st ≠ .joining) :
    (d.move st).mayEnergise = d.mayEnergise := by
  have htable := d.move_sameTable st
  have hown : (d.move st).hoc.ownSession = d.hoc.ownSession := by
    rw [Hoc.ownSession, Hoc.ownSession, htable.1, funext htable.session]
  have hview : (d.move st).ownView = d.ownView := by rw [Dev.ownView, Dev.ownView, htable.1, d.move_frame st |>.2.2.2.2.1]
  have hcell : (d.move st).syn.cell = d.syn.cell := by simp [Dev.move, Syn.enter, hd, hst]
  simp [Dev.mayEnergise, Dev.cableReady, hown, hview, hcell]

/-- R112: the entry to ASSIGNED from TRIPPED stays there, or passes on where the conditions of the test stood before it. -/
theorem Dev.toAssigned_from_tripped {d : Dev} (h : d.hoc.state = .tripped) :
    d.toAssigned.hoc.state = .assigned ∨
      d.mayEnergise = true ∧ (d.toAssigned.hoc.state = .forming ∨ d.toAssigned.hoc.state = .joining) := by
  have hmay : (d.move .assigned).mayEnergise = d.mayEnergise := Dev.mayEnergise_move (by simp [h]) (by decide)
  rcases Bool.eq_false_or_eq_true d.mayEnergise with hm | hm
  · rcases (d.move .assigned).energise_cases with he | ⟨-, -, he | he⟩ <;> rw [Dev.toAssigned, he, Dev.move_state]
    · exact .inl rfl
    · exact .inr ⟨hm, .inl rfl⟩
    · exact .inr ⟨hm, .inr rfl⟩
  · rw [Dev.toAssigned, Dev.energise_of_not_mayEnergise (hmay.trans hm), Dev.move_state]
    exact .inl rfl

theorem Dev.mayEnergise_routed (d : Dev) (k : OrderKind) (h : OrderHead) : (d.routed k h).mayEnergise = d.mayEnergise := by
  simp [Dev.mayEnergise, Dev.cableReady, Dev.ownView, Dev.routed]

/-! ### The tests of CLEAR TRIP (R85) -/

theorem exec_clearTrip {s : State} {h : OrderHead} (ht : s.dev.takes h) :
    exec (.clearTrip h) s = .next { s with dev := Dev.reply (s.dev.routed .clearTrip h).clearTrip } := by
  have hrun : (s.dev.routed Order.clearTrip.kind h).run ≠ .shutdown := by simp [ht.1]
  refine (State.run_order ht .clearTrip (by simp)).trans ?_
  simp only [Dev.decideOrder, if_neg hrun]
  rfl

theorem Ctc.bothOpen_iff (c : Ctc) : c.bothOpen = true ↔ c.a.state = .opened ∧ c.b.state = .opened := by
  simp [Ctc.bothOpen]

/-- R85: what keeps a trip from being cleared: a link, a set gap or an overcurrent run that would trip again. -/
def Dev.tripStillDue (d : Dev) : Prop := d.lnk.state = .muted ∨ d.msu.setGap = 3 ∨ d.msu.ocRun = 2

section
variable {d : Dev}

theorem Dev.clearTrip_of_welded (hw : d.con .a = .welded ∨ d.con .b = .welded) : d.clearTrip = d.refuse .interlock :=
  if_pos (d.ctc.anyWelded_iff.2 hw)

/-- Behind the test of WELDED the refusals are STATE, whichever of the next three tests fails. -/
theorem Dev.clearTrip_of_state (ha : d.con .a ≠ .welded) (hb : d.con .b ≠ .welded)
    (h : d.hoc.state ≠ .tripped ∨ ¬(d.con .a = .opened ∧ d.con .b = .opened) ∨ d.tripStillDue) : d.clearTrip = d.refuse .state := by
  have hw : ¬d.ctc.anyWelded = true := fun hw => (d.ctc.anyWelded_iff.1 hw).elim ha hb
  rw [Dev.clearTrip, if_neg hw]
  rcases h with hs | ho | hd
  · rw [if_pos hs]
  · have ho : (!d.ctc.bothOpen) = true := by rwa [Bool.not_eq_true', ← Bool.not_eq_true, d.ctc.bothOpen_iff]
    rw [if_pos ho, ite_self]
  · have hd : d.lnk.state = .muted ∨ d.msu.setGap = 3 ∨ d.msu.ocRun = 2 := hd
    rw [if_pos hd, ite_self, ite_self]

/-- R85: the trip is cleared into ASSIGNED or OFF. -/
theorem Dev.clearTrip_of_cleared (hr : d.run = .running) (hs : d.hoc.state = .tripped)
    (ho : d.con .a = .opened ∧ d.con .b = .opened) (hd : ¬d.tripStillDue) :
    d.clearTrip = (if d.hoc.assignment.isSome = true then d.toAssigned else d.move .off).accept := by
  obtain ⟨ha, hb⟩ := ho
  have hw : ¬d.ctc.anyWelded = true := fun hw => by
    rcases d.ctc.anyWelded_iff.1 hw with hw | hw
    · exact absurd (ha.symm.trans hw) (by decide)
    · exact absurd (hb.symm.trans hw) (by decide)
  have ho : d.ctc.bothOpen = true := d.ctc.bothOpen_iff.2 ⟨ha, hb⟩
  have hd : ¬(d.lnk.state = .muted ∨ d.msu.setGap = 3 ∨ d.msu.ocRun = 2) := hd
  rw [Dev.clearTrip, if_neg hw, if_neg (by simp [hs]), if_neg (by simp [ho]), if_neg hd, if_neg (by simp [hr])]

/-- R85, R112: what the cleared trip leaves, in ASSIGNED with the test of R112 behind it or in OFF. -/
theorem Dev.cleared_effect (hs : d.hoc.state = .tripped) :
    let t := if d.hoc.assignment.isSome = true then d.toAssigned else d.move .off
    t = { d with syu := t.syu, syn := t.syn, hoc := t.hoc } ∧ t.hoc.assignment = d.hoc.assignment ∧
      (d.hoc.assignment = none → t.hoc.state = .off ∧ t.syu.mode = .stopped) ∧
      (d.hoc.assignment ≠ none →
        t.hoc.state = .assigned ∨ d.mayEnergise = true ∧ (t.hoc.state = .forming ∨ t.hoc.state = .joining)) := by
  intro t
  cases hx : d.hoc.assignment with
  | none =>
    have ht : t = d.move .off := if_neg (by simp [hx])
    rw [ht]
    exact ⟨rfl, (d.move_sameTable .off).1.trans hx, fun _ => ⟨d.move_state .off, d.move_mode .off⟩, fun h => absurd rfl h⟩
  | some x =>
    have ht : t = d.toAssigned := if_pos (by simp [hx])
    obtain ⟨hrun, hpins, hcfg, hlnk, hptb, hmsu, hctc, hmtr, hrst, hntu, hfree⟩ := d.toAssigned_frame
    rw [ht]
    refine ⟨?_, d.toAssigned_sameTable.1.trans hx, nofun, fun _ => Dev.toAssigned_from_tripped hs⟩
    exact (Dev.eq_of_frame hrun hpins hcfg hlnk hptb hctc hmtr hrst hntu hfree).trans (by rw [hmsu])

end

/-- Settles O39: the tests in their order, and the state that the cleared trip enters. -/
theorem clearTripIsTestedInOrder : Obligations.ClearTripIsTestedInOrder := by
  intro s h ht refused bothOpen stands
  obtain ⟨d, hd⟩ : ∃ d, d = s.dev.routed .clearTrip h := ⟨_, rfl⟩
  have hhoc : d.hoc = s.dev.hoc := by simp [hd]
  have hcon : ∀ y, d.con y = s.dev.con y := by simp [hd, Dev.con]
  have hopen : d.con .a = .opened ∧ d.con .b = .opened ↔ bothOpen := by rw [hcon, hcon]
  have hdue : d.tripStillDue ↔ stands := by simp [Dev.tripStillDue, stands, hd, Dev.routed]
  have hexec : exec (.clearTrip h) s = .next { s with dev := Dev.reply d.clearTrip } := hd ▸ exec_clearTrip ht
  have hrefuse : ∀ r, d.clearTrip = d.refuse r → refused r := by
    intro r hr
    simp only [refused]
    rw [hexec, hr, hd]
    exact State.next_reply ht _ _
  refine ⟨fun hw => hrefuse _ (Dev.clearTrip_of_welded (by rwa [hcon, hcon])), fun ha hb => ?_⟩
  rw [← hcon] at ha hb
  refine ⟨fun hs => ?_, fun _ ho => ?_, fun _ _ hd => ?_, fun hs ho hnd => ?_⟩
  · exact hrefuse _ (Dev.clearTrip_of_state ha hb (.inl (by rwa [hhoc])))
  · exact hrefuse _ (Dev.clearTrip_of_state ha hb (.inr (.inl (by rwa [hopen]))))
  · exact hrefuse _ (Dev.clearTrip_of_state ha hb (.inr (.inr (hdue.2 hd))))
  · have hrun : d.run = .running := by simp [hd, ht.1]
    have hst : d.hoc.state = .tripped := by rw [hhoc, hs]
    rw [hexec, Dev.clearTrip_of_cleared hrun hst (hopen.2 ho) (fun h => hnd (hdue.1 h))]
    obtain ⟨heq, hassign, hoff, hon⟩ := Dev.cleared_effect hst
    generalize (if d.hoc.assignment.isSome = true then d.toAssigned else d.move .off) = e at heq hassign hoff hon ⊢
    have hmay : d.mayEnergise = s.dev.mayEnergise := hd ▸ s.dev.mayEnergise_routed _ _
    have hmsu : e.msu = s.dev.msu := by rw [heq]; simp [hd]
    rw [hhoc] at hassign hoff hon
    rw [hmay] at hon
    rw [Dev.reply_accept ht (k := .clearTrip) (by rw [← hd]; exact heq.trans (by rw [heq])), hmsu]
    exact ⟨_, rfl, rfl, rfl, hassign, hoff, hon⟩

end Sys2Proof.Machine

/-! # A qualified auxiliary level (O45; R73, R75, R78 to R80, R82, Table 5-3) -/

namespace Sys2Proof.Machine

/-! ### The level taken, and its effect by the state of the record (Table 5-3) -/

theorem exec_auxLevelQualified_up {s : State} (h : s.dev.awake) (x : Outlet) (closed : Bool) :
    exec (.auxLevelQualified x closed) s = .next (s.onDev (Dev.auxLevel x closed)) := State.run_up h _

/-- R73: a new level writes the pin and the record's level, and nothing else. -/
theorem Dev.setAux_eq (d : Dev) (x : Outlet) (closed : Bool) :
    d.setAux x closed =
      { d with pins := (d.setAux x closed).pins, ctc := d.ctc.set x { d.ctc.get x with auxClosed := closed } } := by
  cases x <;> rfl

theorem Dev.auxLevel_of_same {d : Dev} {x : Outlet} {closed : Bool} (h : (d.ctc.get x).auxClosed = closed) :
    d.auxLevel x closed = d := if_pos h

theorem Dev.auxLevel_of_change {d : Dev} {x : Outlet} {closed : Bool} (h : (d.ctc.get x).auxClosed ≠ closed) :
    d.auxLevel x closed = (d.setAux x closed).auxEffect x closed := if_neg h

section
variable {d : Dev} {x : Outlet}

/-- The levels that a record only takes: those that its state expects, and those that its pulse or confirmation judges later. -/
theorem Dev.auxEffect_of_expected {closed : Bool}
    (h : d.con x = .welded ∨ (d.con x = .opened ∧ closed = false) ∨ (d.con x = .closed ∧ closed = true) ∨
      (d.con x = .closing ∧ (closed = false ∨ (d.ctc.get x).phase = .pulse)) ∨
      (d.con x = .opening ∧ (closed = true ∨ (d.ctc.get x).phase = .pulse))) :
    d.auxEffect x closed = d := by
  unfold Dev.con at h
  rcases h with hs | ⟨hs, rfl⟩ | ⟨hs, rfl⟩ | ⟨hs, hl⟩ | ⟨hs, hl⟩
  · simp [Dev.auxEffect, hs]
  · simp [Dev.auxEffect, hs]
  · simp [Dev.auxEffect, hs]
  · rcases hl with rfl | hl <;> simp [Dev.auxEffect, *]
  · rcases hl with rfl | hl <;> simp [Dev.auxEffect, *]

theorem Dev.auxEffect_of_closing (hs : d.con x = .closing) (hp : (d.ctc.get x).phase ≠ .pulse) :
    d.auxEffect x true = d.becomeClosed x := by
  unfold Dev.con at hs
  simp [Dev.auxEffect, hs, hp]

theorem Dev.auxEffect_of_closed (hs : d.con x = .closed) :
    d.auxEffect x false = (d.raise .auxDrop).becomeOpen x .auxiliary := by
  unfold Dev.con at hs
  simp [Dev.auxEffect, hs]

theorem Dev.auxEffect_of_opening (hs : d.con x = .opening) (hp : (d.ctc.get x).phase ≠ .pulse) :
    d.auxEffect x false = d.becomeOpen x .handover := by
  unfold Dev.con at hs
  simp [Dev.auxEffect, hs, hp]

theorem Dev.auxEffect_of_opened (hs : d.con x = .opened) : d.auxEffect x true = d.unexpectedClosure x := by
  unfold Dev.con at hs
  simp [Dev.auxEffect, hs]

end

/-! ### The leave that ends with the contactor OPEN (R110, R111) -/

theorem Dev.reassign_assignment (d : Dev) (x : Option Outlet) : (d.reassign x).hoc.assignment = x := by
  unfold Dev.reassign
  split
  · assumption
  · rfl

theorem Dev.applyDestination_assignment (d : Dev) (dest : Option Outlet) : (d.applyDestination dest).hoc.assignment = dest := by
  cases dest with
  | none => exact Dev.reassign_assignment _ _
  | some x => exact (Dev.energise_sameTable _).1.trans (Dev.reassign_assignment _ _)

theorem Dev.assignedOpened_of_leaving {d : Dev} (h : d.hoc.state = .leaving) (old : CState) :
    (d.assignedOpened old).hoc.assignment = d.hoc.leave.bind Leave.dest := by
  simp only [Dev.assignedOpened, h, Dev.completeLeave, Dev.applyDestination_assignment]

/-! ### A record that becomes OPEN, of whichever origin (R80; log entry 48) -/

section
variable {d : Dev} {x : Outlet}

/-- The records after the change to OPEN and the held closure behind it; what the change was handed to keeps what it made of it, but for the
cell channel. -/
theorem Dev.becomeOpen_records (d : Dev) (x : Outlet) (o : Origin) :
    let e := d.changeCon x ((d.ctc.get x).rest .opened) o
    let t := d.becomeOpen x o
    t.ctc.get x = restingAt .opened (d.ctc.get x).auxClosed ∧
      (d.ctc.get (otherOutlet x)).heldTakenFrom d.cfg.openPulse (t.ctc.get (otherOutlet x)) ∧
      t = { e with ctc := t.ctc, syn := t.syn } := by
  intro e t
  have hctc : e.ctc = d.ctc.set x ((d.ctc.get x).rest .opened) := d.changeCon_ctc _ _ _
  have hx : e.ctc.get x = restingAt .opened (d.ctc.get x).auxClosed := by rw [hctc, Ctc.get_set_same, Contactor.rest_eq]
  have hy : e.ctc.get (otherOutlet x) = d.ctc.get (otherOutlet x) := by rw [hctc, Ctc.get_set_other]
  have hcfg : e.cfg = d.cfg := (d.changeCon_frame x _ o).2.2.1
  have hopen : e.con (otherOutlet (otherOutlet x)) = .opened := by rw [otherOutlet_twice, Dev.con, hx]; rfl
  obtain ⟨hheld, hother, heq, -⟩ := Dev.takeHeld_effect hopen
  rw [otherOutlet_twice, hx] at hother
  rw [hy, hcfg] at hheld
  exact ⟨hother, hheld, heq⟩

/-- The assigned contactor becomes OPEN at the end of an operation (R102, R111). -/
theorem Dev.changeCon_opened_of_assigned (hx : d.hoc.assignment = some x) (hc : d.con x = .closing ∨ d.con x = .opening) (o : Origin) :
    d.changeCon x ((d.ctc.get x).rest .opened) o = (d.setCon x ((d.ctc.get x).rest .opened)).assignedOpened (d.con x) := by
  let e := d.setCon x ((d.ctc.get x).rest .opened)
  have hcon : e.con x = .opened := d.con_setCon_same x _
  have hne : e.con x ≠ d.con x := by rw [hcon]; rcases hc with h | h <;> simp [h]
  have h := Dev.conChanged_of_assigned (d := e) hx hne (by rcases hc with h | h <;> simp [h]) o
  rw [hcon] at h
  refine h.trans ?_
  rcases hc with hc | hc <;> simp [e, Dev.assignedChanged, hc]

/-- R111: a leave that waits for the open operation is over where the operation ends OPEN. -/
theorem Dev.becomeOpen_of_leaving (hx : d.hoc.assignment = some x) (hc : d.con x = .closing ∨ d.con x = .opening)
    (hl : d.hoc.state = .leaving) (o : Origin) :
    (d.becomeOpen x o).hoc.assignment = d.hoc.leave.bind Leave.dest := by
  obtain ⟨-, -, heq⟩ := d.becomeOpen_records x o
  rw [heq, Dev.changeCon_opened_of_assigned hx hc]
  exact Dev.assignedOpened_of_leaving (d := d.setCon x _) hl _

/-- A CLOSED contactor that is the assigned one opens without an operation: the membership ends, the member state ends, and the change to OPEN
is taken (R32, R116, R117, R126, R132). -/
theorem Dev.changeCon_dropped_of_assigned (hx : d.hoc.assignment = some x) (hc : d.con x = .closed) (o : Origin) :
    d.changeCon x ((d.ctc.get x).rest .opened) o =
      (((d.setCon x ((d.ctc.get x).rest .opened)).leftClosed o).assignedLeftClosed).assignedOpened .closed := by
  let e := d.setCon x ((d.ctc.get x).rest .opened)
  have hcon : e.con x = .opened := d.con_setCon_same x _
  have hassign : e.hoc.assignment = some x := hx
  have h : d.changeCon x ((d.ctc.get x).rest .opened) o = e.conChanged x .closed o := congrArg (e.conChanged x · o) hc
  rw [h, Dev.conChanged, if_neg (by rw [hcon]; decide), if_pos hassign, if_pos rfl, hcon]
  simp [e, Dev.assignedChanged]

end

/-! ### What the drop of the assigned contactor leaves (R32, R116, R117, R126) -/

/-- R32, R116, R117: no ramp offset, no join age and no lead claim. -/
def Dev.claimless (d : Dev) : Prop := d.syu.fRamp = 0 ∧ d.hoc.joinAge = 0 ∧ d.hoc.lead = false

section
variable {d : Dev}

theorem Dev.claimless.move (h : d.claimless) (st : HState) : (d.move st).claimless := by
  obtain ⟨hramp, hage, hlead⟩ := h
  have hmode : (d.syu.setMode st.mode (d.run == .running) d.hoc.ownSession).fRamp = 0 := by
    simp only [Syu.setMode]
    split_ifs
    · exact hramp
    · rfl
    · exact hramp
    · exact hramp
  refine ⟨?_, (d.move_joinAge st).1.trans hage, ?_⟩
  · simp only [Dev.move, Dev.setHoc_syu, Dev.setSyn_syu, Dev.setSyu_syu, Syu.enter]
    split <;> exact hmode
  · simp only [Dev.move, Dev.setHoc_hoc, Hoc.enter, Hoc.startRamp, hlead]
    split <;> rfl

theorem Dev.claimless.energise (h : d.claimless) : d.energise.claimless := by
  rcases d.energise_cases with he | ⟨-, -, he | he⟩ <;> rw [he]
  · exact h
  · exact h.move _
  · exact h.move _

theorem Dev.claimless.toAssigned (h : d.claimless) : d.toAssigned.claimless := (h.move _).energise

theorem Dev.claimless.reassign (h : d.claimless) (x : Option Outlet) : (d.reassign x).claimless := by
  unfold Dev.reassign
  split <;> exact h

theorem Dev.claimless.completeLeave (h : d.claimless) : d.completeLeave.claimless := by
  unfold Dev.completeLeave Dev.applyDestination
  split
  · exact (h.move _).reassign _
  · exact ((h.move _).reassign _).energise

theorem Dev.claimless.seekAfresh (h : d.claimless) : d.seekAfresh.claimless := by
  have htimeout {e : Dev} (he : e.claimless) : e.cellTimeout.claimless := by
    have hraised : ((e.setCellCh e.syn.cell.timedOut).raise .syncTimeout).claimless := by
      simpa [Dev.claimless] using he
    simp only [Dev.cellTimeout]
    split
    · exact hraised.toAssigned
    · exact hraised
  simp only [Dev.seekAfresh]
  (repeat' split)
  · exact htimeout (e := d.setCellCh _) h
  · exact h
  · exact h

theorem Dev.claimless.assignedOpened (h : d.claimless) (old : CState) : (d.assignedOpened old).claimless := by
  unfold Dev.assignedOpened
  (repeat' split)
  · exact h.completeLeave
  · exact h.toAssigned
  · exact h
  · exact h.seekAfresh
  · exact h.energise
  · exact h

/-- R112: what a cell that waits in ASSIGNED, FORMING or JOINING makes of the test. -/
theorem Dev.energise_waits (h : d.hoc.state.waits) : d.energise.hoc.state.waits := by
  rcases d.energise_cases with he | ⟨-, -, he | he⟩ <;> rw [he]
  · exact h
  · exact .inr (.inl (d.move_state _))
  · exact .inr (.inr (d.move_state _))

theorem Dev.toAssigned_waits (d : Dev) : d.toAssigned.hoc.state.waits := Dev.energise_waits (.inl (d.move_state _))

/-- R102, R112, R115: a cell that waits goes on waiting for its outlet where the contactor became OPEN. -/
theorem Dev.assignedOpened_waits (h : d.hoc.state.waits) (old : CState) :
    (d.assignedOpened old).hoc.state.waits ∧ d.hoc.sameTable (d.assignedOpened old).hoc := by
  rcases id h with hs | hs | hs <;> simp only [Dev.assignedOpened, hs]
  · exact ⟨Dev.energise_waits h, d.energise_sameTable⟩
  · split
    · exact ⟨d.toAssigned_waits, d.toAssigned_sameTable⟩
    · exact ⟨h, d.hoc.sameTable_refl⟩
  · simp only [Dev.seekAfresh]
    (repeat' split)
    · obtain ⟨hst, hsame, -⟩ := Dev.cellTimeout_of_joining
        (d := d.setCellCh { d.syn.cell with state := .seeking, good := 0, watch := some 0 }) hs
      exact ⟨.inl hst, hsame⟩
    · exact ⟨h, d.hoc.sameTable_refl⟩
    · exact ⟨h, d.hoc.sameTable_refl⟩

end
end Sys2Proof.Machine

namespace Sys2Proof.Machine

/-! ### The records of the membership that AUX_DROP ends (R132, R141, R142, R149) -/

/-- R132, R142: the records that end a membership are staged where two entries are free, and wait in the holder where none is. -/
theorem Dev.leftClosed_records (d : Dev) (o : Origin) :
    let t := d.leftClosed o
    t.mtr.membership = none ∧ (d.mtr.membership = none → t.rst = d.rst) ∧
      ∀ k, d.mtr.membership = some k → d.mtr.holder = [] →
        (2 ≤ d.rst.free → d.rst.newest < 4294967290 →
          d.rst.tookRecords (d.mtr.leaveRecords k o.leaveCause) t.rst ∧ t.mtr.holder = []) ∧
        (d.rst.free = 0 → t.rst = d.rst ∧ t.mtr.holder = d.mtr.leaveRecords k o.leaveCause) := by
  intro t
  cases hm : d.mtr.membership with
  | none =>
    have ht : t = d.rampTo 0 := Dev.endMembership_of_none (d := d.rampTo 0) hm _
    rw [ht]
    exact ⟨hm, fun _ => rfl, nofun⟩
  | some k =>
    obtain ⟨hreq, hnone⟩ := Dev.endMembership_requested (d := d.rampTo 0) hm o.leaveCause
    refine ⟨hnone, nofun, fun j hj hh => ⟨fun hf hn => ?_, fun hf => ?_⟩⟩ <;> obtain rfl := Option.some.inj hj
    · obtain ⟨htook, -, hholder, -⟩ := Dev.leftClosed_tookRecords hm hh hf (by omega) o
      exact ⟨htook, hholder⟩
    · obtain ⟨hrst, hheld⟩ := hreq.held (.inr hf)
      have hnil : (d.rampTo 0).mtr.holder = [] := hh
      obtain ⟨hholder, -⟩ := hheld (by rw [hnil]; exact Nat.zero_le 2)
      refine ⟨hrst, hholder.trans ?_⟩
      rw [hnil, List.nil_append]
      exact List.take_of_length_le (d.mtr.length_leaveRecords_le k _)

/-- R117, R126: the assigned contactor left CLOSED. -/
theorem Dev.assignedLeftClosed_effect {d : Dev} (h : d.syu.fRamp = 0) :
    d.assignedLeftClosed.claimless ∧ d.hoc.sameTable d.assignedLeftClosed.hoc ∧
      (d.hoc.state.isMember = true → d.assignedLeftClosed.hoc.state.waits) ∧
      (d.hoc.state = .leaving →
        d.assignedLeftClosed.hoc.state = .leaving ∧ d.assignedLeftClosed.hoc.leave = d.hoc.leave) := by
  let e := d.setHoc { d.hoc with joinAge := 0, joinTicks := 0, lead := false, leadCount := 0 }
  have he : e.claimless := ⟨h, rfl, rfl⟩
  by_cases hm : d.hoc.state.isMember = true
  · have ht : d.assignedLeftClosed = e.toAssigned := if_pos hm
    rw [ht]
    exact ⟨he.toAssigned, e.toAssigned_sameTable, fun _ => e.toAssigned_waits, fun hl => by rw [hl] at hm; cases hm⟩
  · have ht : d.assignedLeftClosed = e := if_neg hm
    rw [ht]
    exact ⟨he, d.hoc.sameTable_refl, fun h => absurd h hm, fun hl => ⟨hl, rfl⟩⟩

/-- The assigned contactor, CLOSED, becomes OPEN without an operation (R32, R79, R111, R116, R117, R126, R132). -/
theorem Dev.becomeOpen_dropped {d : Dev} {x : Outlet} (hx : d.hoc.assignment = some x) (hc : d.con x = .closed) (o : Origin) :
    let f := (d.setCon x ((d.ctc.get x).rest .opened)).leftClosed o
    let t := d.becomeOpen x o
    t.mtr = f.mtr ∧ t.rst = f.rst ∧ t.claimless ∧
      (d.hoc.state.isMember = true → t.hoc.state.waits ∧ t.hoc.assignment = some x) ∧
      (d.hoc.state = .leaving → t.hoc.assignment = d.hoc.leave.bind Leave.dest) := by
  intro f t
  have hfhoc : f.hoc = d.hoc := by simp [f]
  have hramp : f.syu.fRamp = 0 := by
    have hsyu : f.syu = ((d.setCon x ((d.ctc.get x).rest .opened)).rampTo 0).syu := by simp [f, Dev.leftClosed]
    rw [hsyu]
    rfl
  obtain ⟨hclaim, hsame, hmember, hleaving⟩ := Dev.assignedLeftClosed_effect hramp
  rw [hfhoc] at hsame hmember hleaving
  let e := f.assignedLeftClosed.assignedOpened .closed
  have ht : t = { e with ctc := t.ctc, syn := t.syn } := by
    obtain ⟨-, -, heq⟩ := d.becomeOpen_records x o
    rwa [Dev.changeCon_dropped_of_assigned hx hc] at heq
  have hopened : e.claimless := hclaim.assignedOpened .closed
  rw [ht]
  refine ⟨?_, ?_, hopened, fun hm => ?_, fun hl => ?_⟩
  · simp [e]
  · simp [e]
  · obtain ⟨hwaits, hsame2⟩ := Dev.assignedOpened_waits (hmember hm) .closed
    exact ⟨hwaits, (hsame.trans hsame2).1.trans hx⟩
  · obtain ⟨hst, hleave⟩ := hleaving hl
    exact (Dev.assignedOpened_of_leaving hst _).trans (by rw [hleave])

/-- R79, R82: AUX_DROP, with the end of the membership where the contactor is the assigned one. -/
theorem Dev.auxDrop_effect {d : Dev} {x : Outlet} (hc : d.con x = .closed) :
    let t := (d.raise .auxDrop).becomeOpen x .auxiliary
    t.ctc.get x = restingAt .opened (d.ctc.get x).auxClosed ∧
      (d.ctc.get (otherOutlet x)).heldTakenFrom d.cfg.openPulse (t.ctc.get (otherOutlet x)) ∧
      t.ntu.entry .auxDrop = ⟨true, min 255 ((d.ntu.entry .auxDrop).count + 1)⟩ ∧
      (d.hoc.assignment = some x →
        t.mtr.membership = none ∧ t.claimless ∧ (d.hoc.state.isMember = true → t.hoc.state.waits ∧ t.hoc.assignment = some x) ∧
          (d.hoc.state = .leaving → t.hoc.assignment = d.hoc.leave.bind Leave.dest) ∧
          (d.mtr.membership = none → t.rst = d.rst) ∧
          ∀ k, d.mtr.membership = some k → d.mtr.holder = [] →
            (2 ≤ d.rst.free → d.rst.newest < 4294967290 →
              d.rst.tookRecords (d.mtr.leaveRecords k .auxDrop) t.rst ∧ t.mtr.holder = []) ∧
            (d.rst.free = 0 → t.rst = d.rst ∧ t.mtr.holder = d.mtr.leaveRecords k .auxDrop)) := by
  let d1 := d.raise .auxDrop
  obtain ⟨-, -, hcfg, -, -, -, -, hctc, -, hhoc, hmtr, hrst, -⟩ := d.raise_frame .auxDrop
  have hcon : d1.con x = .closed := by rw [Dev.con, hctc]; exact hc
  obtain ⟨hx, hheld, -⟩ := d1.becomeOpen_records x .auxiliary
  rw [hctc] at hx
  rw [hctc, hcfg] at hheld
  refine ⟨hx, hheld, ?_, fun hassign => ?_⟩
  · rw [Dev.becomeOpen_entry _ _ _ _ (by decide), Dev.raise_own]
  · obtain ⟨htmtr, htrst, hclaim, hmember, hleaving⟩ := Dev.becomeOpen_dropped (d := d1) (hhoc ▸ hassign) hcon .auxiliary
    obtain ⟨hgone, hnone, hsome⟩ := (d1.setCon x ((d1.ctc.get x).rest .opened)).leftClosed_records .auxiliary
    rw [← htmtr] at hgone
    rw [← htrst] at hnone
    rw [← htmtr, ← htrst] at hsome
    simp only [Dev.setCon_frame, d1, hmtr, hrst] at hnone hsome
    rw [hhoc] at hmember hleaving
    exact ⟨hgone, hclaim, hmember, hleaving, hnone, hsome⟩

/-! ### A closure without an operation (R80, R82) -/

theorem Ctc.get_tripped (c : Ctc) (w : Nat) (x : Outlet) : (c.tripped w).get x = (c.get x).openRequested w := by
  cases x <;> rfl

/-- R80: a closure is held while the other record is out of OPEN. -/
theorem Dev.takeHeld_of_other_ne {d : Dev} {x : Outlet} (h : d.con (otherOutlet x) ≠ .opened) : d.takeHeld x = d :=
  if_neg fun hh => h hh.2.2

/-- R80, R82: an OPEN record found closed opens where the other is OPEN and is held where it is not, and the part trips. -/
theorem Dev.unexpectedClosure_effect {d : Dev} {x : Outlet} (hc : d.con x = .opened) (haux : (d.ctc.get x).auxClosed = true) :
    let t := d.unexpectedClosure x
    (if d.con (otherOutlet x) = .opened then
        t.ctc.get x = ⟨.opening, true, .pulse, some d.cfg.openPulse, none, false, false, true⟩
      else t.ctc.get x = d.ctc.get x) ∧
      (d.ctc.get (otherOutlet x)).openRequestedFrom d.cfg.openPulse (t.ctc.get (otherOutlet x)) ∧
      t.ntu.entry .auxUnexpected = ⟨true, min 255 ((d.ntu.entry .auxUnexpected).count + 1)⟩ ∧
      t.hoc.state = .tripped ∧ d.hoc.droppedFrom t.hoc ∧ d.syu.haltedFrom t.syu ∧ t.syu.mode = .stopped ∧ t.msu = d.msu := by
  let d1 := d.raise .auxUnexpected
  let e := d1.takeHeld x
  obtain ⟨-, -, hcfg, -, -, hmsu, hsyu, hctc, -, hhoc, -⟩ := d.raise_frame .auxUnexpected
  have hcon (z : Outlet) : d1.con z = d.con z := by rw [Dev.con, Dev.con, hctc]
  have hheld : (if d.con (otherOutlet x) = .opened then
        e.ctc.get x = ⟨.opening, true, .pulse, some d.cfg.openPulse, none, false, false, true⟩
      else e.ctc.get x = d.ctc.get x) ∧
      e.ctc.get (otherOutlet x) = d.ctc.get (otherOutlet x) ∧ e = { d1 with ctc := e.ctc, syn := e.syn } := by
    by_cases hy : d.con (otherOutlet x) = .opened
    · obtain ⟨hx, hother, heq, -⟩ := Dev.takeHeld_effect ((hcon _).trans hy)
      rw [hctc, hcfg, Contactor.heldTakenFrom, if_pos ⟨hc, haux⟩] at hx
      rw [hctc] at hother
      exact ⟨by rwa [if_pos hy], hother, heq⟩
    · have he : e = d1 := Dev.takeHeld_of_other_ne (by rwa [hcon])
      rw [he, hctc, if_neg hy]
      exact ⟨rfl, rfl, rfl⟩
  obtain ⟨hx, hy, heq⟩ := hheld
  obtain ⟨hst, hdrop, hhalt, hmode, -, -, -, -, -, -, htmsu, -⟩ := e.trip_effect .auxUnexpected (some x)
  have hctc2 (z : Outlet) : (e.trip .auxUnexpected (some x)).ctc.get z = (e.ctc.get z).openRequested e.cfg.openPulse := by
    rw [Dev.trip_ctc, Ctc.get_tripped]
  have hehoc : e.hoc = d.hoc := by rw [heq]; exact hhoc
  have hesyu : e.syu = d.syu := by rw [heq]; exact hsyu
  have hecfg : e.cfg = d.cfg := by rw [heq]; exact hcfg
  rw [hehoc] at hdrop
  rw [hesyu] at hhalt
  refine ⟨?_, ?_, ?_, hst, hdrop, hhalt, hmode, htmsu.trans (by rw [heq]; exact hmsu)⟩
  · by_cases ho : d.con (otherOutlet x) = .opened
    · rw [if_pos ho] at hx ⊢
      exact (hctc2 x).trans (by rw [hx]; rfl)
    · rw [if_neg ho] at hx ⊢
      exact (hctc2 x).trans (by rw [hx]; exact Contactor.openRequested_opened _ _ hc)
  · have hopen := (d.ctc.get (otherOutlet x)).openRequested_from d.cfg.openPulse
    rw [← hy, ← hecfg] at hopen ⊢
    exact (hctc2 (otherOutlet x)).symm ▸ hopen
  · calc (e.trip .auxUnexpected (some x)).ntu.entry .auxUnexpected
      _ = e.ntu.entry .auxUnexpected := Dev.trip_entry _ _ _ _ (by decide) (by decide)
      _ = d1.ntu.entry .auxUnexpected := Dev.takeHeld_entry _ _ _ (by decide)
      _ = _ := d.raise_own _

/-! ### The settlement -/

/-- Settles O45: the level is taken, and its effect follows by the state of the record. -/
theorem auxLevelByTheRecordState : Obligations.AuxLevelByTheRecordState := by
  intro s x closed hup c y pins
  rw [exec_auxLevelQualified_up hup]
  refine ⟨fun h => by rw [State.onDev_eq_self (Dev.auxLevel_of_same h)], fun hne => ?_⟩
  have hpins : (s.dev.setAux x closed).pins = pins := by cases x <;> rfl
  obtain ⟨d, hd⟩ : ∃ d : Dev, d = { s.dev with pins := pins, ctc := s.dev.ctc.set x { c with auxClosed := closed } } := ⟨_, rfl⟩
  have hlevel : s.dev.auxLevel x closed = d.auxEffect x closed := by
    rw [Dev.auxLevel_of_change hne, Dev.setAux_eq, hpins, hd]
  have hx : d.ctc.get x = { c with auxClosed := closed } := by rw [hd]; exact Ctc.get_set_same _ _ _
  have hy : d.ctc.get y = s.dev.ctc.get y := by rw [hd]; exact Ctc.get_set_other _ _ _
  have hcon : d.con x = c.state := by rw [Dev.con, hx]
  have hphase : (d.ctc.get x).phase = c.phase := by rw [hx]
  have haux : (d.ctc.get x).auxClosed = closed := by rw [hx]
  have hnext : s.onDev (Dev.auxLevel x closed) = { s with dev := d.auxEffect x closed } := by rw [State.onDev, hlevel]
  rw [hnext]
  refine ⟨fun h => ?_, _, rfl, rfl, ?_⟩
  · rw [Dev.auxEffect_of_expected (by rwa [hcon, hphase]), hd]
  obtain ⟨hrun, hp, hcfg, hlnk, hptb⟩ := d.auxEffect_frame x closed
  have hmem := d.auxEffect_mem x closed
  refine ⟨hp.trans (by rw [hd]), hcfg.trans (by rw [hd]), hlnk.trans (by rw [hd]), hptb.trans (by rw [hd]), hrun.trans (by rw [hd]),
    hmem.trans (by rw [hd]), fun hs hl hph => ?_, fun hs hl => ?_, fun hs hl hph => ?_, fun hs hl => ?_⟩ <;> subst hl
  · rw [Dev.auxEffect_of_closing (hcon.trans hs) (hphase ▸ hph)]
    obtain ⟨hctc, heq, hjoined, -⟩ := Dev.becomeClosed_effect (hcon.trans hs)
    generalize d.becomeClosed x = t at hctc heq hjoined ⊢
    have hgetx : t.ctc.get x = restingAt .closed true := by rw [hctc, Ctc.get_set_same, haux]
    have hgety : t.ctc.get y = s.dev.ctc.get y := by rw [hctc, ← hy]; exact Ctc.get_set_other _ _ _
    subst hd
    refine ⟨heq, hgetx, hgety, fun ha => ?_, hjoined⟩
    obtain ⟨hage, hticks, -, hforming, hjoining⟩ := hjoined ha
    refine ⟨hage, hticks, fun hf => ?_, fun hj => ?_⟩
    · obtain ⟨hst, hlead, -⟩ := hforming hf
      exact ⟨hst, hlead⟩
    · obtain ⟨hm, hatt, hfj, hvs, -⟩ := hjoining hj
      exact ⟨hm, hatt, hfj, hvs⟩
  · rw [Dev.auxEffect_of_closed (hcon.trans hs)]
    obtain ⟨hgetx, hheld, hntu, hdrop⟩ := Dev.auxDrop_effect (hcon.trans hs)
    generalize (d.raise .auxDrop).becomeOpen x .auxiliary = t at hgetx hheld hntu hdrop ⊢
    rw [haux] at hgetx
    rw [hy] at hheld
    subst hd
    refine ⟨hgetx, hheld, hntu, fun ha => ?_⟩
    obtain ⟨hgone, ⟨hramp, hage, hlead⟩, hmember, hleaving, hnone, hsome⟩ := hdrop ha
    exact ⟨hgone, hramp, hage, hlead, hmember, hleaving, hnone, hsome⟩
  · rw [Dev.auxEffect_of_opening (hcon.trans hs) (hphase ▸ hph)]
    obtain ⟨hgetx, hheld, heq, -, hseek, hraised⟩ := Dev.becomeOpen_effect (.inr (hcon.trans hs))
    have hleaving (ha : d.hoc.assignment = some x) (hl : d.hoc.state = .leaving) :=
      Dev.becomeOpen_of_leaving ha (.inr (hcon.trans hs)) hl .handover
    generalize d.becomeOpen x .handover = t at hgetx hheld heq hseek hraised hleaving ⊢
    rw [haux] at hgetx
    rw [hy] at hheld
    subst hd
    exact ⟨hgetx, hheld, heq, hseek, hraised, hleaving⟩
  · rw [Dev.auxEffect_of_opened (hcon.trans hs)]
    obtain ⟨hgetx, hopens, hntu, hst, hdrop, hhalt, hmode, hmsu⟩ := Dev.unexpectedClosure_effect (hcon.trans hs) haux
    have hcony : d.con (otherOutlet x) = s.dev.con y := congrArg Contactor.state hy
    generalize d.unexpectedClosure x = t at hgetx hopens hntu hst hdrop hhalt hmode hmsu ⊢
    rw [hcony, hx] at hgetx
    rw [hy] at hopens
    subst hd
    exact ⟨hgetx, hopens, hntu, hst, hdrop, hhalt, hmode, hmsu⟩

end Sys2Proof.Machine

/-! # The one annex of a bulletin (O24; R104, R123, R124, R161, R170, R171, Table 12-6) -/

/-! ### The annex in the bulletin (Tables 12-2, 12-6) -/

namespace Sys2Proof.Machine

theorem Dev.bulletin_code (d : Dev) (a : Annex) : byteAt (d.bulletin a) 2 = a.code := rfl

/-- Table 12-2: the annex stands behind the 24 bytes of the header and the CELL body. -/
theorem Dev.bulletin_split (d : Dev) (a : Annex) :
    ∃ front back : List Byte, front.length = 24 ∧ d.bulletin a = front ++ (a.bytes ++ back) := by
  refine ⟨[BitVec.ofNat 8 d.cfg.station, 1, a.code, outletCode d.hoc.assignment] ++ padTo 20 d.cellBody, ?back, ?front, ?split⟩
  case split =>
    simp only [Dev.bulletin, withCrc16, padTo, List.append_assoc]
    rfl
  case front => simp [padTo_of_length d.cellBody_length, d.cellBody_length]

theorem Dev.byteAt_bulletin (d : Dev) (a : Annex) {i : Nat} (hi : i < a.bytes.length) :
    byteAt (d.bulletin a) (24 + i) = byteAt a.bytes i := by
  obtain ⟨front, back, hfront, hsplit⟩ := d.bulletin_split a
  rw [byteAt, byteAt, hsplit, List.getD_append_right _ _ _ _ (by omega), hfront, Nat.add_sub_cancel_left,
    List.getD_append _ _ _ _ hi]

theorem Dev.bulletin_annex_head (d : Dev) {a : Annex} {x : Byte} {l : List Byte} (h : a.bytes = x :: l) :
    byteAt (d.bulletin a) 24 = x := by
  rw [d.byteAt_bulletin a (i := 0) (by simp [h]), h]
  rfl

/-! ### The collection job after a grant (R160, R161) -/

/-- R160: the slot that a read finds bad is a held one. -/
theorem Rst.mem_slots_of_readOnce_bad {r : Rst} {n : Nat} {h : HeldSlot} (hb : r.readOnce n = .bad h) : h ∈ r.slots := by
  have hseq {k : Nat} (hk : r.readSeq k = .bad h) : h ∈ r.slots := by
    unfold Rst.readSeq at hk
    split at hk
    · next g hg =>
      split at hk
      · cases hk
      · cases hk
        exact List.mem_of_find?_eq_some hg
    · cases hk
  unfold Rst.readOnce at hb
  split at hb
  · split at hb
    · cases hb
    · split at hb
      · cases hb
      · exact hseq hb
  · cases hb
  · exact hseq hb

theorem Rst.length_dropSlot_lt {r : Rst} {h : HeldSlot} (hm : h ∈ r.slots) : (r.dropSlot h).slots.length < r.slots.length :=
  List.length_filter_lt_length_iff_exists.2 ⟨h, hm, by simp⟩

/-- R160: each bad slot met leaves one held slot fewer, so a read ends with a ready item. -/
theorem Dev.readLoop_ready {n : Nat} (j : Job) {d : Dev} (h : d.rst.slots.length < n) :
    ∃ i next, (Dev.readLoop n j d).rst.job = some { j with ready := some i, next := next } := by
  induction n generalizing d with
  | zero => exact absurd h (Nat.not_lt_zero _)
  | succ n ih =>
    simp only [Dev.readLoop]
    split
    · next i next _ => exact ⟨i, next, rfl⟩
    · next g hg =>
      have hfewer := Rst.length_dropSlot_lt (Rst.mem_slots_of_readOnce_bad hg)
      exact ih (d := (d.setRst (d.rst.dropSlot g)).raise .badRecord) (by simp; omega)

theorem Dev.collectionRead_ready {d : Dev} {j : Job} (hj : d.rst.job = some j) (hr : j.ready = none) :
    ∃ i next, d.collectionRead.rst.job = some { j with ready := some i, next := next } := by
  simp only [Dev.collectionRead, hj, hr, Option.isSome_none, Bool.false_eq_true, if_false]
  exact Dev.readLoop_ready j (Nat.lt_succ_self _)

theorem Rst.startProgram_job (r : Rst) : r.startProgram.job = r.job := by
  simp only [Rst.startProgram]
  (repeat' split) <;> rfl

/-- R153: erase, pre-erase and program leave the collection job. -/
theorem Dev.engineWork_job (d : Dev) : d.engineWork.rst.job = d.rst.job := by
  simp only [Dev.engineWork]
  (repeat' split) <;> simp [Rst.startProgram_job]

theorem Dev.engineChoice_of_idle {d : Dev} (h : d.rst.engine = .idle) : d.engineChoice = d.collectionRead.engineWork := if_pos h

/-- R161: a job left open without a ready item reads again once the engine is IDLE. -/
theorem Dev.engineChoice_reads (d : Dev) {j : Job} (hr : j.ready = none) :
    let t := (d.setRst { d.rst with job := some j }).engineChoice
    (d.rst.engine ≠ .idle → t.rst = { d.rst with job := some j }) ∧
      (d.rst.engine = .idle →
        ∃ g, t.rst.job = some g ∧ g.requester = j.requester ∧ g.remaining = j.remaining ∧ g.ready ≠ none) := by
  intro t
  refine ⟨fun hbusy => ?_, fun hidle => ?_⟩
  · have ht : t = d.setRst { d.rst with job := some j } := Dev.engineChoice_of_stuck (.inl hbusy)
    rw [ht]
    rfl
  · obtain ⟨i, next, hjob⟩ := Dev.collectionRead_ready (d := d.setRst { d.rst with job := some j }) rfl hr
    have ht : t = (d.setRst { d.rst with job := some j }).collectionRead.engineWork := Dev.engineChoice_of_idle hidle
    rw [ht, Dev.engineWork_job, hjob]
    exact ⟨_, rfl, rfl, rfl, nofun⟩

section
variable {d : Dev} {j : Job} (hj : d.rst.job = some j)
include hj

theorem Dev.itemGranted_of_gone {o : Nat} (hr : j.ready = some (.gone o)) :
    d.itemGranted = (d.setRst { d.rst with job := some { j with ready := none } }).engineChoice := by
  simp only [Dev.itemGranted, hj, hr]

theorem Dev.itemGranted_of_finish {n : Nat} (hr : j.ready = some (.finish n)) :
    d.itemGranted = d.setRst { d.rst with job := none } := by
  simp only [Dev.itemGranted, hj, hr]

theorem Dev.itemGranted_of_record {i : List Byte} (hr : j.ready = some (.record i)) :
    d.itemGranted =
      if j.remaining ≤ 1 then d.setRst { d.rst with job := none }
      else (d.setRst { d.rst with job := some { j with ready := none, remaining := j.remaining - 1 } }).engineChoice := by
  simp only [Dev.itemGranted, hj, hr]

end

/-! ### The order of grants (R170) -/

section
variable {d : Dev}

/-- R104, R123, R124: what a lead announces for its outlet. -/
theorem Dev.outletAnnex_of_lead {x : Outlet} (hx : d.hoc.assignment = some x) (hl : d.hoc.lead = true) :
    (d.hoc.state = .matching → d.syn.ship.state = .met → d.outletAnnex = some (.permit x d.syn.ship.latest)) ∧
      (d.hoc.state = .releaseWait → ∃ id, d.outletAnnex = some (.openRequest x id)) ∧
      (d.hoc.state = .island ∨ d.hoc.state = .departWait → d.hoc.shedDue ≠ none → ∃ e, d.outletAnnex = some (.shed x e)) := by
  refine ⟨fun hs hm => ?_, fun hs => ?_, fun hs hd => ?_⟩
  · simp [Dev.outletAnnex, hx, hl, hs, hm]
  · simp [Dev.outletAnnex, hx, hl, hs]
  · obtain ⟨e, he⟩ := Option.ne_none_iff_exists'.1 hd
    rcases hs with hs | hs <;> simp [Dev.outletAnnex, hx, hl, hs, he]

/-- A cell with nothing to announce for its outlet has no outlet annex due. -/
theorem Dev.outletAnnex_eq_none (h : ¬d.announces) : d.outletAnnex = none := by
  unfold Dev.outletAnnex
  split
  · rfl
  next x hx =>
  split
  · next hl =>
    have hdue (hs : (d.hoc.state = .matching ∧ d.syn.ship.state = .met) ∨ d.hoc.state = .releaseWait ∨
        ((d.hoc.state = .island ∨ d.hoc.state = .departWait) ∧ d.hoc.shedDue ≠ none)) : False :=
      h ⟨by simp [hx], hl, hs⟩
    split
    · next hs => exact if_neg fun hm => hdue (.inl ⟨hs, hm⟩)
    · next hs => exact (hdue (.inr (.inl hs))).elim
    · next hs => rw [by_contra fun hd => hdue (.inr (.inr ⟨.inl hs, hd⟩)), Option.map_none]
    · next hs => rw [by_contra fun hd => hdue (.inr (.inr ⟨.inr hs, hd⟩)), Option.map_none]
    · rfl
  · rfl

theorem Ntu.filledHead_of_nil {n : Ntu} (h : n.replies = []) : n.filledHead = none := by simp [Ntu.filledHead, h]

theorem Ntu.noticeAnnex_of_nil {n : Ntu} (h : n.queue = []) : n.noticeAnnex = none := by simp [Ntu.noticeAnnex, h]

theorem Dev.grant_of_outletAnnex {a : Annex} (h : d.outletAnnex = some a) : d.grant = (a, d) := by
  simp only [Dev.grant, h]

section
variable (ho : d.outletAnnex = none)
include ho

theorem Dev.grant_of_reply {p : ReplyPlace} {ps : List ReplyPlace} (hp : d.ntu.replies = p :: ps) (hr : p.result ≠ none) :
    d.grant = (.reply p, d.setNtu { d.ntu with replies := ps }) := by
  have hhead : d.ntu.filledHead = some p := by simp [Ntu.filledHead, hp, Option.isSome_iff_ne_none, hr]
  simp only [Dev.grant, ho, hhead, hp, List.tail_cons]

variable (hp : d.ntu.replies = [])
include hp

theorem Dev.grant_of_notice {k : NoticeKind} {ks : List NoticeKind} (hq : d.ntu.queue = k :: ks) :
    d.grant = (.notice k (d.ntu.entry k), d.setNtu { d.ntu with queue := ks }) := by
  have hnotice : d.ntu.noticeAnnex = some (.notice k (d.ntu.entry k)) := by simp [Ntu.noticeAnnex, hq]
  simp only [Dev.grant, ho, Ntu.filledHead_of_nil hp, hnotice, hq, List.tail_cons]

variable (hq : d.ntu.queue = [])
include hq

theorem Dev.grant_of_item {j : Job} {r : ReadyItem} (hj : d.rst.job = some j) (hr : j.ready = some r) :
    d.grant = (r.annex j.requester, d.itemGranted) := by
  have hready : d.rst.readyAnnex = some (r.annex j.requester) := by simp [Rst.readyAnnex, hj, hr]
  simp only [Dev.grant, ho, Ntu.filledHead_of_nil hp, Ntu.noticeAnnex_of_nil hq, hready]

/-- R171: METER once its spacing count has come to 8, else NONE. -/
theorem Dev.grant_of_no_item (hj : d.rst.job.bind Job.ready = none) :
    d.grant = if d.ntu.spacing = 8 then (d.mtr.annex, d.setNtu { d.ntu with spacing := 0 }) else (.none, d) := by
  have hready : d.rst.readyAnnex = none := by
    cases hjob : d.rst.job with
    | none => simp [Rst.readyAnnex, hjob]
    | some j => simpa [Rst.readyAnnex, hjob] using hj
  simp only [Dev.grant, ho, Ntu.filledHead_of_nil hp, Ntu.noticeAnnex_of_nil hq, hready]

end

theorem Dev.assemble_grants (hs : d.lnk.state = .aligned) (hk : d.cfg.station ≠ 0) :
    d.assemble.lnk.bulletinOut = some (d.bulletin d.grant.1) ∧ d.assemble.ntu = d.grant.2.ntu ∧ d.assemble.rst = d.grant.2.rst := by
  rw [Dev.assemble_eq hs hk]
  exact ⟨rfl, rfl, rfl⟩

end

/-! ### The settlement -/

/-- Settles O24: the outlet's announcements, then the two queues, the collection's ready item, METER and NONE. -/
theorem annexArbiterGrantsInOrder : Obligations.AnnexArbiterGrantsInOrder := by
  intro s h hs hk
  obtain ⟨hout, hntu, hrst⟩ := Dev.assemble_grants hs hk
  refine ⟨_, _, exec_ownBulletinAssembly_up h, hout, ?_⟩
  rw [State.onDev_dev, hntu, hrst]
  refine ⟨fun x hx hl => ?_, fun hnone => ?_⟩
  · have hannounced {a : Annex} {l : List Byte} (ha : s.dev.outletAnnex = some a) (hb : a.bytes = outletCode (some x) :: l) :
        byteAt (s.dev.bulletin s.dev.grant.1) 2 = a.code ∧ byteAt (s.dev.bulletin s.dev.grant.1) 24 = outletCode (some x) ∧
          s.dev.grant.2.ntu = s.dev.ntu ∧ s.dev.grant.2.rst = s.dev.rst := by
      rw [Dev.grant_of_outletAnnex ha]
      exact ⟨s.dev.bulletin_code a, s.dev.bulletin_annex_head hb, rfl, rfl⟩
    obtain ⟨hpermit, hopen, hshed⟩ := Dev.outletAnnex_of_lead hx hl
    refine ⟨fun hst hm => hannounced (hpermit hst hm) rfl, fun hst => ?_, fun hst hd => ?_⟩
    · obtain ⟨id, ha⟩ := hopen hst
      exact hannounced ha rfl
    · obtain ⟨e, ha⟩ := hshed hst hd
      exact hannounced ha rfl
  · have ho := Dev.outletAnnex_eq_none hnone
    refine ⟨fun p ps hp hr => ?_, fun k ks hp hq => ?_, fun hp hq => ⟨?_, fun hj h8 => ?_, fun hj h8 => ?_⟩⟩
    · rw [Dev.grant_of_reply ho hp hr]
      exact ⟨rfl, s.dev.byteAt_bulletin (.reply p) (i := 1) (by simp [Annex.bytes]), rfl, rfl⟩
    · rw [Dev.grant_of_notice ho hp hq]
      refine ⟨rfl, ?_, rfl, rfl⟩
      rw [s.dev.bulletin_annex_head rfl, BitVec.toNat_ofNat]
      omega
    · intro j r hj hr reads
      have hgrant := Dev.grant_of_item ho hp hq hj hr
      cases r with
      | record i =>
        simp only [reads, hgrant, Dev.itemGranted_of_record hj hr]
        refine ⟨rfl, fun hlast => by rw [if_pos hlast]; rfl, fun hmore => ?_⟩
        rw [if_neg (Nat.not_le.2 hmore)]
        exact s.dev.engineChoice_reads rfl
      | gone o =>
        simp only [reads, hgrant, Dev.itemGranted_of_gone hj hr]
        exact ⟨rfl, s.dev.engineChoice_reads rfl⟩
      | finish n =>
        simp only [hgrant, Dev.itemGranted_of_finish hj hr]
        exact ⟨rfl, rfl⟩
    · rw [Dev.grant_of_no_item ho hp hq hj, if_pos h8]
      exact ⟨rfl, rfl, rfl⟩
    · rw [Dev.grant_of_no_item ho hp hq hj, if_neg h8]
      exact ⟨rfl, rfl, rfl⟩

end Sys2Proof.Machine

/-! # START TRANSFER (O37; R90, R121, R122, R178, log entry 29) -/

/-! ### Moves of a cell that stays out of JOINING (R89, R90, R106, R122) -/

namespace Sys2Proof.Machine

/-- R106: a move writes the synthesis unit, the synchroniser and the handover controller, and nothing else. -/
theorem Dev.move_eq (d : Dev) (st : HState) :
    d.move st = { d with syu := (d.move st).syu, syn := (d.move st).syn, hoc := (d.move st).hoc } := rfl

theorem Dev.enter_of_ne_departWait (d : Dev) {st : HState} (h : st ≠ .departWait) : d.enter st = d.move st := if_neg fun hn => h hn.1

/-- R117: a move keeps the lead claim in the member states only. -/
theorem Dev.move_lead (d : Dev) (st : HState) : (d.move st).hoc.lead = (d.hoc.lead && st.isMember) := by
  simp only [Dev.move, Dev.setHoc_hoc, Hoc.enter]
  split <;> rfl

/-- R89: no move but those into and out of JOINING reaches the cell channel. -/
theorem Dev.move_cell {d : Dev} {st : HState} (hs : d.hoc.state ≠ .joining) (hst : st ≠ .joining) :
    (d.move st).syn.cell = d.syn.cell := by
  simp [Dev.move, Syn.enter, hs, hst]

/-- R90: the entry to MATCHING starts the ship channel. -/
theorem Dev.move_matching_ship {d : Dev} (hs : d.hoc.state ≠ .matching) : (d.move .matching).syn.ship = d.syn.ship.startShip := by
  simp [Dev.move, Syn.enter, hs]

/-- R122: the entry to PARALLEL_UP starts the ramp. -/
theorem Dev.move_parallelUp_ramp {d : Dev} (hs : d.hoc.state ≠ .parallelUp) :
    let t := (d.move .parallelUp).hoc
    t.progress = some 20000 ∧ t.rampAbsolute = some 300000 ∧ t.lowGen = none ∧ t.rampDone = false ∧
      t.lowestGen = d.hoc.acted.map ShipFacts.load := by
  intro t
  simp [t, Dev.move, Hoc.enter, hs, Hoc.startRamp]

/-! ### The order at its owner (R121, R178) -/

theorem exec_startTransfer {s : State} {h : OrderHead} (ht : s.dev.takes h) (code : Byte) :
    exec (.startTransfer h code) s =
      .next { s with dev := Dev.reply ((s.dev.routed .startTransfer h).stepOrder code Dev.leadTransfer) } := by
  have hrun : (s.dev.routed (Order.startTransfer code).kind h).run ≠ .shutdown := by simp [ht.1]
  refine (State.run_order ht (.startTransfer code) (by simp)).trans ?_
  simp only [Dev.decideOrder, if_neg hrun]
  rfl

/-- An accepted order whose effect stays in the synthesis unit, the synchroniser and the handover controller, replied to. -/
theorem Dev.reply_accept_of_moved {d e : Dev} {h : OrderHead} (ht : d.takes h) {k : OrderKind}
    (he : e = { d.routed k h with syu := e.syu, syn := e.syn, hoc := e.hoc }) :
    Dev.reply e.accept = { d.answered k h .accepted with syu := e.syu, syn := e.syn, hoc := e.hoc } := by
  have hmsu : e.msu = d.msu := by rw [he]; rfl
  rw [Dev.reply_accept (k := k) ht (by rw [he]), hmsu]
  rfl

section
variable {d : Dev} {code : Byte} {x : Outlet} (f : Dev → Decision)

theorem Dev.stepOrder_of_range (hc : code ≠ 1 ∧ code ≠ 2) : d.stepOrder code f = d.refuse .range := by
  simp only [Dev.stepOrder, outletOfCode_eq_none.2 hc]

variable (hx : outletOfCode code = some x)
include hx

theorem Dev.stepOrder_of_state (h : d.hoc.assignment ≠ some x ∨ d.hoc.state.isMember = false) :
    d.stepOrder code f = d.refuse .state := by
  simp only [Dev.stepOrder, hx]
  exact if_pos (h.imp_right fun hm => by rw [hm]; rfl)

/-- R121: behind the tests of outlet and state the lead takes the order, and any other member only accepts it. -/
theorem Dev.stepOrder_of_member (ha : d.hoc.assignment = some x) (hm : d.hoc.state.isMember = true) :
    d.stepOrder code f = if d.hoc.lead = true then f d else d.accept := by
  simp only [Dev.stepOrder, hx, ha, hm]
  cases d.hoc.lead <;> simp

end

/-! ### The lead's tests (R121) -/

section
variable {d : Dev} {x : Outlet} (hx : d.hoc.assignment = some x)
include hx

theorem Dev.shipMatchable_iff :
    d.shipMatchable = true ↔
      ∃ v, d.ptb.shipView x = some v ∧ v.breaker = false ∧ 1 ≤ v.generators ∧ v.shipReady = true := by
  simp only [Dev.shipMatchable, Dev.ownView_of_assigned hx]
  split
  · next hv => simp [hv]
  · next v hv => simp [hv, and_assoc]

theorem Dev.demandShort_iff :
    d.demandShort = true ↔ ∃ ses n, d.hoc.session x = some ses ∧ ses.demand = some n ∧ d.capacitySum x < n := by
  simp only [Dev.demandShort, Hoc.ownSession, hx, Option.bind_some]
  cases hs : d.hoc.session x with
  | none => simp
  | some ses => cases hn : ses.demand <;> simp [hn]

end

section
variable {d : Dev}

theorem Dev.leadTransfer_of_parallelHold (h : d.hoc.state = .parallelHold) : d.leadTransfer = (d.move .parallelUp).accept := by
  simp only [Dev.leadTransfer, h, d.enter_of_ne_departWait (st := .parallelUp) (by decide)]

theorem Dev.leadTransfer_of_onBus (h : d.hoc.state = .onBus) :
    d.leadTransfer =
      if d.shipMatchable = true then (if d.demandShort = true then d.refuse .capacity else (d.move .matching).accept)
      else d.refuse .state := by
  simp only [Dev.leadTransfer, h, d.enter_of_ne_departWait (st := .matching) (by decide)]
  cases d.shipMatchable <;> rfl

theorem Dev.leadTransfer_of_other (hp : d.hoc.state ≠ .parallelHold) (hb : d.hoc.state ≠ .onBus) :
    d.leadTransfer = d.refuse .state := by
  unfold Dev.leadTransfer
  split
  · contradiction
  · contradiction
  · rfl

end

theorem Dev.capacitySum_routed (d : Dev) (k : OrderKind) (h : OrderHead) (x : Outlet) :
    (d.routed k h).capacitySum x = d.capacitySum x := by
  simp [Dev.capacitySum, Dev.inShare, Dev.memberOf, Dev.con]

/-! ### The settlement -/

/-- Settles O37: the tests that every member makes, then the lead's answer by its state. -/
theorem startTransferMovesTheLead : Obligations.StartTransferMovesTheLead := by
  intro s h code ht answer
  obtain ⟨d, hd⟩ : ∃ d, d = s.dev.routed .startTransfer h := ⟨_, rfl⟩
  have hhoc : d.hoc = s.dev.hoc := by simp [hd]
  have hptb : d.ptb = s.dev.ptb := by simp [hd]
  have hexec := exec_startTransfer ht code
  rw [← hd] at hexec
  have hanswer {r : Result} (hr : d.stepOrder code Dev.leadTransfer = (d, r)) : answer r := by
    simp only [answer]
    rw [hexec, hr, hd]
    exact State.next_reply ht _ _
  refine ⟨fun hc => hanswer (Dev.stepOrder_of_range _ hc), fun x hx => ⟨fun hn => ?_, fun ha hm hl => ?_, fun ha hl => ?_⟩⟩
  · exact hanswer (Dev.stepOrder_of_state _ hx (by rwa [hhoc]))
  · have hmember := Dev.stepOrder_of_member (d := d) Dev.leadTransfer hx (by rw [hhoc, ha]) (by rw [hhoc, hm])
    exact hanswer (hmember.trans (if_neg (by simp [hhoc, hl])))
  · have hlead (hm : s.dev.hoc.state.isMember = true) : d.stepOrder code Dev.leadTransfer = d.leadTransfer :=
      (Dev.stepOrder_of_member (d := d) Dev.leadTransfer hx (by rw [hhoc, ha]) (by rw [hhoc, hm])).trans (if_pos (by rw [hhoc, hl]))
    have hmoved {st : HState} (hm : s.dev.hoc.state.isMember = true) (hst : d.leadTransfer = (d.move st).accept) :
        exec (.startTransfer h code) s = .next { s with dev := { s.dev.answered .startTransfer h .accepted with
          syu := (d.move st).syu, syn := (d.move st).syn, hoc := (d.move st).hoc } } := by
      rw [hexec, hlead hm, hst, Dev.reply_accept_of_moved ht (k := .startTransfer) (by rw [← hd]; exact d.move_eq st)]
    have hkept {st : HState} (hst : st.isMember = true) : (d.move st).hoc.lead = true := by rw [Dev.move_lead, hhoc, hl, hst]; rfl
    refine ⟨fun hs => ?_, fun hs => ?_, fun hm hp hb => ?_⟩
    · have hstate : d.hoc.state = .parallelHold := by rw [hhoc, hs]
      obtain ⟨hprogress, habsolute, hlow, hdone, hlowest⟩ := Dev.move_parallelUp_ramp (d := d) (by simp [hstate])
      rw [hhoc] at hlowest
      exact ⟨_, hmoved (by rw [hs]; rfl) (Dev.leadTransfer_of_parallelHold hstate), rfl, rfl, d.move_state _, hprogress, habsolute,
        hlow, hdone, hlowest, hkept rfl⟩
    · have hm : s.dev.hoc.state.isMember = true := by rw [hs]; rfl
      have hstate : d.hoc.state = .onBus := by rw [hhoc, hs]
      have hassign : d.hoc.assignment = some x := by rw [hhoc, ha]
      have honBus := Dev.leadTransfer_of_onBus hstate
      intro ready short
      have hready : d.shipMatchable = true ↔ ready := by rw [Dev.shipMatchable_iff hassign, hptb]
      have hsum : d.capacitySum x = s.dev.capacitySum x := hd ▸ s.dev.capacitySum_routed _ _ x
      have hshort : d.demandShort = true ↔ short := by rw [Dev.demandShort_iff hassign, hhoc, hsum]
      refine ⟨fun hn => ?_, fun hr hsh => ?_, fun hr hsh => ?_⟩
      · exact hanswer ((hlead hm).trans (honBus.trans (if_neg (mt hready.1 hn))))
      · exact hanswer ((hlead hm).trans (honBus.trans ((if_pos (hready.2 hr)).trans (if_pos (hshort.2 hsh)))))
      · have hship := Dev.move_matching_ship (d := d) (by simp [hstate])
        have hcell := Dev.move_cell (d := d) (st := .matching) (by simp [hstate]) (by decide)
        refine ⟨_, hmoved (st := .matching) hm (honBus.trans ((if_pos (hready.2 hr)).trans (if_neg (mt hshort.1 hsh)))), rfl, rfl,
          d.move_state _, hkept rfl, d.move_mode _, ?_⟩
        simp only [hship, hcell]
        exact ⟨rfl, rfl, rfl, rfl, by simp [hd]⟩
    · exact hanswer ((hlead hm).trans (Dev.leadTransfer_of_other (by rwa [hhoc]) (by rwa [hhoc])))

end Sys2Proof.Machine

/-! # The channel timeouts and the back-off (O48; R100, R101, R103, R112, R115, log entries 4, 19 and 63) -/

namespace Sys2Proof.Machine

theorem exec_cellChannelTimeout_up {s : State} (h : s.dev.awake) :
    exec .cellChannelTimeout s = .next (s.onDev Dev.cellTimeoutExpiry) := State.run_up h _
theorem exec_shipChannelTimeout_up {s : State} (h : s.dev.awake) :
    exec .shipChannelTimeout s = .next (s.onDev Dev.shipTimeoutExpiry) := State.run_up h _
theorem exec_backOffExpiry_up {s : State} (h : s.dev.awake) : exec .backOffExpiry s = .next (s.onDev Dev.backOffExpiry) :=
  State.run_up h _

/-! ### A timeout that is due (R100, R103) -/

/-- R88, R100: a channel whose timeout can expire. -/
def Channel.timeoutDue (c : Channel) : Prop := (c.state = .seeking ∨ c.state = .met) ∧ c.timeout ≠ none

theorem Channel.timeoutDue_iff (c : Channel) : c.timeoutDue ↔ c.running = true ∧ c.timeout.isSome = true := by
  simp [Channel.timeoutDue, Channel.running, Option.isSome_iff_ne_none]

section
variable {d : Dev}

theorem Dev.cellTimeoutExpiry_of_not_due (h : ¬d.syn.cell.timeoutDue) : d.cellTimeoutExpiry = d :=
  if_neg (mt (d.syn.cell.timeoutDue_iff).2 h)

theorem Dev.cellTimeoutExpiry_of_opened (h : d.syn.cell.timeoutDue) (ho : d.ownCon = some .opened) :
    d.cellTimeoutExpiry = d.cellTimeout := (if_pos ((d.syn.cell.timeoutDue_iff).1 h)).trans (if_pos ho)

theorem Dev.cellTimeoutExpiry_of_closing (h : d.syn.cell.timeoutDue) (hc : d.ownCon = some .closing) :
    d.cellTimeoutExpiry = d.setCellCh { d.syn.cell with timeout := none, held := true } :=
  (if_pos ((d.syn.cell.timeoutDue_iff).1 h)).trans ((if_neg (by simp [hc])).trans (if_pos hc))

theorem Dev.shipTimeoutExpiry_of_not_due (h : ¬d.syn.ship.timeoutDue) : d.shipTimeoutExpiry = d :=
  if_neg (mt (d.syn.ship.timeoutDue_iff).2 h)

end

/-! ### The ship channel through a move (R90) -/

theorem Dev.move_ship {d : Dev} {st : HState} (hs : d.hoc.state ≠ .matching) (hst : st ≠ .matching) :
    (d.move st).syn.ship = d.syn.ship := by
  simp [Dev.move, Syn.enter, hs, hst]

/-- R90: the ship channel stops where MATCHING is left. -/
theorem Dev.move_ship_of_matching {d : Dev} {st : HState} (hs : d.hoc.state = .matching) (hst : st ≠ .matching) :
    (d.move st).syn.ship = d.syn.ship.stop := by
  simp [Dev.move, Syn.enter, hs, hst]

theorem Dev.energise_ship (d : Dev) : d.energise.syn.ship = d.syn.ship := by
  rcases d.energise_cases with he | ⟨hs, -, he | he⟩ <;> rw [he]
  · exact Dev.move_ship (by simp [hs]) (by decide)
  · exact Dev.move_ship (by simp [hs]) (by decide)

/-! ### What the timeouts leave (R100, R103, R115) -/

/-- A part that differs from another in no block but the synthesis unit, the synchroniser, the handover controller and the notices. -/
theorem Dev.eq_of_frame_told {d e : Dev} (hrun : e.run = d.run) (hpins : e.pins = d.pins) (hcfg : e.cfg = d.cfg) (hlnk : e.lnk = d.lnk)
    (hptb : e.ptb = d.ptb) (hmsu : e.msu = d.msu) (hctc : e.ctc = d.ctc) (hmtr : e.mtr = d.mtr) (hrst : e.rst = d.rst)
    (hfree : e.freeIdx = d.freeIdx) : e = { d with syu := e.syu, syn := e.syn, hoc := e.hoc, ntu := e.ntu } := by
  rw [← hrun, ← hpins, ← hcfg, ← hlnk, ← hptb, ← hmsu, ← hctc, ← hmtr, ← hrst, ← hfree]

/-- The test of R112 has done nothing where the cell is in ASSIGNED behind it. -/
theorem Dev.energise_of_stays {d : Dev} (h : d.energise.hoc.state = .assigned) : d.energise = d := by
  rcases d.energise_cases with he | ⟨-, -, he | he⟩
  · exact he
  · rw [he, Dev.move_state] at h
    cases h
  · rw [he, Dev.move_state] at h
    cases h

/-- R100, R115: the attempt of a joining cell that has timed out takes it back to ASSIGNED, and no further. -/
theorem Dev.cellTimeout_eq_move {d : Dev} (h : d.hoc.state = .joining) :
    d.cellTimeout = ((d.setCellCh d.syn.cell.timedOut).raise .syncTimeout).move .assigned := by
  obtain ⟨hstate, -⟩ := Dev.cellTimeout_of_joining h
  have ht : d.cellTimeout = ((d.setCellCh d.syn.cell.timedOut).raise .syncTimeout).toAssigned := if_pos h
  rw [ht] at hstate ⊢
  exact Dev.energise_of_stays hstate

theorem Dev.cellTimeout_effect {d : Dev} (h : d.hoc.state = .joining) :
    let t := d.cellTimeout
    t = { d with syu := t.syu, syn := t.syn, hoc := t.hoc, ntu := t.ntu } ∧ t.syu.mode = .stopped ∧ t.syu.fJoin = 0 ∧
      t.syn.ship = d.syn.ship := by
  intro t
  let d1 := (d.setCellCh d.syn.cell.timedOut).raise .syncTimeout
  have hj : d1.hoc.state = .joining := h
  obtain ⟨hjoin, -⟩ := d1.move_joining_offsets (st := .assigned) (.inl ⟨hj, by decide⟩)
  have ht : t = d1.move .assigned := Dev.cellTimeout_eq_move h
  obtain ⟨hrun, hpins, hcfg, hlnk, hptb, hmsu, hctc, hmtr, hrst, hfree⟩ := d.cellTimeout_frame
  refine ⟨Dev.eq_of_frame_told hrun hpins hcfg hlnk hptb hmsu hctc hmtr hrst hfree, ?_⟩
  rw [ht]
  exact ⟨d1.move_mode _, hjoin, Dev.move_ship (by simp [hj]) (by decide)⟩

/-- R103: the ship channel's attempt times out: SYNC_TIMEOUT, the channel IDLE, and the cell back in ON_BUS at a ramp offset of 0. -/
theorem Dev.shipTimeoutExpiry_effect {d : Dev} (hd : d.syn.ship.timeoutDue) (h : d.hoc.state = .matching) :
    let t := d.shipTimeoutExpiry
    t = { d with syu := t.syu, syn := t.syn, hoc := t.hoc, ntu := t.ntu } ∧ t.hoc.state = .onBus ∧ t.hoc.lead = d.hoc.lead ∧
      t.syu.fRamp = 0 ∧ t.syn.cell = d.syn.cell ∧ t.syn.ship = d.syn.ship.stop ∧
      d.ntu.raisedTo d.cfg.enNonFatal .syncTimeout t.ntu := by
  intro t
  let d1 := (d.setShipCh d.syn.ship.stop).raise .syncTimeout
  have hm : d1.hoc.state = .matching := h
  have hlead : (d1.move .onBus).hoc.lead = d.hoc.lead := (d1.move_lead _).trans (Bool.and_true _)
  have ht : t = d1.backToOnBus := (if_pos ((d.syn.ship.timeoutDue_iff).1 hd)).trans (if_pos h)
  obtain ⟨hrun, hpins, hcfg, hlnk, hptb, hmsu, hctc, hmtr, hrst, hfree⟩ := d.shipTimeoutExpiry_frame
  refine ⟨Dev.eq_of_frame_told hrun hpins hcfg hlnk hptb hmsu hctc hmtr hrst hfree, ?_⟩
  rw [ht]
  exact ⟨d1.move_state _, hlead, rfl, Dev.move_cell (d := d1) (by simp [hm]) (by decide),
    Dev.move_ship_of_matching (d := d1) hm (by decide), Ntu.raise_raisedTo _ _ _⟩

/-! ### The back-off (R101, R112) -/

/-- The cell channel behind its back-off. -/
def Channel.backedOff (c : Channel) : Channel :=
  { c with backoff := none, state := if c.state = .backoff then .idle else c.state }

section
variable {d : Dev}

theorem Dev.backOffExpiry_of_stopped (h : d.syn.cell.backoff = none) : d.backOffExpiry = d := if_neg (by simp [h])

theorem Dev.backOffExpiry_of_running (h : d.syn.cell.backoff ≠ none) :
    d.backOffExpiry = (d.setCellCh d.syn.cell.backedOff).energise := if_pos (Option.isSome_iff_ne_none.2 h)

/-- R101, R112: the expiry reaches the synthesis unit, the synchroniser and the handover controller, and no other block. -/
theorem Dev.backedOff_energise_frame (d : Dev) :
    let t := (d.setCellCh d.syn.cell.backedOff).energise
    t = { d with syu := t.syu, syn := t.syn, hoc := t.hoc } ∧ t.syn.ship = d.syn.ship ∧ t.syn.cell.backoff = none ∧
      t.hoc.assignment = d.hoc.assignment := by
  intro t
  let d1 := d.setCellCh d.syn.cell.backedOff
  obtain ⟨hrun, hpins, hcfg, hlnk, hptb, hmsu, hctc, hmtr, hrst, hntu, hfree⟩ := d1.energise_frame
  refine ⟨?_, d1.energise_ship, ?_, d1.energise_sameTable.1⟩
  · exact (Dev.eq_of_frame (d := d) hrun hpins hcfg hlnk hptb hctc hmtr hrst hntu hfree).trans (by rw [hmsu]; rfl)
  · rcases d1.energise_cases with he | ⟨hs, hi, he | he⟩ <;> simp only [t, d1, he]
    · rfl
    · rw [Dev.move_forming_cell hs]
      rfl
    · rw [Dev.move_joining_cell hs hi]
      rfl

/-- R112: without the channel IDLE, the state ASSIGNED, the link ALIGNED or a session the expiry makes no move. -/
theorem Dev.backedOff_energise_of_barred (hi : d.syn.cell.state ≠ .idle)
    (h : d.syn.cell.state ≠ .backoff ∨ d.hoc.state ≠ .assigned ∨ d.lnk.state ≠ .aligned ∨ d.hoc.ownSession = none) :
    (d.setCellCh d.syn.cell.backedOff).energise = d.setCellCh d.syn.cell.backedOff := by
  rcases h with hb | ha | hl | hn
  · have hcell : d.syn.cell.backedOff.state = d.syn.cell.state := if_neg hb
    exact (Dev.energise_cases _).resolve_right fun ⟨_, hidle, _⟩ => hi (hcell.symm.trans hidle)
  · exact Dev.energise_of_not_assigned ha
  · exact Dev.energise_of_not_mayEnergise (by simp [Dev.mayEnergise, Dev.setCellCh, hl])
  · exact Dev.energise_of_not_mayEnergise (by simp [Dev.mayEnergise, Dev.setCellCh, hn])

/-- R89, R112: a cell that passes on into JOINING begins an attempt. -/
theorem Dev.energise_attempts (hs : d.hoc.state = .assigned) (hj : d.energise.hoc.state = .joining) :
    d.energise.syn.cell = d.syn.cell.attempt := by
  rcases d.energise_cases with he | ⟨-, hi, he | he⟩ <;> rw [he] at hj ⊢
  · exact absurd (hs.symm.trans hj) (by decide)
  · exact absurd ((d.move_state _).symm.trans hj) (by decide)
  · exact Dev.move_joining_cell hs hi

end

/-! ### The settlement -/

/-- Settles O48: what is not due, the cell channel's timeout by its contactor, the ship channel's, and the back-off with the test behind it. -/
theorem channelTimeoutsAndBackOff : Obligations.ChannelTimeoutsAndBackOff := by
  intro s h cell ship cellDue shipDue
  rw [exec_cellChannelTimeout_up h, exec_shipChannelTimeout_up h, exec_backOffExpiry_up h]
  refine ⟨fun hn => ?_, fun hn => ?_, fun hn => ?_, fun hd ho hj => ?_, fun hd hc => ?_, fun hd hm => ?_, fun hb => ?_⟩
  · rw [State.onDev_eq_self (Dev.cellTimeoutExpiry_of_not_due hn)]
  · rw [State.onDev_eq_self (Dev.shipTimeoutExpiry_of_not_due hn)]
  · rw [State.onDev_eq_self (Dev.backOffExpiry_of_stopped hn)]
  · obtain ⟨hstate, ⟨hassign, -⟩, hcell, hntu⟩ := Dev.cellTimeout_of_joining hj
    obtain ⟨heq, hmode, hjoin, hship⟩ := Dev.cellTimeout_effect hj
    refine ⟨_, rfl, rfl, ?_⟩
    rw [State.onDev_dev, Dev.cellTimeoutExpiry_of_opened hd ho]
    exact ⟨heq, hstate, hassign, hmode, hjoin, hship, hcell.trans (Channel.timedOut_eq _), hntu⟩
  · rw [State.onDev, Dev.cellTimeoutExpiry_of_closing hd hc]
    rfl
  · exact ⟨_, rfl, rfl, Dev.shipTimeoutExpiry_effect hd hm⟩
  · obtain ⟨heq, hship, hstopped, hassign⟩ := s.dev.backedOff_energise_frame
    rw [State.onDev, Dev.backOffExpiry_of_running hb]
    refine ⟨_, rfl, rfl, heq, hship, hstopped, hassign, fun hbar hi => ?_, fun _ hs => ⟨?_, fun hj => ?_⟩⟩
    · rw [Dev.backedOff_energise_of_barred hi hbar]
      rfl
    · exact Dev.energise_waits (.inl hs)
    · rw [Dev.energise_attempts (d := s.dev.setCellCh s.dev.syn.cell.backedOff) hs hj]
      exact ⟨rfl, rfl, rfl⟩

end Sys2Proof.Machine

/-! # Leaves (O34; R101, R109 to R111, log entry 27) -/

/-! ### The order that begins a leave (R109, R110) -/

namespace Sys2Proof.Machine

theorem exec_unassign {s : State} {h : OrderHead} (ht : s.dev.takes h) :
    exec (.unassign h) s = .next { s with dev := Dev.reply ((s.dev.routed .unassign h).takeLeave none) } := by
  have hrun : (s.dev.routed Order.unassign.kind h).run ≠ .shutdown := by simp [ht.1]
  refine (State.run_order ht .unassign (by simp)).trans ?_
  simp only [Dev.decideOrder, if_neg hrun]
  rfl

/-- R109, R110: a command that has a cell leave its outlet: UNASSIGN, or ASSIGN to the other outlet behind the tests of R109. -/
def Dev.leavesBy (d : Dev) (h : OrderHead) (x : Outlet) (c : Instr) (k : OrderKind) (dest : Option Outlet) : Prop :=
  (c = .unassign h ∧ k = .unassign ∧ dest = none) ∨
    (∃ code, c = .assign h code ∧ k = .assign ∧ outletOfCode code = some (otherOutlet x) ∧ dest = some (otherOutlet x) ∧
      d.cfg.configBad = false ∧ d.con .a ≠ .welded ∧ d.con .b ≠ .welded)

theorem Dev.takeLeave_of_leaving {d : Dev} (h : d.hoc.state = .leaving) (dest : Option Outlet) :
    d.takeLeave dest = (d.redirect dest).accept := by simp only [Dev.takeLeave, h]

/-- R109: ASSIGN to another outlet than the assigned one is a leave to it. -/
theorem Dev.assignTo_of_other {d : Dev} {x : Outlet} (h : d.hoc.assignment ≠ some x) : d.assignTo x = d.takeLeave (some x) := by
  by_cases hl : d.hoc.state = .leaving
  · rw [Dev.assignTo_of_leaving hl, Dev.takeLeave_of_leaving hl]
  · exact (if_neg hl).trans (if_neg h)

section
variable {s : State} {h : OrderHead} {x : Outlet} {c : Instr} {k : OrderKind} {dest : Option Outlet}

theorem Dev.leavesBy.dest_ne (hc : s.dev.leavesBy h x c k dest) : dest ≠ some x := by
  rcases hc with ⟨-, -, rfl⟩ | ⟨_, -, -, -, rfl, -⟩
  · nofun
  · simpa using otherOutlet_ne x

/-- Either command takes the leave of R110, but that TRIPPED refuses an ASSIGN. -/
theorem Dev.leavesBy.exec_eq (hc : s.dev.leavesBy h x c k dest) (ht : s.dev.takes h) (hx : s.dev.hoc.assignment = some x)
    (hs : s.dev.hoc.state = .tripped → dest = none) :
    exec c s = .next { s with dev := Dev.reply ((s.dev.routed k h).takeLeave dest) } := by
  have hne := hc.dest_ne
  rcases hc with ⟨rfl, rfl, rfl⟩ | ⟨code, rfl, rfl, hcode, rfl, hbad, ha, hb⟩
  · exact exec_unassign ht
  · have hhoc : (s.dev.routed .assign h).hoc = s.dev.hoc := by simp
    have hcfg : (s.dev.routed .assign h).cfg = s.dev.cfg := by simp
    have hcon (y : Outlet) : (s.dev.routed .assign h).con y = s.dev.con y := by simp [Dev.con]
    have hnot : (s.dev.routed .assign h).hoc.state ≠ .tripped := by
      rw [hhoc]
      exact fun hy => by cases hs hy
    rw [exec_assign ht, Dev.assign_of_tested hcode (hcfg ▸ hbad) (by rwa [hcon]) (by rwa [hcon]), if_neg hnot,
      Dev.assignTo_of_other (by rw [hhoc, hx]; exact hne.symm)]

end

/-! ### The answer to an order that reaches the meter or the contactors (R55, R169) -/

/-- R169: the reply place is filled behind the effect, and no other block is written. -/
theorem Dev.reply_accept_answered {d e : Dev} {h : OrderHead} (ht : d.takes h) {k : OrderKind} (hlnk : e.lnk = (d.routed k h).lnk)
    (hr : e.ntu.replies = (d.routed k h).ntu.replies) :
    (Dev.reply e.accept).lnk = (d.answered k h .accepted).lnk ∧
      (Dev.reply e.accept).ntu.replies = (d.answered k h .accepted).ntu.replies := by
  refine ⟨hlnk, ?_⟩
  have hfill := congrArg Ntu.replies (Ntu.fill_taken ht.2.2.2.2 k h .accepted)
  exact (congrArg (fillPlaces .accepted) hr).trans hfill

/-! ### A leave without a loaded outlet: the contactor and the destination (R77, R101, R110, R111) -/

theorem Ctc.set_get (c : Ctc) (x : Outlet) : c.set x (c.get x) = c := by cases x <;> rfl

/-- R77: one record after an open request, and the other as it was. -/
theorem Ctc.openRequested_at {c t : Ctc} {x : Outlet} {w : Nat} (h : t = c.set x ((c.get x).openRequested w)) :
    (c.get x).openRequestedFrom w (t.get x) ∧ t.get (otherOutlet x) = c.get (otherOutlet x) := by
  rw [h, Ctc.get_set_same, Ctc.get_set_other]
  exact ⟨(c.get x).openRequested_from w, rfl⟩

section
variable {d : Dev} {x : Outlet}

theorem Dev.setCon_get (d : Dev) (x : Outlet) : d.setCon x (d.ctc.get x) = d := by
  rw [Dev.setCon, Ctc.set_get]
  rfl

theorem Contactor.openRequested_of_still {c : Contactor} (h : c.state ≠ .closing) (hc : c.state ≠ .closed) (w : Nat) :
    c.openRequested w = c := by
  unfold Contactor.openRequested
  split
  · contradiction
  · contradiction
  all_goals rfl

variable (hx : d.hoc.assignment = some x)
include hx

theorem Dev.openOwn_of_assigned : d.openOwn = d.openRequest x .handover := by simp only [Dev.openOwn, hx]

/-- R77: an open request to the assigned contactor, other than a CLOSED one, is no change that any block takes. -/
theorem Dev.openRequest_of_not_closed (hc : d.con x ≠ .closed) (o : Origin) :
    d.openRequest x o = d.setCon x ((d.ctc.get x).openRequested d.cfg.openPulse) := by
  by_cases hclosing : d.con x = .closing
  · let c := (d.ctc.get x).openRequested d.cfg.openPulse
    have hopening : c.state = .opening := by
      simp only [c, Contactor.openRequested, show (d.ctc.get x).state = .closing from hclosing]
      rfl
    have hcon : (d.setCon x c).con x = .opening := (d.con_setCon_same x c).trans hopening
    have hchange : d.openRequest x o = (d.setCon x c).conChanged x .closing o := congrArg ((d.setCon x c).conChanged x · o) hclosing
    rw [hchange, Dev.conChanged_of_assigned (d := d.setCon x c) hx (by simp [hcon]) (by decide), hcon]
    simp [Dev.assignedChanged, c]
  · have hstill := Contactor.openRequested_of_still (c := d.ctc.get x) hclosing hc d.cfg.openPulse
    rw [Dev.openRequest, hstill, Dev.changeCon, d.setCon_get x]
    exact if_pos rfl

/-- R109, R110: a close in flight is abandoned. -/
theorem Dev.abandonClose_eq (hc : d.con x ≠ .closed) :
    d.abandonClose = d.setCon x ((d.ctc.get x).openRequested d.cfg.openPulse) := by
  have hown : d.ownCon = some (d.con x) := by rw [Dev.ownCon, hx, Option.map_some]
  by_cases hclosing : d.con x = .closing
  · have habandon : d.abandonClose = d.openOwn := if_pos (by rw [hown, hclosing])
    rw [habandon, Dev.openOwn_of_assigned hx, Dev.openRequest_of_not_closed hx hc]
  · have habandon : d.abandonClose = d := if_neg (by simpa [hown] using hclosing)
    rw [habandon, Contactor.openRequested_of_still (c := d.ctc.get x) hclosing hc, d.setCon_get x]

/-- R32, R116, R132: in LEAVING the open request to the CLOSED contactor ends the membership and the join age. -/
theorem Dev.openRequest_of_leaving (hl : d.hoc.state = .leaving) (hc : d.con x = .closed) (o : Origin) :
    d.openRequest x o =
      ((d.setCon x ((d.ctc.get x).openRequested d.cfg.openPulse)).leftClosed o).setHoc
        { d.hoc with joinAge := 0, joinTicks := 0, lead := false, leadCount := 0 } := by
  let c := (d.ctc.get x).openRequested d.cfg.openPulse
  let e := (d.setCon x c).leftClosed o
  have hopening : c.state = .opening := by
    simp only [c, Contactor.openRequested, show (d.ctc.get x).state = .closed from hc]
    rfl
  have hcon : (d.setCon x c).con x = .opening := (d.con_setCon_same x c).trans hopening
  have hehoc : e.hoc = d.hoc := by simp [e]
  have hchange : d.openRequest x o = (d.setCon x c).conChanged x .closed o := congrArg ((d.setCon x c).conChanged x · o) hc
  have hassign : (d.setCon x c).hoc.assignment = some x := hx
  have hleft : e.assignedLeftClosed = e.setHoc { e.hoc with joinAge := 0, joinTicks := 0, lead := false, leadCount := 0 } :=
    if_neg (by simp [hehoc, hl, HState.isMember])
  rw [hchange, Dev.conChanged, if_neg (by simp [hcon]), if_pos hassign, if_pos rfl, hcon]
  rw [hehoc] at hleft
  simpa [Dev.assignedChanged] using hleft

end

/-- R109 to R111: the destination of a leave applied, where it is another than the assignment. Behind the change the bus condition is UNCERTAIN,
so the test of R112 moves nothing yet. -/
theorem Dev.applyDestination_of_ne {d : Dev} {dest : Option Outlet} (h : d.hoc.assignment ≠ dest) :
    d.applyDestination dest = (d.move (if dest = none then .off else .assigned)).reassign dest := by
  cases dest with
  | none => rfl
  | some x =>
    have hne : (d.move .assigned).hoc.assignment ≠ some x := by rwa [(d.move_sameTable .assigned).1]
    obtain ⟨-, hmsu, -⟩ := Dev.reassign_of_ne hne
    exact Dev.energise_of_uncertain (by rw [hmsu]; rfl)

theorem Dev.applyDestination_effect {d : Dev} {dest : Option Outlet} (h : d.hoc.assignment ≠ dest) :
    let t := d.applyDestination dest
    t.hoc.assignment = dest ∧ t.hoc.state = (if dest = none then .off else .assigned) ∧ t.hoc.forming = false ∧ t.hoc.lead = false ∧
      t.msu = d.msu.reassigned ∧ t.syn.cell.state = .idle ∧ t.syn.cell.attempts = 0 := by
  intro t
  generalize hst : (if dest = none then HState.off else .assigned) = st
  have hrest : st ≠ .forming ∧ st.isMember = false := by
    rw [← hst]
    split <;> decide
  have ht : t = (d.move st).reassign dest := by rw [← hst]; exact Dev.applyDestination_of_ne h
  have hne : (d.move st).hoc.assignment ≠ dest := by rwa [(d.move_sameTable st).1]
  obtain ⟨hhoc, hmsu, hcell⟩ := Dev.reassign_of_ne hne
  rw [ht, hhoc, hmsu, hcell]
  exact ⟨rfl, d.move_state st, (d.move_forming_claim hrest.1).1, (d.move_lead st).trans (by rw [hrest.2, Bool.and_false]), by simp,
    rfl, rfl⟩

/-- R101, R109, R110: a cell that is not yet a member leaves at once, with a close in flight abandoned. -/
theorem Dev.abandonClose_leaves {d : Dev} {x : Outlet} {dest : Option Outlet} (hx : d.hoc.assignment = some x) (hne : dest ≠ some x)
    (hc : d.con x ≠ .closed) :
    let t := d.abandonClose.applyDestination dest
    t.hoc.assignment = dest ∧ t.hoc.state = (if dest = none then .off else .assigned) ∧ t.hoc.forming = false ∧ t.hoc.lead = false ∧
      t.ctc = d.ctc.set x ((d.ctc.get x).openRequested d.cfg.openPulse) ∧ t.msu = d.msu.reassigned ∧ t.syn.cell.state = .idle ∧
      t.syn.cell.attempts = 0 ∧ t.cfg = d.cfg ∧ t.lnk = d.lnk ∧ t.ptb = d.ptb ∧ t.rst = d.rst ∧ t.ntu = d.ntu := by
  intro t
  let e := d.setCon x ((d.ctc.get x).openRequested d.cfg.openPulse)
  have hex : e.hoc.assignment ≠ dest := fun hy => hne (hy.symm.trans hx)
  have ht : t = e.applyDestination dest := congrArg (Dev.applyDestination dest) (Dev.abandonClose_eq hx hc)
  obtain ⟨hassign, hstate, hforming, hlead, hmsu, hidle, hattempts⟩ := Dev.applyDestination_effect hex
  obtain ⟨-, -, hcfg, hlnk, hptb, hctc, -, hrst, hntu, -⟩ := e.applyDestination_frame dest
  rw [ht]
  exact ⟨hassign, hstate, hforming, hlead, hctc, hmsu, hidle, hattempts, hcfg, hlnk, hptb, hrst, hntu⟩

/-! ### The entry to LEAVING (R111) -/

theorem Dev.enterLeaving_effect (d : Dev) (dest : Option Outlet) :
    let t := d.enterLeaving dest
    t = { d with syu := t.syu, syn := t.syn, hoc := t.hoc } ∧ t.hoc.state = .leaving ∧ t.hoc.assignment = d.hoc.assignment ∧
      t.hoc.leave = some ⟨dest, d.hoc.state⟩ ∧ t.hoc.leaveStall = some 30000 ∧ t.hoc.lead = false ∧ t.syu.mode = .parallel :=
  ⟨rfl, d.move_state .leaving, (d.move_sameTable .leaving).1, rfl, rfl, (d.move_lead .leaving).trans (Bool.and_false _),
    d.move_mode .leaving⟩

/-- R110, R111: a cell whose outlet carries no ship load leaves with the open request at once. -/
theorem Dev.enterLeaving_opens {d : Dev} {x : Outlet} (hx : d.hoc.assignment = some x) (dest : Option Outlet) :
    let t := (d.enterLeaving dest).openOwn
    t.hoc.state = .leaving ∧ t.hoc.assignment = some x ∧ t.hoc.leave = some ⟨dest, d.hoc.state⟩ ∧ t.hoc.leaveStall = some 30000 ∧
      t.hoc.lead = false ∧ t.ctc = d.ctc.set x ((d.ctc.get x).openRequested d.cfg.openPulse) ∧
      (d.con x = .closed → t.mtr.membership = none) ∧ t.msu = d.msu := by
  intro t
  let e := d.enterLeaving dest
  obtain ⟨-, hstate, hassign, hleave, hstall, hlead, -⟩ := d.enterLeaving_effect dest
  have hex : e.hoc.assignment = some x := hassign.trans hx
  have ht : t = e.openRequest x .handover := Dev.openOwn_of_assigned hex
  have hctc : t.ctc = d.ctc.set x ((d.ctc.get x).openRequested d.cfg.openPulse) := by rw [ht, Dev.openRequest_ctc]; simp [e]
  have hcon : e.con x = d.con x := by simp [e, Dev.con]
  by_cases hc : d.con x = .closed
  · obtain ⟨hnone, -⟩ := (e.setCon x ((e.ctc.get x).openRequested e.cfg.openPulse)).leftClosed_records .handover
    have hopen := Dev.openRequest_of_leaving hex hstate (hcon.trans hc) .handover
    rw [← ht] at hopen
    have hmsu : t.msu = d.msu := by rw [hopen]; simp [e]
    refine ⟨?_, ?_, ?_, ?_, ?_, hctc, fun _ => ?_, hmsu⟩ <;> rw [hopen]
    · exact hstate
    · exact hex
    · exact hleave
    · exact hstall
    · rfl
    · exact hnone
  · rw [Dev.openRequest_of_not_closed hex (by rwa [hcon])] at ht
    have hmsu : t.msu = d.msu := by rw [ht]; simp [e]
    refine ⟨?_, ?_, ?_, ?_, ?_, hctc, fun h => absurd h hc, hmsu⟩ <;> rw [ht]
    · exact hstate
    · exact hex
    · exact hleave
    · exact hstall
    · exact hlead

/-! ### The leave by handover state (R110) -/

section
variable {d : Dev} (dest : Option Outlet)

theorem Dev.takeLeave_of_waits (h : d.hoc.state.waits) : d.takeLeave dest = (d.abandonClose.applyDestination dest).accept := by
  rcases h with h | h | h <;> simp only [Dev.takeLeave, h]

theorem Dev.takeLeave_of_unloaded (h : d.hoc.state = .onBus ∨ d.hoc.state = .matching) :
    d.takeLeave dest = (d.enterLeaving dest).openOwn.accept := by
  rcases h with h | h <;> simp only [Dev.takeLeave, h]

theorem Dev.takeLeave_of_tripped (h : d.hoc.state = .tripped) : d.takeLeave dest = (d.reassign dest).accept := by
  simp only [Dev.takeLeave, h]

theorem Dev.takeLeave_of_off (h : d.hoc.state = .off) : d.takeLeave dest = (d.applyDestination dest).accept := by
  simp only [Dev.takeLeave, h]

theorem Dev.takeLeave_of_loaded (h : d.hoc.state.isLoaded = true) : d.takeLeave dest = d.leaveLoaded dest := by
  unfold Dev.takeLeave
  cases hs : d.hoc.state with
  | parallelUp | parallelHold | island | departWait | parallelDown | releaseWait => rfl
  | off | assigned | forming | joining | onBus | matching | leaving | tripped => simp [hs, HState.isLoaded] at h

variable {x : Outlet} (hx : d.hoc.assignment = some x)
include hx

/-- R110: the permission to leave a loaded outlet. -/
theorem Dev.leaveLoaded_eq :
    d.leaveLoaded dest =
      if d.ptb.members x = [] ∧ d.breakerClosed = true then d.refuse .state
      else if (d.capacitySum x - d.cfg.rating) * 10 < d.outletTotal x * 11 then d.refuse .capacity
      else (d.enterLeaving dest).accept := by
  simp [Dev.leaveLoaded, Dev.onlyMember, Dev.leaveShort, hx]

end

/-- R66: the sums over an outlet are none of the order path's. -/
theorem Dev.outletTotal_routed (d : Dev) (k : OrderKind) (h : OrderHead) (x : Outlet) :
    (d.routed k h).outletTotal x = d.outletTotal x := by
  simp [Dev.outletTotal, Dev.memberOf, Dev.con]

theorem Dev.breakerClosed_routed (d : Dev) (k : OrderKind) (h : OrderHead) : (d.routed k h).breakerClosed = d.breakerClosed := by
  simp [Dev.breakerClosed, Dev.ownView]

/-! ### The settlement -/

/-- Settles O34: OFF without an assignment, then the leave of an assigned cell by its handover state. -/
theorem leaveIsTakenByTheHandoverState : Obligations.LeaveIsTakenByTheHandoverState := by
  intro s h ht
  refine ⟨fun hs hn => ?_, fun x c k dest hx hc => ?_⟩
  · obtain ⟨d, hd⟩ : ∃ d, d = s.dev.routed .unassign h := ⟨_, rfl⟩
    have hhoc : d.hoc = s.dev.hoc := by simp [hd]
    have hassign : (d.move .off).hoc.assignment = none := (d.move_sameTable .off).1.trans (by rw [hhoc, hn])
    have hstays : d.applyDestination none = d.move .off := if_pos hassign
    rw [exec_unassign ht, ← hd, Dev.takeLeave_of_off _ (by rw [hhoc, hs]), hstays,
      Dev.reply_accept_of_moved ht (k := .unassign) (by rw [← hd]; exact d.move_eq .off)]
    exact ⟨_, rfl, rfl, d.move_state _, hassign, rfl⟩
  · replace hc : s.dev.leavesBy h x c k dest := hc
    have hne := hc.dest_ne
    have hexec := hc.exec_eq ht hx
    obtain ⟨d, hd⟩ : ∃ d, d = s.dev.routed k h := ⟨_, rfl⟩
    rw [← hd] at hexec
    have hhoc : d.hoc = s.dev.hoc := by simp [hd]
    have hcfg : d.cfg = s.dev.cfg := by simp [hd]
    have hptb : d.ptb = s.dev.ptb := by simp [hd]
    have hctc : d.ctc = s.dev.ctc := by simp [hd]
    have hcon : d.con x = s.dev.con x := by rw [Dev.con, Dev.con, hctc]
    have hdx : d.hoc.assignment = some x := by rw [hhoc, hx]
    refine ⟨fun hs => ?_, fun hs hnc => ?_, fun hs => ?_, ?_, fun hs hdest => ?_⟩
    · rw [hexec (by simp [hs]), Dev.takeLeave_of_leaving (by rw [hhoc, hs])]
      subst hd
      rw [Dev.reply_accept (k := k) ht rfl]
      rfl
    · obtain ⟨hassign, hstate, hforming, hlead, hectc, hmsu, hidle, hattempts, hecfg, helnk, heptb, herst, hentu⟩ :=
        Dev.abandonClose_leaves hdx hne (by rwa [hcon])
      obtain ⟨hopen, hother⟩ := Ctc.openRequested_at hectc
      obtain ⟨hlnk, hreplies⟩ := Dev.reply_accept_answered (e := d.abandonClose.applyDestination dest) ht (k := k) (by rw [helnk, hd])
        (by rw [hentu, hd])
      rw [hctc, hcfg] at hopen
      rw [hctc] at hother
      rw [hexec (by rcases hs with hs | hs | hs <;> simp [hs]), Dev.takeLeave_of_waits _ (by rwa [hhoc])]
      exact ⟨_, rfl, rfl, hassign, hstate, hforming, hlead, hopen, hother, congrArg Msu.busCond hmsu, congrArg Msu.bus hmsu, hidle,
        hattempts, hlnk, hreplies, hecfg.trans hcfg, heptb.trans hptb, herst.trans (by simp [hd])⟩
    · let e := (d.enterLeaving dest).openOwn
      obtain ⟨hstate, hassign, hleave, hstall, hlead, hectc, hgone, hmsu⟩ := Dev.enterLeaving_opens hdx dest
      obtain ⟨hopen, hother⟩ := Ctc.openRequested_at hectc
      obtain ⟨hlnk, hreplies⟩ := Dev.reply_accept_answered (e := e) ht (k := k) (by simp [e, hd]) (by simp [e, hd])
      rw [hctc, hcfg] at hopen
      rw [hctc] at hother
      rw [hhoc] at hleave
      rw [hcon] at hgone
      rw [hexec (by rcases hs with hs | hs <;> simp [hs]), Dev.takeLeave_of_unloaded _ (by rwa [hhoc])]
      exact ⟨_, rfl, rfl, hstate, hassign, hleave, hstall, hlead, hopen, hother, hgone, hlnk, hreplies, by simp [Dev.reply, Dev.accept, hcfg],
        by simp [Dev.reply, Dev.accept, hptb], hmsu.trans (by simp [hd]), by simp [Dev.reply, Dev.accept, hd]⟩
    · intro hs alone short
      have hleave := Dev.leaveLoaded_eq dest hdx
      rw [hptb, hcfg, hd, Dev.breakerClosed_routed, Dev.capacitySum_routed, Dev.outletTotal_routed, ← hd] at hleave
      have hloaded := hexec (by intro hy; rw [hy] at hs; cases hs)
      rw [Dev.takeLeave_of_loaded _ (by rwa [hhoc]), hleave] at hloaded
      refine ⟨fun ha => ?_, fun ha hsh => ?_, fun ha hsh => ?_⟩
      · rw [hloaded, if_pos ha, hd]
        exact State.next_reply ht _ _
      · rw [hloaded, if_neg ha, if_pos hsh, hd]
        exact State.next_reply ht _ _
      · obtain ⟨heq, hstate, hassign, hto, hstall, hlead, hmode⟩ := d.enterLeaving_effect dest
        rw [hloaded, if_neg ha, if_neg hsh, Dev.reply_accept_of_moved ht (k := k) (by rw [← hd]; exact heq)]
        rw [hhoc] at hto
        exact ⟨_, rfl, rfl, rfl, hstate, hassign.trans hdx, hto, hstall, hlead, hmode⟩
    · subst hdest
      obtain ⟨hrhoc, -⟩ := Dev.reassign_of_ne (d := d) (x := none) (by simp [hdx])
      obtain ⟨hrun, hpins, hrcfg, hlnk, hrptb, hsyu, hrctc, hmtr, hrst, hntu, hfree⟩ := d.reassign_frame none
      rw [hexec (fun _ => rfl), Dev.takeLeave_of_tripped _ (by rw [hhoc, hs]),
        Dev.reply_accept ht (k := k) (by rw [← hd]; exact Dev.eq_of_frame hrun hpins hrcfg hlnk hrptb hrctc hmtr hrst hntu hfree),
        hrhoc, hsyu.trans (show d.syu = s.dev.syu by simp [hd])]
      exact ⟨_, rfl, rfl, by rw [hhoc, hs], rfl, rfl⟩

end Sys2Proof.Machine

/-! # Members and their outlet (O60; R106, R110, R111, R117) -/

namespace Sys2Proof.Machine

/-! ### A cell outside the member states, and the writes that leave the law alone -/

/-- R110, R111: a cell in no member state, whose leave, where one is in progress, came from one. -/
def Dev.apart (d : Dev) : Prop :=
  d.hoc.state.isMember = false ∧ ∀ l, d.hoc.leave = some l → l.back.isMember = true

section
variable {d e : Dev}

theorem Dev.apart.memberSound (h : d.apart) : d.memberSound := by
  obtain ⟨hs, hl⟩ := h
  exact ⟨fun hm => absurd (hs.symm.trans hm) (by decide), hl⟩

theorem Dev.memberSound.apart (h : d.memberSound) (hs : d.hoc.state.isMember = false) : d.apart := ⟨hs, h.2⟩

theorem Dev.memberSound_of_same (hh : e.hoc = d.hoc) (hc : e.ctc = d.ctc) : e.memberSound ↔ d.memberSound := by
  unfold Dev.memberSound Dev.ownMember Dev.ownCon Dev.con
  rw [hh, hc]

@[simp] theorem Dev.setHoc_memberSound {g : Hoc} (hs : g.state = d.hoc.state) (ha : g.assignment = d.hoc.assignment)
    (hl : g.leave = d.hoc.leave) : (d.setHoc g).memberSound ↔ d.memberSound := by
  unfold Dev.memberSound Dev.ownMember Dev.ownCon Dev.con
  rw [Dev.setHoc_hoc, Dev.setHoc_ctc, hs, ha, hl]

@[simp] theorem Dev.setRun_memberSound (x : RunState) : (d.setRun x).memberSound ↔ d.memberSound := Iff.rfl
@[simp] theorem Dev.setPins_memberSound (x : Pins) : (d.setPins x).memberSound ↔ d.memberSound := Iff.rfl
@[simp] theorem Dev.setCfg_memberSound (x : Cfg) : (d.setCfg x).memberSound ↔ d.memberSound := Iff.rfl
@[simp] theorem Dev.setLnk_memberSound (x : Lnk) : (d.setLnk x).memberSound ↔ d.memberSound := Iff.rfl
@[simp] theorem Dev.setPtb_memberSound (x : Ptb) : (d.setPtb x).memberSound ↔ d.memberSound := Iff.rfl
@[simp] theorem Dev.setMsu_memberSound (x : Msu) : (d.setMsu x).memberSound ↔ d.memberSound := Iff.rfl
@[simp] theorem Dev.setSyu_memberSound (x : Syu) : (d.setSyu x).memberSound ↔ d.memberSound := Iff.rfl
@[simp] theorem Dev.setSyn_memberSound (x : Syn) : (d.setSyn x).memberSound ↔ d.memberSound := Iff.rfl
@[simp] theorem Dev.setMtr_memberSound (x : Mtr) : (d.setMtr x).memberSound ↔ d.memberSound := Iff.rfl
@[simp] theorem Dev.setRst_memberSound (x : Rst) : (d.setRst x).memberSound ↔ d.memberSound := Iff.rfl
@[simp] theorem Dev.setNtu_memberSound (x : Ntu) : (d.setNtu x).memberSound ↔ d.memberSound := Iff.rfl
@[simp] theorem Dev.spend_memberSound : d.spend.memberSound ↔ d.memberSound := Iff.rfl
@[simp] theorem Dev.setCellCh_memberSound (c : Channel) : (d.setCellCh c).memberSound ↔ d.memberSound := Iff.rfl
@[simp] theorem Dev.setShipCh_memberSound (c : Channel) : (d.setShipCh c).memberSound ↔ d.memberSound := Iff.rfl

@[simp] theorem Dev.raise_memberSound (k : NoticeKind) : (d.raise k).memberSound ↔ d.memberSound :=
  Dev.memberSound_of_same (by simp) (by simp)
@[simp] theorem Dev.raiseIf_memberSound (c : Bool) (k : NoticeKind) : (d.raiseIf c k).memberSound ↔ d.memberSound :=
  Dev.memberSound_of_same (by simp) (by simp)
@[simp] theorem Dev.requestEvent_memberSound (v : EventRec) : (d.requestEvent v).memberSound ↔ d.memberSound :=
  Dev.memberSound_of_same (by simp) (by simp)
@[simp] theorem Dev.endMembership_memberSound (c : LeaveCause) : (d.endMembership c).memberSound ↔ d.memberSound :=
  Dev.memberSound_of_same (by simp) (by simp)
@[simp] theorem Dev.rampTo_memberSound (v : Int) : (d.rampTo v).memberSound ↔ d.memberSound :=
  Dev.memberSound_of_same (by simp) (by simp)
@[simp] theorem Dev.rampBy_memberSound (w : Writer) (v : Int) : (d.rampBy w v).memberSound ↔ d.memberSound :=
  Dev.memberSound_of_same (by simp) (by simp)
@[simp] theorem Dev.restore_memberSound : d.restore.memberSound ↔ d.memberSound := Dev.memberSound_of_same (by simp) (by simp)

end

/-! ### Moves (R106, R111, R112) -/

theorem Dev.move_leave (d : Dev) (st : HState) : (d.move st).hoc.leave = if st = .leaving then d.hoc.leave else none := by
  simp only [Dev.move, Dev.setHoc_hoc, Hoc.enter]
  split <;> rfl

theorem Dev.move_ownMember (d : Dev) (st : HState) : (d.move st).ownMember = d.ownMember := by
  have hcon : (d.move st).con = d.con := funext fun x => by simp [Dev.con]
  rw [Dev.ownMember, Dev.ownMember, Dev.ownCon, Dev.ownCon, (d.move_sameTable st).1, hcon]

section
variable {d : Dev}

/-- R111: a leave is kept in LEAVING only. -/
theorem Dev.move_leave_back (hl : ∀ l, d.hoc.leave = some l → l.back.isMember = true) (st : HState) :
    ∀ l, (d.move st).hoc.leave = some l → l.back.isMember = true := by
  intro l hm
  rw [Dev.move_leave] at hm
  split at hm
  · exact hl l hm
  · cases hm

/-- The entry to a state that is neither a member state nor LEAVING. -/
theorem Dev.move_apart (d : Dev) {st : HState} (hm : st.isMember = false) (hl : st ≠ .leaving) : (d.move st).apart := by
  refine ⟨by rwa [d.move_state], fun l hn => ?_⟩
  rw [Dev.move_leave, if_neg hl] at hn
  cases hn

/-- R106: a cell that is joined to its outlet may enter every state. -/
theorem Dev.memberSound.move_of_joined (h : d.memberSound) (hj : d.ownMember = true) (st : HState) : (d.move st).memberSound :=
  ⟨fun _ => (d.move_ownMember st).trans hj, Dev.move_leave_back h.2 st⟩

theorem Dev.memberSound.move_of_member (h : d.memberSound) (hm : d.hoc.state.isMember = true) (st : HState) : (d.move st).memberSound :=
  h.move_of_joined (h.1 hm) st

theorem Dev.memberSound.enter_of_joined (h : d.memberSound) (hj : d.ownMember = true) (st : HState) : (d.enter st).memberSound := by
  have hm : (d.move st).ownMember = true := (d.move_ownMember st).trans hj
  unfold Dev.enter
  split
  · exact (h.move_of_joined hj _).move_of_joined ((d.move_ownMember _).trans hj) _
  · exact h.move_of_joined hj _

theorem Dev.apart.energise (h : d.apart) : d.energise.apart := by
  rcases d.energise_cases with he | ⟨-, -, he | he⟩ <;> rw [he]
  · exact h
  · exact d.move_apart rfl (by decide)
  · exact d.move_apart rfl (by decide)

@[simp] theorem Dev.memberSound.energise (h : d.memberSound) : d.energise.memberSound := by
  rcases d.energise_cases with he | ⟨-, -, he | he⟩ <;> rw [he]
  · exact h
  · exact (d.move_apart rfl (by decide)).memberSound
  · exact (d.move_apart rfl (by decide)).memberSound

theorem Dev.toAssigned_apart (d : Dev) : d.toAssigned.apart := (d.move_apart rfl (by decide)).energise

@[simp] theorem Dev.toAssigned_memberSound (d : Dev) : d.toAssigned.memberSound := d.toAssigned_apart.memberSound

@[simp] theorem Dev.memberSound.reconsider (h : d.memberSound) : d.reconsider.memberSound := by
  simp only [Dev.reconsider]
  (repeat' split) <;> simp [h]

@[simp] theorem Dev.memberSound.setBusCond (h : d.memberSound) (c : BusCond) : (d.setBusCond c).memberSound := by
  simp only [Dev.setBusCond]
  split <;> simp [h]

/-- R109: the assignment changes in no member state. -/
theorem Dev.apart.reassign (h : d.apart) (x : Option Outlet) : (d.reassign x).apart := by
  unfold Dev.reassign
  split <;> exact h

theorem Dev.applyDestination_apart (d : Dev) (dest : Option Outlet) : (d.applyDestination dest).apart := by
  cases dest with
  | none => exact (d.move_apart rfl (by decide)).reassign _
  | some x => exact ((d.move_apart (st := .assigned) rfl (by decide)).reassign _).energise

@[simp] theorem Dev.applyDestination_memberSound (d : Dev) (dest : Option Outlet) : (d.applyDestination dest).memberSound :=
  (d.applyDestination_apart dest).memberSound

/-! ### A change of a contactor (R114 to R117, R126) -/

@[simp] theorem Dev.memberSound.cellTimeout (h : d.memberSound) : d.cellTimeout.memberSound := by
  simp only [Dev.cellTimeout]
  split <;> simp [h]

theorem Dev.apart.cellTimeout (h : d.apart) : d.cellTimeout.apart := by
  simp only [Dev.cellTimeout]
  split
  · exact Dev.toAssigned_apart _
  · exact h

theorem Dev.apart.seekAfresh (h : d.apart) : d.seekAfresh.apart := by
  simp only [Dev.seekAfresh]
  split
  · split
    · exact Dev.apart.cellTimeout h
    · exact h
  · exact h

/-- R102, R111, R114: what becomes of a cell in no member state whose assigned contactor becomes OPEN is no member either. -/
theorem Dev.apart.assignedOpened (h : d.apart) (old : CState) : (d.assignedOpened old).apart := by
  unfold Dev.assignedOpened
  split
  · exact d.applyDestination_apart _
  · split
    · exact d.toAssigned_apart
    · exact h
  · exact h.seekAfresh
  · exact h.energise
  · exact h

/-- R116, R126: a member state ends where the assigned contactor leaves CLOSED. -/
theorem Dev.assignedLeftClosed_apart (hl : ∀ l, d.hoc.leave = some l → l.back.isMember = true) : d.assignedLeftClosed.apart := by
  simp only [Dev.assignedLeftClosed]
  split
  · exact Dev.toAssigned_apart _
  · next hm => exact ⟨by simpa using hm, hl⟩

/-- R114, R115: where the assigned contactor becomes CLOSED the cell is joined to its outlet, and may become a member. -/
theorem Dev.assignedClosed_memberSound {x : Outlet} (hl : ∀ l, d.hoc.leave = some l → l.back.isMember = true)
    (hj : d.ownMember = true) : (d.assignedClosed x).memberSound := by
  have h : d.memberSound := ⟨fun _ => hj, hl⟩
  let d1 := d.setHoc { d.hoc with joinAge := 0, joinTicks := 0 }
  have h1 : d1.memberSound := ⟨fun _ => hj, hl⟩
  unfold Dev.assignedClosed
  dsimp only
  split
  · exact (Dev.setHoc_memberSound rfl rfl rfl).2 (h1.move_of_joined hj .onBus)
  · exact Dev.memberSound.enter_of_joined (d := (d1.setCellCh _).rampTo _) h1 hj _
  · exact h1

/-- R73: a change of the assigned contactor, which stood CLOSED where the cell is a member. -/
theorem Dev.assignedChanged_memberSound {x : Outlet} (hx : d.hoc.assignment = some x) {old : CState}
    (hl : ∀ l, d.hoc.leave = some l → l.back.isMember = true) (hm : d.hoc.state.isMember = true → old = .closed) :
    (d.assignedChanged x old (d.con x)).memberSound := by
  unfold Dev.assignedChanged
  split
  · next hc => exact Dev.assignedClosed_memberSound hl ((Dev.ownMember_iff hx).2 hc)
  · have hleft : (if old = .closed then d.assignedLeftClosed else d).apart := by
      split
      · exact Dev.assignedLeftClosed_apart hl
      · next ho => exact ⟨Bool.not_eq_true _ |>.mp (mt hm ho), hl⟩
    generalize (if old = .closed then d.assignedLeftClosed else d) = d1 at hleft
    have hwatch : (if old = .opened ∧ d1.syn.cell.running then d1.setCellCh { d1.syn.cell with watch := none } else d1).apart := by
      split <;> exact hleft
    dsimp only
    split
    · exact (hwatch.assignedOpened old).memberSound
    · exact hwatch.memberSound

theorem Dev.con_setCon (d : Dev) (x y : Outlet) (c : Contactor) : (d.setCon x c).con y = if y = x then c.state else d.con y := by
  cases x <;> cases y <;> rfl

/-- R64: a record written for another outlet than the assigned one, or with its state kept. -/
theorem Dev.setCon_ownMember {x : Outlet} {c : Contactor} (h : d.hoc.assignment = some x → c.state = d.con x) :
    (d.setCon x c).ownMember = d.ownMember := by
  unfold Dev.ownMember Dev.ownCon
  rw [show (d.setCon x c).hoc = d.hoc from rfl]
  cases hy : d.hoc.assignment with
  | none => rfl
  | some y =>
    rw [Option.map_some, Option.map_some, Dev.con_setCon]
    split
    · next hyx => rw [h (by rw [hy, hyx]), hyx]
    · rfl

theorem Dev.memberSound.setCon (h : d.memberSound) {x : Outlet} {c : Contactor}
    (hc : d.hoc.assignment = some x → c.state = d.con x) : (d.setCon x c).memberSound := by
  obtain ⟨hm, hl⟩ := h
  exact ⟨fun hs => (Dev.setCon_ownMember hc).trans (hm hs), hl⟩

/-- R73: a record replaced and its change handed out keeps a member joined: the change that ends the joining ends the member state. -/
@[simp] theorem Dev.memberSound.changeCon (h : d.memberSound) (x : Outlet) (c : Contactor) (o : Origin) :
    (d.changeCon x c o).memberSound := by
  let e := d.setCon x c
  have hcon : e.con x = c.state := d.con_setCon_same x c
  unfold Dev.changeCon Dev.conChanged
  split
  · next hkept => exact h.setCon fun _ => hcon.symm.trans hkept
  · split
    · next hx =>
      have hold : d.hoc.state.isMember = true → d.con x = .closed := fun hm => (Dev.ownMember_iff (d := d) hx).1 (h.1 hm)
      split
      · have hleft : (e.leftClosed o).con x = e.con x := by simp [Dev.con]
        have hsound := Dev.assignedChanged_memberSound (d := e.leftClosed o) (x := x) (old := d.con x) (by simpa [e] using hx)
          (by simpa [e] using h.2) (by simpa [e] using hold)
        rwa [hleft] at hsound
      · exact Dev.assignedChanged_memberSound (d := e) hx h.2 hold
    · next hx =>
      have hsound : e.memberSound := h.setCon fun ha => absurd ha hx
      split
      · exact hsound.energise
      · exact hsound

end

/-! ### The contactor controller and the trip (R74 to R82, R126) -/

section
variable {d : Dev}

@[simp] theorem Dev.memberSound.startClose (h : d.memberSound) (x : Outlet) : (d.startClose x).memberSound := h.changeCon _ _ _

@[simp] theorem Dev.memberSound.openRequest (h : d.memberSound) (x : Outlet) (o : Origin) : (d.openRequest x o).memberSound :=
  h.changeCon _ _ _

@[simp] theorem Dev.memberSound.takeHeld (h : d.memberSound) (x : Outlet) : (d.takeHeld x).memberSound := by
  simp only [Dev.takeHeld]
  split <;> simp [h]

@[simp] theorem Dev.memberSound.becomeOpen (h : d.memberSound) (x : Outlet) (o : Origin) : (d.becomeOpen x o).memberSound :=
  (h.changeCon _ _ _).takeHeld _

@[simp] theorem Dev.memberSound.becomeClosed (h : d.memberSound) (x : Outlet) : (d.becomeClosed x).memberSound := h.changeCon _ _ _

/-- R126: a trip ends in TRIPPED and discards a leave. -/
@[simp] theorem Dev.trip_memberSound (d : Dev) (cause : TripCause) (on : Option Outlet) : (d.trip cause on).memberSound := by
  obtain ⟨hs, ⟨-, -, hl, -⟩, -⟩ := d.trip_effect cause on
  exact Dev.apart.memberSound ⟨by rw [hs]; rfl, fun l hn => by rw [hl] at hn; cases hn⟩

@[simp] theorem Dev.memberSound.closeFailed (h : d.memberSound) (x : Outlet) : (d.closeFailed x).memberSound := by
  simp [Dev.closeFailed, h]

@[simp] theorem Dev.openFailed_memberSound (d : Dev) (x : Outlet) : (d.openFailed x).memberSound := Dev.trip_memberSound _ _ _

@[simp] theorem Dev.memberSound.pulseEnd (h : d.memberSound) (x : Outlet) : (d.pulseEnd x).memberSound := by
  have hconfirm : (d.setCon x ((d.ctc.get x).toConfirm d.cfg.confirmTime)).memberSound := h.setCon fun _ => rfl
  simp only [Dev.pulseEnd]
  (repeat' split) <;> simp [h, hconfirm]

@[simp] theorem Dev.memberSound.confirmEnd (h : d.memberSound) (x : Outlet) : (d.confirmEnd x).memberSound := by
  have hgap : (d.setCon x (d.ctc.get x).toGap).memberSound := h.setCon fun _ => rfl
  simp only [Dev.confirmEnd]
  (repeat' split) <;> simp [h, hgap]

@[simp] theorem Dev.memberSound.gapEnd (h : d.memberSound) (x : Outlet) : (d.gapEnd x).memberSound := by
  have hpulse : (d.setCon x ((d.ctc.get x).secondPulse d.cfg)).memberSound := h.setCon fun _ => by
    unfold Contactor.secondPulse
    split <;> rfl
  simp only [Dev.gapEnd]
  split <;> simp [h, hpulse]

@[simp] theorem Dev.memberSound.auxLevel (h : d.memberSound) (x : Outlet) (closed : Bool) : (d.auxLevel x closed).memberSound := by
  have hlevel : (d.setAux x closed).memberSound := by
    have hrecord : (d.setCon x { d.ctc.get x with auxClosed := closed }).memberSound := h.setCon fun _ => rfl
    cases x <;> exact hrecord
  simp only [Dev.auxLevel, Dev.auxEffect, Dev.unexpectedClosure]
  (repeat' split) <;> simp [h, hlevel]

end

/-! ### The ship (R119, R120, R125) -/

section
variable {d : Dev}

@[simp] theorem Dev.memberSound.breakerCloses (h : d.memberSound) (n : Nat) : (d.breakerCloses n).memberSound := by
  simp only [Dev.breakerCloses]
  split
  · next hs => split <;> simp [h.move_of_member (by rw [hs]; rfl)]
  · next hs => split <;> simp [h.move_of_member (by rw [hs]; rfl)]
  · exact h

@[simp] theorem Dev.memberSound.breakerOpens (h : d.memberSound) : d.breakerOpens.memberSound := by
  cases hs : d.hoc.state.shipJoined with
  | false => rwa [Dev.breakerOpens_of_other hs]
  | true =>
    have hback : d.backToOnBus.memberSound := Dev.rampTo_memberSound 0 |>.2 (h.move_of_member (HState.shipJoined_iff.1 hs).1 .onBus)
    by_cases hr : d.released
    · rwa [Dev.breakerOpens_of_released hr]
    · rw [Dev.breakerOpens_of_unexpected hs hr]
      exact (Dev.raise_memberSound _).2 hback

@[simp] theorem Dev.memberSound.generatorEvent (h : d.memberSound) (n : Nat) : (d.generatorEvent n).memberSound := by
  by_cases hp : d.hoc.state.paralleled
  · rw [Dev.generatorEvent_of_paralleled hp]
    have hm : d.hoc.state.isMember = true := by rcases hp with hs | hs | hs | hs <;> rw [hs] <;> rfl
    split <;> simp [h, h.move_of_member hm]
  · by_cases hw : d.hoc.state = .departWait
    · rw [Dev.generatorEvent_of_departWait hw]
      split <;> simp [h, h.move_of_member (by rw [hw]; rfl)]
    · rwa [Dev.generatorEvent_of_other ⟨hp, hw⟩]

@[simp] theorem Dev.memberSound.shipEvents (h : d.memberSound) (old new : ShipFacts) : (d.shipEvents old new).memberSound := by
  simp only [Dev.shipEvents]
  (repeat' split) <;> simp [h]

@[simp] theorem Dev.memberSound.takeView (h : d.memberSound) : d.takeView.memberSound := by
  simp only [Dev.takeView]
  (repeat' split) <;> simp [h]

@[simp] theorem Dev.memberSound.shipNotice (h : d.memberSound) : d.shipNotice.memberSound := by
  simp only [Dev.shipNotice]
  split <;> simp [h]

end

/-! ### Cycle beginnings and superframe boundaries (R112, R113, R117, R118, R122 to R124) -/

/-- Table 7-4: a member follows, and no other cell does. -/
theorem followMove_isMember {own lead st : HState} (h : followMove own lead = some st) : own.isMember = true := by
  unfold followMove at h
  split at h
  case h_9 => cases h
  all_goals rfl

section
variable {d : Dev}

@[simp] theorem Dev.memberSound.takeMet (h : d.memberSound) : d.takeMet.memberSound := by
  simp only [Dev.takeMet]
  (repeat' split) <;> simp [h]

@[simp] theorem Dev.memberSound.judgeForming (h : d.memberSound) : d.judgeForming.memberSound := by
  simp only [Dev.judgeForming, Dev.formingClose]
  (repeat' split) <;> simp [h]

@[simp] theorem Dev.memberSound.judgeLead (h : d.memberSound) : d.judgeLead.memberSound := by
  simp only [Dev.judgeLead]
  (repeat' split) <;> simp [h]

@[simp] theorem Dev.memberSound.follow (h : d.memberSound) : d.follow.memberSound := by
  simp only [Dev.follow]
  split
  · exact h
  · split
    · exact h
    · next st hst =>
      obtain ⟨lead, -, hmove⟩ := Option.bind_eq_some_iff.1 hst
      exact h.enter_of_joined (h.1 (followMove_isMember hmove)) st

@[simp] theorem Dev.memberSound.upBoundary (h : d.memberSound) : d.upBoundary.memberSound := by
  simp only [Dev.upBoundary]
  split
  · exact h
  · next v _ =>
    have hstep : (d.upStep v).memberSound := by
      simp only [Dev.upStep]
      split <;> simp [h]
    have hsame := (d.upStep v).hoc.progressTest_eq v.load
    have hstate := congrArg Hoc.state hsame
    have hassign := congrArg Hoc.assignment hsame
    have hleave := congrArg Hoc.leave hsame
    exact (Dev.setHoc_memberSound hstate hassign hleave).2 hstep

@[simp] theorem Dev.memberSound.hocBoundary (h : d.memberSound) : d.hocBoundary.memberSound := by
  simp only [Dev.hocBoundary, Dev.leavingStep, Dev.shedBoundary, Dev.downBoundary]
  (repeat' split) <;> simp [h]

@[simp] theorem Dev.memberSound.superframe (h : d.memberSound) : d.superframe.memberSound := by
  simp only [Dev.superframe]
  split <;> simp [h]

@[simp] theorem Dev.memberSound.beginCycle (h : d.memberSound) (n : Nat) : (d.beginCycle n).memberSound := by
  have htick : (((d.setLnk (d.lnk.begun n)).setMtr d.mtr.tick).setNtu d.ntu.tick).joinTick.memberSound := by
    simp only [Dev.joinTick]
    split <;> simp [h]
  have hcycle {e : Dev} (he : e.memberSound) : e.hocCycle.claimForgotten.memberSound := by
    simp only [Dev.hocCycle, Dev.claimForgotten, Dev.energiseDead]
    split <;> simp [he.judgeForming.judgeLead]
  simp only [Dev.beginCycle]
  split
  · exact (hcycle htick).superframe
  · exact hcycle htick

/-! ### Timers (R96, R100, R101, R103, R111, R122, R124) -/

@[simp] theorem Dev.memberSound.openOwn (h : d.memberSound) : d.openOwn.memberSound := by
  simp only [Dev.openOwn]
  split <;> simp [h]

theorem Dev.memberSound.rampStall (h : d.memberSound) (hm : d.hoc.state = .parallelUp) : d.rampStall.memberSound :=
  (Dev.raise_memberSound _).2 (h.move_of_member (by rw [hm]; rfl) _)

theorem Dev.memberSound.progressExpiry (h : d.memberSound) : d.progressExpiry.memberSound := by
  simp only [Dev.progressExpiry]
  split
  · next hd => exact h.rampStall hd.1
  · exact h

theorem Dev.memberSound.absoluteExpiry (h : d.memberSound) : d.absoluteExpiry.memberSound := by
  simp only [Dev.absoluteExpiry]
  split
  · next hd => exact h.rampStall hd.1
  · exact h

theorem Dev.memberSound.lowGenExpiry (h : d.memberSound) : d.lowGenExpiry.memberSound := by
  simp only [Dev.lowGenExpiry]
  split <;> simp [h]

theorem Dev.memberSound.releaseExpiry (h : d.memberSound) : d.releaseExpiry.memberSound := by
  simp only [Dev.releaseExpiry]
  split
  · next hd => split <;> simp [h, h.move_of_member (by rw [hd.1]; rfl)]
  · exact h

theorem Dev.memberSound.releaseWaitExpiry (h : d.memberSound) : d.releaseWaitExpiry.memberSound := by
  simp only [Dev.releaseWaitExpiry]
  split
  · next hd => simp [h.move_of_member (by rw [hd.1]; rfl)]
  · exact h

theorem Dev.memberSound.lowLoadExpiry (h : d.memberSound) : d.lowLoadExpiry.memberSound := by
  simp only [Dev.lowLoadExpiry]
  split <;> simp [h]

/-- R111: a stalled leave returns to the state it left while the cell is still joined to its outlet. -/
theorem Dev.memberSound.leaveStallExpiry (h : d.memberSound) : d.leaveStallExpiry.memberSound := by
  have hstopped : (d.setHoc { d.hoc with leaveStall := none }).memberSound := by simp [h]
  simp only [Dev.leaveStallExpiry, Dev.leaveStalled]
  split
  · split
    · exact hstopped
    · next l _ =>
      split
      · next hj => exact (Dev.memberSound.enter_of_joined ((Dev.raise_memberSound _).2 hstopped) hj l.back).takeView
      · exact hstopped
  · exact h

theorem Dev.memberSound.joinSecond (h : d.memberSound) : d.joinSecond.memberSound := by
  simp only [Dev.joinSecond]
  split <;> simp [h]

theorem Dev.memberSound.cellTimeoutExpiry (h : d.memberSound) : d.cellTimeoutExpiry.memberSound := by
  simp only [Dev.cellTimeoutExpiry]
  (repeat' split) <;> simp [h]

theorem Dev.memberSound.shipTimeoutExpiry (h : d.memberSound) : d.shipTimeoutExpiry.memberSound := by
  simp only [Dev.shipTimeoutExpiry, Dev.backToOnBus]
  split
  · split
    · next hs => exact (Dev.rampTo_memberSound 0).2 (Dev.memberSound.move_of_member (by simp [h]) (by rw [hs]; rfl) _)
    · simp [h]
  · exact h

theorem Dev.memberSound.backOffExpiry (h : d.memberSound) : d.backOffExpiry.memberSound := by
  simp only [Dev.backOffExpiry]
  split <;> simp [h]

/-! ### The entries to MUTED and ALIGNED, and the supply warning (R49, R86, R126, R177) -/

@[simp] theorem Dev.memberSound.enterMuted (h : d.memberSound) : d.enterMuted.memberSound := by
  have hhoc {e : Dev} (he : e.memberSound) : e.hocMuted.memberSound := by
    simp only [Dev.hocMuted]
    split <;> simp [he]
  have hctc {e : Dev} (he : e.memberSound) (c : Bool) : (e.ctcMuted c).memberSound := by
    simp only [Dev.ctcMuted]
    split <;> simp [he]
  simp only [Dev.enterMuted]
  split
  · exact hhoc (hctc (by simp [h]) _)
  · exact hctc (hhoc (by simp [h])) _

@[simp] theorem Dev.memberSound.becomeAligned (h : d.memberSound) : d.becomeAligned.memberSound := Dev.memberSound.energise h

@[simp] theorem Dev.memberSound.hocWarning (h : d.memberSound) : d.hocWarning.memberSound := by
  simp only [Dev.hocWarning]
  split_ifs
  · exact h
  · exact (d.move_apart rfl (by decide)).memberSound
  · exact (d.move_apart rfl (by decide)).memberSound

@[simp] theorem Dev.memberSound.warn (h : d.memberSound) : d.warn.memberSound := by
  have hstore (e : Dev) : e.rstWarning.memberSound ↔ e.memberSound := Dev.memberSound_of_same (by simp) (by simp)
  have hblocks {e : Dev} (he : e.memberSound) : e.blocksWarned.memberSound := by
    have hmeter : e.syuWarning.mtrWarning.synWarning.memberSound := (Dev.memberSound_of_same (by simp) (by simp)).2 he
    exact ((hmeter.openRequest .a _).openRequest .b _).hocWarning
  simp only [Dev.warn]
  split
  · exact hblocks ((hstore _).2 h)
  · exact (hstore _).2 (hblocks h)

/-! ### The sample port (R12, R15, R91) -/

theorem Dev.memberSound.takeCond (h : d.memberSound) (c : Option BusCond) : (d.takeCond c).memberSound := by
  simp only [Dev.takeCond]
  split <;> simp [h]

theorem Dev.memberSound.takeCrossings (h : d.memberSound) (bus ship : Bool) : (d.takeCrossings bus ship).memberSound := by
  have hcell (e : Dev) : e.cellCrossing.memberSound ↔ e.memberSound := Dev.memberSound_of_same (by simp) (by simp)
  have hship (e : Dev) : e.shipCrossing.memberSound ↔ e.memberSound := Dev.memberSound_of_same (by simp) (by simp)
  simp only [Dev.takeCrossings, Dev.busCrossing]
  (repeat' split) <;> simp [h, hcell, hship]

theorem Dev.memberSound.admitSet (h : d.memberSound) (seq : Byte) (gap : Nat) (c : Channels) : (d.admitSet seq gap c).memberSound := by
  simp only [Dev.admitSet]
  refine Dev.memberSound.takeCrossings (Dev.memberSound.takeCond ?_ _) _ _
  simp only [Dev.overTrip]
  split
  · simp
  · exact (Dev.memberSound_of_same (by simp) (by simp)).2 h

theorem Dev.memberSound.sampleSet (h : d.memberSound) (r : RawSet) : (d.sampleSet r).memberSound := by
  simp only [Dev.sampleSet]
  split_ifs
  · exact h
  · split
    · exact h.admitSet _ _ _
    · split
      · simp [h]
      · exact ((Dev.raiseIf_memberSound _ _).2 h).admitSet _ _ _

theorem Dev.memberSound.watchTimerExpiry (h : d.memberSound) : d.watchTimerExpiry.memberSound := by
  simp only [Dev.watchTimerExpiry]
  (repeat' split) <;> simp [h]

theorem Dev.memberSound.fallbackClose (h : d.memberSound) (t : TrackerId) : (d.fallbackClose t).memberSound := by
  simp only [Dev.fallbackClose]
  (repeat' split) <;> simp [h, Dev.memberSound.takeCond]

theorem Dev.memberSound.overloadExpiry (h : d.memberSound) : d.overloadExpiry.memberSound := by
  simp only [Dev.overloadExpiry]
  (repeat' split) <;> simp [h]

/-! ### Marks, slots and views (R43 to R48, R54, R70) -/

@[simp] theorem Dev.memberSound.faulty (h : d.memberSound) (i : Nat) : (d.faulty i).memberSound := by
  simp only [Dev.faulty]
  split <;> simp [h]

theorem Dev.memberSound.adoptMark (h : d.memberSound) (m q : Nat) (r : Int) : (d.adoptMark m q r).memberSound := by
  simp only [Dev.adoptMark]
  split <;> simp [h]

theorem Dev.memberSound.validMark (h : d.memberSound) (m q : Nat) (r : Int) : (d.validMark m q r).memberSound := by
  simp only [Dev.validMark, Dev.adoptOutside]
  (repeat' split) <;> simp [h, h.adoptMark]

theorem Dev.memberSound.markReceived (h : d.memberSound) (bytes : List Byte) (start : MarkHeard) :
    (d.markReceived bytes start).memberSound := by
  have hdown (r : Int) : (d.standDown r).memberSound := by
    simp only [Dev.standDown]
    split <;> simp [h]
  have hcollision {e : Dev} (he : e.memberSound) : e.markCollision.memberSound := by
    simp only [Dev.markCollision]
    split <;> simp [he]
  simp only [Dev.markReceived, Dev.markHeard, Dev.adoptEarly, Dev.cycleExpiry, Dev.markReadBack]
  split
  · split
    · exact hdown _
    · split
      · exact (h.beginCycle _).adoptMark _ _ _
      · exact (hcollision (hdown _)).validMark _ _ _
  · (repeat' split) <;> simp [h]

theorem Dev.memberSound.assemble (h : d.memberSound) : d.assemble.memberSound := by
  have hgrant : d.grant.2.memberSound := (Dev.memberSound_of_same (by simp) (by simp)).2 h
  simp only [Dev.assemble]
  split <;> simp [h, hgrant]

theorem Dev.memberSound.ownSlotEnd (h : d.memberSound) (heard : List Byte) (overdrive : Bool) :
    (d.ownSlotEnd heard overdrive).memberSound := by
  have hwatched (e : Dev) : e.slotWatched.memberSound ↔ e.memberSound := Iff.rfl
  simp only [Dev.ownSlotEnd, Dev.listenSlot, Dev.readBack]
  (repeat' split) <;> simp [h, hwatched]

@[simp] theorem Dev.memberSound.viewNotice (h : d.memberSound) (before : Ptb) (vessel : Bool) :
    (d.viewNotice before vessel).memberSound := by
  simp only [Dev.viewNotice]
  split <;> simp [h]

/-! ### The orders (R85, R107 to R111, R121, R167, R168) -/

/-- R111: the state that a leave records is the member state left. -/
theorem Dev.enterLeaving_memberSound (hm : d.hoc.state.isMember = true) (dest : Option Outlet) :
    (d.enterLeaving dest).memberSound := by
  have hstate : (d.enterLeaving dest).hoc.state = .leaving := d.move_state .leaving
  refine Dev.apart.memberSound ⟨by rw [hstate]; rfl, fun l hl => ?_⟩
  obtain rfl : (⟨dest, d.hoc.state⟩ : Leave) = l := Option.some.inj hl
  exact hm

/-- R109: a new destination leaves the state recorded. -/
theorem Dev.memberSound.redirect (h : d.memberSound) (hs : d.hoc.state = .leaving) (dest : Option Outlet) :
    (d.redirect dest).memberSound := by
  refine Dev.apart.memberSound ⟨by rw [show (d.redirect dest).hoc.state = d.hoc.state from rfl, hs]; rfl, fun l hl => ?_⟩
  obtain ⟨k, hk, rfl⟩ := Option.map_eq_some_iff.1 hl
  exact h.2 k hk

theorem Dev.memberSound.leaveLoaded (h : d.memberSound) (hm : d.hoc.state.isMember = true) (dest : Option Outlet) :
    (d.leaveLoaded dest).1.memberSound := by
  simp only [Dev.leaveLoaded]
  split_ifs
  · exact h
  · exact h
  · exact Dev.enterLeaving_memberSound hm dest

/-- R110: a leave by the state it is taken in: at once, by way of LEAVING from a member state, or with a new destination. -/
theorem Dev.memberSound.takeLeave (h : d.memberSound) (dest : Option Outlet) : (d.takeLeave dest).1.memberSound := by
  cases hs : d.hoc.state with
  | off =>
    rw [Dev.takeLeave_of_off dest hs]
    exact d.applyDestination_memberSound dest
  | assigned | forming | joining =>
    rw [Dev.takeLeave_of_waits dest (by simp [hs, HState.waits])]
    exact Dev.applyDestination_memberSound _ dest
  | tripped =>
    rw [Dev.takeLeave_of_tripped dest hs]
    exact ((h.apart (by rw [hs]; rfl)).reassign dest).memberSound
  | leaving =>
    rw [Dev.takeLeave_of_leaving hs]
    exact h.redirect hs dest
  | onBus | matching =>
    rw [Dev.takeLeave_of_unloaded dest (by simp [hs])]
    exact (Dev.enterLeaving_memberSound (by rw [hs]; rfl) dest).openOwn
  | parallelUp | parallelHold | island | departWait | parallelDown | releaseWait =>
    rw [Dev.takeLeave_of_loaded dest (by rw [hs]; rfl)]
    exact h.leaveLoaded (by rw [hs]; rfl) dest

theorem Dev.memberSound.assignTo (h : d.memberSound) (x : Outlet) : (d.assignTo x).1.memberSound := by
  simp only [Dev.assignTo]
  split_ifs with hl
  · exact h.redirect hl _
  · exact Dev.memberSound.energise h
  · exact h.takeLeave _

theorem Dev.memberSound.assign (h : d.memberSound) (outlet : Byte) : (d.assign outlet).1.memberSound := by
  simp only [Dev.assign]
  (repeat' split)
  · exact h
  · exact h
  · exact h
  · exact h
  · exact h.assignTo _

@[simp] theorem Dev.memberSound.setSession (h : d.memberSound) (x : Outlet) (v : Option Session) :
    (d.setHoc (d.hoc.setSession x v)).memberSound := by
  cases x <;> exact h

theorem Dev.memberSound.sessionChanged (h : d.memberSound) (x : Outlet) : (d.sessionChanged x).memberSound := by
  simp only [Dev.sessionChanged]
  split <;> simp [h]

theorem Dev.memberSound.sessionOpen (h : d.memberSound) (f : SessionFields) : (d.sessionOpen f).1.memberSound := by
  simp only [Dev.sessionOpen]
  (repeat' split)
  · exact h
  · exact h
  · exact h
  · exact h
  · exact ((h.setSession _ _).sessionChanged _).energise

theorem Dev.memberSound.sessionClose (h : d.memberSound) (outlet : Byte) (id : Nat) : (d.sessionClose outlet id).1.memberSound := by
  have hgone {e : Dev} (he : e.memberSound) : e.sessionGone.memberSound := by
    simp only [Dev.sessionGone]
    split <;> simp [he]
  have hclose (x : Outlet) : (d.closeSession x).memberSound := by
    simp only [Dev.closeSession]
    split
    · exact (hgone ((Dev.endMembership_memberSound _).2 (h.setSession _ _))).sessionChanged x
    · exact h.setSession _ _
  simp only [Dev.sessionClose]
  (repeat' split)
  · exact h
  · exact h
  · exact h
  · exact h
  · exact hclose _

/-- R121: the lead's answer to START TRANSFER and START DEPARTURE moves a member. -/
theorem Dev.memberSound.stepOrder (h : d.memberSound) (outlet : Byte) {lead : Dev → Decision}
    (hlead : d.hoc.state.isMember = true → (lead d).1.memberSound) : (d.stepOrder outlet lead).1.memberSound := by
  simp only [Dev.stepOrder]
  split
  · exact h
  · split_ifs with hno hl
    · exact h
    · exact h
    · exact hlead (by simpa using (not_or.1 hno).2)

theorem Dev.memberSound.leadTransfer (h : d.memberSound) (hm : d.hoc.state.isMember = true) : d.leadTransfer.1.memberSound := by
  simp only [Dev.leadTransfer]
  (repeat' split) <;> simp [h, Dev.accept, Dev.refuse, h.enter_of_joined (h.1 hm)]

theorem Dev.memberSound.leadDeparture (h : d.memberSound) (hm : d.hoc.state.isMember = true) : d.leadDeparture.1.memberSound := by
  simp only [Dev.leadDeparture]
  (repeat' split) <;> simp [h, Dev.accept, Dev.refuse, h.enter_of_joined (h.1 hm)]

theorem Dev.memberSound.clearTrip (h : d.memberSound) : d.clearTrip.1.memberSound := by
  have hoff : (d.move .off).memberSound := (d.move_apart rfl (by decide)).memberSound
  simp only [Dev.clearTrip]
  (repeat' split) <;> simp [h, hoff, Dev.accept, Dev.refuse]

theorem Dev.memberSound.acknowledgeNotices (h : d.memberSound) (count : Byte) (codes : List Byte) :
    (d.acknowledgeNotices count codes).1.memberSound := by
  have hall (l : List NoticeKind) : ∀ {e : Dev}, e.memberSound → (l.foldl Dev.acknowledge e).memberSound := by
    induction l with
    | nil => exact id
    | cons k l ih => exact fun he => ih ((Dev.raiseIf_memberSound _ _).2 he)
  simp only [Dev.acknowledgeNotices]
  split
  · exact h
  · exact hall _ h

theorem Dev.memberSound.decideOrder (h : d.memberSound) (g : OrderHead) (o : Order) : (d.decideOrder g o).1.memberSound := by
  have hsame {e : Dev} (hh : e.hoc = d.hoc) (hc : e.ctc = d.ctc) : e.memberSound := (Dev.memberSound_of_same hh hc).2 h
  simp only [Dev.decideOrder]
  split
  · exact h
  · cases o with
    | assign x => exact h.assign x
    | unassign => exact h.takeLeave none
    | sessionOpen f => exact h.sessionOpen f
    | sessionClose x id => exact h.sessionClose x _
    | startTransfer x => exact h.stepOrder x h.leadTransfer
    | startDeparture x => exact h.stepOrder x h.leadDeparture
    | clearTrip => exact h.clearTrip
    | acknowledge n c => exact h.acknowledgeNotices n c
    | tariff n l => exact hsame (by simp) (by simp)
    | collect s n => exact hsame (by simp) (by simp)
    | confirm n => exact hsame (by simp) (by simp)
    | flush => exact hsame (by simp) (by simp)
    | restart p | unknown k => exact h

end

/-! ### START (R87, R172) -/

/-- START begins with no assignment, in OFF. -/
theorem Dev.startOver_memberSound (mem : List Host.Cell) (pins : Pins) (restart : Bool) (d : Dev) :
    (d.startOver mem pins restart).memberSound := by
  let e := ((d.stage1 mem pins).configure.scan).interruption restart
  have hmany (k : NoticeKind) (n : Nat) (c : Dev) : (Dev.raiseMany k n c).hoc = c.hoc := by
    induction n generalizing c with
    | zero => rfl
    | succ n ih => rw [Dev.raiseMany, ih]; simp
  have hhoc : e.hoc = Hoc.start := by
    simp only [e, Dev.interruption_frame, Dev.scan_frame, Dev.configure, Dev.raiseIf_frame, hmany, Dev.setMsu_hoc, Dev.setCfg_hoc]
    rfl
  have hstage : e.memberSound := Dev.apart.memberSound ⟨by rw [hhoc]; rfl, fun l hl => by rw [hhoc] at hl; cases hl⟩
  have hcheck : e.contactorCheck.memberSound := by
    simp only [Dev.contactorCheck, Dev.startOpening]
    (repeat' split) <;> simp [hstage]
  simp only [Dev.startOver, Dev.runEntry, Dev.linkEntry]
  (repeat' split) <;> simp [e, hcheck]

/-! ### The order path and the slot ends (R54, R55) -/

section
variable {d : Dev}

theorem Dev.memberSound.order (h : d.memberSound) (g : OrderHead) (o : Order) : (d.order g o).memberSound := by
  have hroute {e : Dev} (he : e.memberSound) : (e.route g o).memberSound := by
    cases o with
    | restart pins =>
      simp only [Dev.route]
      split
      · exact Dev.startOver_memberSound _ _ _ _
      · exact he
    | _ => exact he.decideOrder g _
  simp only [Dev.order]
  split_ifs
  · exact h
  · exact h
  · exact hroute h
  · simp [h]

theorem Dev.memberSound.slotEnd (h : d.memberSound) (k : Nat) (pins : Pins) : (d.slotEnd k pins).memberSound := by
  have hmissed {e : Dev} (he : e.memberSound) : (e.missedSlot k).memberSound := (Dev.memberSound_of_same (by simp) (by simp)).2 he
  have hbody {e : Dev} (he : e.memberSound) (role : Role) (bytes : List Byte) : (e.takeBody k role bytes).memberSound :=
    (Dev.memberSound_of_same (by simp) (by simp)).2 he
  have htime {e : Dev} (he : e.memberSound) (bytes : List Byte) : (e.timeHandOff k bytes).memberSound :=
    (Dev.memberSound_of_same (by simp) (by simp)).2 he
  have hrole {e : Dev} (he : e.memberSound) (role : Role) (bytes : List Byte) (before : Ptb) :
      (e.byRole k role bytes pins before).memberSound := by
    have hview := htime (he.viewNotice before false) bytes
    simp only [Dev.byRole, Dev.terminalOrder]
    (repeat' split) <;> simp [he, hview, hview.order]
  simp only [Dev.slotEnd, Dev.acceptedSlot]
  split
  · exact h
  · split
    · split
      · exact hmissed h
      · exact hrole (hbody (by simp [h]) _ _) _ _ _
    · exact Dev.memberSound.viewNotice (hmissed (by simp [h])) _ _

end

/-! ### Every command -/

/-- An effect that keeps members joined to their outlet, whatever the part. -/
def keepsMembers (f : Dev → Dev) : Prop := ∀ d : Dev, d.memberSound → (f d).memberSound

theorem keepsMembers.ofSame {f : Dev → Dev} (hh : ∀ d, (f d).hoc = d.hoc) (hc : ∀ d, (f d).ctc = d.ctc) : keepsMembers f :=
  fun d h => (Dev.memberSound_of_same (hh d) (hc d)).2 h

theorem keepsMembers.whenUp {f : Dev → Dev} (hf : keepsMembers f) : keepsMembers (Dev.whenUp f) := by
  intro d h
  simp only [Dev.whenUp]
  split
  · exact hf d h
  · exact h

theorem keepsMembers.resetPin (pins : Pins) : keepsMembers (Dev.resetPin pins) := by
  intro d h
  simp only [Dev.resetPin]
  split
  · exact h
  · exact Dev.startOver_memberSound _ _ _ _

theorem keepsMembers.supplyWarning : keepsMembers Dev.supplyWarning := by
  intro d h
  simp only [Dev.supplyWarning]
  (repeat' split) <;> simp [h]

theorem keepsMembers.warningClear (pins : Pins) : keepsMembers (Dev.warningClear pins) := by
  intro d h
  simp only [Dev.warningClear]
  split_ifs
  · exact Dev.startOver_memberSound _ _ _ _
  · exact h
  · exact h

/-- A loss of supply leaves the handover controller at its START values (R164). -/
theorem Dev.powerFail_memberSound (d : Dev) : d.powerFail.memberSound := Dev.apart.memberSound ⟨rfl, nofun⟩

/-- Every command is such an effect. -/
theorem exec_keepsMembers (c : Instr) : ∃ f, keepsMembers f ∧ ∀ s, exec c s = s.run f := by
  cases c with
  | powerUp pins => exact ⟨_, fun _ _ => Dev.startOver_memberSound _ _ _ _, fun _ => rfl⟩
  | resetPin pins => exact ⟨_, keepsMembers.resetPin pins, fun _ => rfl⟩
  | supplyWarning => exact ⟨_, keepsMembers.supplyWarning, fun _ => rfl⟩
  | supplyWarningClear pins => exact ⟨_, keepsMembers.warningClear pins, fun _ => rfl⟩
  | powerFail => exact ⟨_, fun d _ => d.powerFail_memberSound, fun _ => rfl⟩
  | sampleSet raw => exact ⟨_, keepsMembers.whenUp fun _ h => h.sampleSet raw, fun _ => rfl⟩
  | watchTimerExpiry => exact ⟨_, keepsMembers.whenUp fun _ h => h.watchTimerExpiry, fun _ => rfl⟩
  | fallbackClose k => exact ⟨_, keepsMembers.whenUp fun _ h => h.fallbackClose k, fun _ => rfl⟩
  | overloadTimerExpiry => exact ⟨_, keepsMembers.whenUp fun _ h => h.overloadExpiry, fun _ => rfl⟩
  | cycleTimerExpiry => exact ⟨_, keepsMembers.whenUp fun _ h => h.beginCycle _, fun _ => rfl⟩
  | markReceived bytes start => exact ⟨_, keepsMembers.whenUp fun _ h => h.markReceived bytes start, fun _ => rfl⟩
  | silenceCountExpiry =>
    refine ⟨_, keepsMembers.whenUp (f := Dev.silenceExpiry) fun d h => ?_, fun _ => rfl⟩
    simp only [Dev.silenceExpiry]
    split <;> simp [h]
  | ownBulletinAssembly => exact ⟨_, keepsMembers.whenUp fun _ h => h.assemble, fun _ => rfl⟩
  | ownSlotEnd heard overdrive => exact ⟨_, keepsMembers.whenUp fun _ h => h.ownSlotEnd heard overdrive, fun _ => rfl⟩
  | slotEnd slot => exact ⟨_, keepsMembers.whenUp fun _ h => h.slotEnd _ _, fun _ => rfl⟩
  | auxLevelQualified x closed => exact ⟨_, keepsMembers.whenUp fun _ h => h.auxLevel x closed, fun _ => rfl⟩
  | coilPulseTimerExpiry x => exact ⟨_, keepsMembers.whenUp fun _ h => h.pulseEnd x, fun _ => rfl⟩
  | confirmTimerExpiry x => exact ⟨_, keepsMembers.whenUp fun _ h => h.confirmEnd x, fun _ => rfl⟩
  | retryGapExpiry x => exact ⟨_, keepsMembers.whenUp fun _ h => h.gapEnd x, fun _ => rfl⟩
  | cellChannelTimeout => exact ⟨_, keepsMembers.whenUp fun _ h => h.cellTimeoutExpiry, fun _ => rfl⟩
  | shipChannelTimeout => exact ⟨_, keepsMembers.whenUp fun _ h => h.shipTimeoutExpiry, fun _ => rfl⟩
  | backOffExpiry => exact ⟨_, keepsMembers.whenUp fun _ h => h.backOffExpiry, fun _ => rfl⟩
  | joinAgeTick => exact ⟨_, keepsMembers.whenUp fun _ h => h.joinSecond, fun _ => rfl⟩
  | progressTimerExpiry => exact ⟨_, keepsMembers.whenUp fun _ h => h.progressExpiry, fun _ => rfl⟩
  | absoluteRampTimerExpiry => exact ⟨_, keepsMembers.whenUp fun _ h => h.absoluteExpiry, fun _ => rfl⟩
  | lowGeneratorTimerExpiry => exact ⟨_, keepsMembers.whenUp fun _ h => h.lowGenExpiry, fun _ => rfl⟩
  | releaseTimerExpiry => exact ⟨_, keepsMembers.whenUp fun _ h => h.releaseExpiry, fun _ => rfl⟩
  | releaseWaitExpiry => exact ⟨_, keepsMembers.whenUp fun _ h => h.releaseWaitExpiry, fun _ => rfl⟩
  | lowLoadTimerExpiry => exact ⟨_, keepsMembers.whenUp fun _ h => h.lowLoadExpiry, fun _ => rfl⟩
  | leaveStallExpiry => exact ⟨_, keepsMembers.whenUp fun _ h => h.leaveStallExpiry, fun _ => rfl⟩
  | sendMark | markWindowClose | loneCountExpiry | bulletinReceived bytes start | crossingWatchExpiry k | secondAdvance
    | packingTimerExpiry | storeAbsoluteTimerExpiry | pageProgramComplete | sectorEraseComplete =>
    exact ⟨_, (keepsMembers.ofSame (fun _ => by simp) (fun _ => by simp)).whenUp, fun _ => rfl⟩
  | _ => exact ⟨_, keepsMembers.whenUp fun _ h => h.order _ _, fun _ => rfl⟩

/-- Settles O60: a member state is entered where the assigned contactor is CLOSED and left in the event in which it leaves CLOSED. -/
theorem membersAreJoinedToTheirOutlet : Obligations.MembersAreJoinedToTheirOutlet := by
  intro s t hs h
  unfold step at h
  split at h
  · obtain rfl : s = t := by simpa using h
    exact hs
  · next c rest _ =>
    obtain ⟨f, hf, he⟩ := exec_keepsMembers c
    rw [he] at h
    obtain rfl := Host.Outcome.next.inj h
    exact hf _ hs

end Sys2Proof.Machine

/-! # The timers of the ramp (O49; R122) -/

namespace Sys2Proof.Machine

theorem exec_progressTimerExpiry_up {s : State} (h : s.dev.awake) : exec .progressTimerExpiry s = .next (s.onDev Dev.progressExpiry) :=
  State.run_up h _
theorem exec_absoluteRampTimerExpiry_up {s : State} (h : s.dev.awake) :
    exec .absoluteRampTimerExpiry s = .next (s.onDev Dev.absoluteExpiry) := State.run_up h _
theorem exec_lowGeneratorTimerExpiry_up {s : State} (h : s.dev.awake) :
    exec .lowGeneratorTimerExpiry s = .next (s.onDev Dev.lowGenExpiry) := State.run_up h _

/-- A timer is due in its state alone, and while it runs (log entry 4). -/
theorem not_due_of {st due : HState} {α : Type} {o : Option α} (h : st ≠ due ∨ o = none) : ¬(st = due ∧ o.isSome) := by
  rcases h with h | rfl
  · exact fun hd => h hd.1
  · exact fun hd => Bool.false_ne_true hd.2

theorem Dev.progressExpiry_of_not_due {d : Dev} (h : d.hoc.state ≠ .parallelUp ∨ d.hoc.progress = none) : d.progressExpiry = d :=
  if_neg (not_due_of h)
theorem Dev.absoluteExpiry_of_not_due {d : Dev} (h : d.hoc.state ≠ .parallelUp ∨ d.hoc.rampAbsolute = none) : d.absoluteExpiry = d :=
  if_neg (not_due_of h)
theorem Dev.lowGenExpiry_of_not_due {d : Dev} (h : d.hoc.state ≠ .parallelUp ∨ d.hoc.lowGen = none) : d.lowGenExpiry = d :=
  if_neg (not_due_of h)

/-! ### Moves outside JOINING and MATCHING (R89, R90, R122) -/

theorem Dev.move_syn {d : Dev} {st : HState} (hj : d.hoc.state ≠ .joining) (hm : d.hoc.state ≠ .matching) (hj' : st ≠ .joining)
    (hm' : st ≠ .matching) : (d.move st).syn = d.syn := by
  simp [Dev.move, Syn.enter, hj, hm, hj', hm']

/-- R122: the timers of the ramp stop outside PARALLEL_UP. -/
theorem Dev.move_ramp_stopped (d : Dev) {st : HState} (h : st ≠ .parallelUp) :
    (d.move st).hoc.progress = none ∧ (d.move st).hoc.rampAbsolute = none ∧ (d.move st).hoc.lowGen = none := by
  simp [Dev.move, Hoc.enter, keepIn, h]

/-- R122: a stall of the ramp ends it in PARALLEL_HOLD, with its notice. -/
theorem Dev.rampStall_effect {d : Dev} (h : d.hoc.state = .parallelUp) :
    let t := d.rampStall
    t = { d with syu := t.syu, hoc := t.hoc, ntu := t.ntu } ∧ t.hoc.state = .parallelHold ∧ t.hoc.progress = none ∧
      t.hoc.rampAbsolute = none ∧ t.hoc.lowGen = none ∧ t.hoc.lead = d.hoc.lead ∧ t.hoc.assignment = d.hoc.assignment ∧
      t.hoc.acted = d.hoc.acted ∧ t.syu.fRamp = d.syu.fRamp ∧ d.ntu.raisedTo d.cfg.enNonFatal .rampStall t.ntu := by
  intro t
  let e := d.move .parallelHold
  have hsyn : e.syn = d.syn := Dev.move_syn (by simp [h]) (by simp [h]) (by decide) (by decide)
  have hlead : e.hoc.lead = d.hoc.lead := (d.move_lead .parallelHold).trans (Bool.and_true _)
  obtain ⟨hprogress, habsolute, hlow⟩ := d.move_ramp_stopped (st := .parallelHold) (by decide)
  refine ⟨?_, d.move_state _, hprogress, habsolute, hlow, hlead, (d.move_sameTable _).1, d.move_acted _, d.move_member_fRamp rfl,
    Ntu.raise_raisedTo _ _ _⟩
  calc t = { d with syu := t.syu, syn := e.syn, hoc := t.hoc, ntu := t.ntu } := rfl
    _ = { d with syu := t.syu, hoc := t.hoc, ntu := t.ntu } := by rw [hsyn]

/-! ### The settlement -/

/-- Settles O49: the timers that do not run, the two stalls, and the low-generator timer. -/
theorem rampTimers : Obligations.RampTimers := by
  intro s hup h
  rw [exec_progressTimerExpiry_up hup, exec_absoluteRampTimerExpiry_up hup, exec_lowGeneratorTimerExpiry_up hup]
  have hstall {c : Instr} {f : Dev → Dev} (hc : exec c s = .next (s.onDev f)) (hf : f s.dev = s.dev.rampStall) :
      exec c s = .next { s with dev := s.dev.rampStall } := by rw [hc, State.onDev, hf]
  refine ⟨fun hn => ?_, fun hn => ?_, fun hn => ?_, fun c hs hc => ?_, fun hs ht => ?_⟩
  · rw [State.onDev_eq_self (Dev.progressExpiry_of_not_due hn)]
  · rw [State.onDev_eq_self (Dev.absoluteExpiry_of_not_due hn)]
  · rw [State.onDev_eq_self (Dev.lowGenExpiry_of_not_due hn)]
  · refine ⟨{ s with dev := s.dev.rampStall }, ?_, rfl, Dev.rampStall_effect hs⟩
    rcases hc with ⟨rfl, ht⟩ | ⟨rfl, ht⟩
    · exact hstall (exec_progressTimerExpiry_up hup) (if_pos ⟨hs, Option.isSome_iff_ne_none.2 ht⟩)
    · exact hstall (exec_absoluteRampTimerExpiry_up hup) (if_pos ⟨hs, Option.isSome_iff_ne_none.2 ht⟩)
  · have hdue : s.dev.lowGenExpiry = s.dev.setHoc { h with rampDone := true, progress := none, rampAbsolute := none, lowGen := none } :=
      if_pos ⟨hs, Option.isSome_iff_ne_none.2 ht⟩
    rw [State.onDev, hdue]
    rfl

end Sys2Proof.Machine

/-! # The timers of the release and of the leave (O50; R111, R124) -/

namespace Sys2Proof.Machine

theorem exec_releaseTimerExpiry_up {s : State} (h : s.dev.awake) : exec .releaseTimerExpiry s = .next (s.onDev Dev.releaseExpiry) :=
  State.run_up h _
theorem exec_releaseWaitExpiry_up {s : State} (h : s.dev.awake) : exec .releaseWaitExpiry s = .next (s.onDev Dev.releaseWaitExpiry) :=
  State.run_up h _
theorem exec_lowLoadTimerExpiry_up {s : State} (h : s.dev.awake) : exec .lowLoadTimerExpiry s = .next (s.onDev Dev.lowLoadExpiry) :=
  State.run_up h _
theorem exec_leaveStallExpiry_up {s : State} (h : s.dev.awake) : exec .leaveStallExpiry s = .next (s.onDev Dev.leaveStallExpiry) :=
  State.run_up h _

section
variable {d : Dev}

/-! ### Timers that do not run (log entry 4) -/

theorem Dev.releaseExpiry_of_not_due (h : d.hoc.state ≠ .parallelDown ∨ d.hoc.release = none) : d.releaseExpiry = d :=
  if_neg (not_due_of h)
theorem Dev.releaseWaitExpiry_of_not_due (h : d.hoc.state ≠ .releaseWait ∨ d.hoc.releaseWait = none) : d.releaseWaitExpiry = d :=
  if_neg (not_due_of h)
theorem Dev.lowLoadExpiry_of_not_due (h : d.hoc.state ≠ .leaving ∨ d.hoc.lowLoad = none) : d.lowLoadExpiry = d :=
  if_neg (not_due_of h)
theorem Dev.leaveStallExpiry_of_not_due (h : d.hoc.state ≠ .leaving ∨ d.hoc.leaveStall = none) : d.leaveStallExpiry = d :=
  if_neg (not_due_of h)

/-! ### The release (R124) -/

theorem Dev.move_release (d : Dev) {st : HState} (h : st ≠ .parallelDown) : (d.move st).hoc.release = none := by
  simp [Dev.move, Hoc.enter, keepIn, h]
  split <;> rfl

/-- R124: the release-wait timer starts where RELEASE_WAIT is entered from another state. -/
theorem Dev.move_releaseWait (h : d.hoc.state ≠ .releaseWait) : (d.move .releaseWait).hoc.releaseWait = some 30000 := by
  simp [Dev.move, Hoc.enter, h]

theorem Dev.move_releaseWait_stopped (d : Dev) {st : HState} (h : st ≠ .releaseWait) : (d.move st).hoc.releaseWait = none := by
  simp [Dev.move, Hoc.enter, h]
  split <;> rfl

theorem Dev.move_eq_of_syn {st : HState} (h : (d.move st).syn = d.syn) :
    d.move st = { d with syu := (d.move st).syu, hoc := (d.move st).hoc } :=
  (d.move_eq st).trans (by rw [h])

/-! ### The leave stalled (R111) -/

/-- No leave is in progress. -/
def Dev.leaveOver (d : Dev) : Prop := d.hoc.leave = none ∧ d.hoc.leaveStall = none

theorem Dev.move_leaveOver_of_ne (d : Dev) {st : HState} (h : st ≠ .leaving) : (d.move st).leaveOver := by
  refine ⟨(d.move_leave st).trans (if_neg h), ?_⟩
  simp [Dev.move, Hoc.enter, keepIn, h]
  split <;> rfl

theorem Dev.enter_leaveOver (d : Dev) {st : HState} (h : st ≠ .leaving) : (d.enter st).leaveOver := by
  unfold Dev.enter
  split
  · exact Dev.move_leaveOver_of_ne _ (by decide)
  · exact d.move_leaveOver_of_ne h

theorem Dev.breakerCloses_leaveOver (h : d.leaveOver) (n : Nat) : (d.breakerCloses n).leaveOver := by
  unfold Dev.breakerCloses
  split
  · split <;> exact d.move_leaveOver_of_ne (by decide)
  · split <;> exact d.move_leaveOver_of_ne (by decide)
  · exact h

theorem Dev.breakerOpens_leaveOver (h : d.leaveOver) : d.breakerOpens.leaveOver := by
  have hback : d.backToOnBus.leaveOver := d.move_leaveOver_of_ne (st := .onBus) (by decide)
  cases hs : d.hoc.state.shipJoined with
  | false => rwa [Dev.breakerOpens_of_other hs]
  | true =>
    by_cases hr : d.released
    · rwa [Dev.breakerOpens_of_released hr]
    · rwa [Dev.breakerOpens_of_unexpected hs hr]

theorem Dev.generatorEvent_leaveOver (h : d.leaveOver) (n : Nat) : (d.generatorEvent n).leaveOver := by
  by_cases hp : d.hoc.state.paralleled
  · rw [Dev.generatorEvent_of_paralleled hp]
    split
    · exact d.move_leaveOver_of_ne (by decide)
    · exact h
  · by_cases hw : d.hoc.state = .departWait
    · rw [Dev.generatorEvent_of_departWait hw]
      split
      · exact h
      · exact d.move_leaveOver_of_ne (by decide)
    · rwa [Dev.generatorEvent_of_other ⟨hp, hw⟩]

theorem Dev.shipEvents_leaveOver (h : d.leaveOver) (old v : ShipFacts) : (d.shipEvents old v).leaveOver := by
  have hbreaker : (d.breakerEvent old v).leaveOver := by
    unfold Dev.breakerEvent
    split
    · exact h
    · split
      · exact Dev.breakerCloses_leaveOver h _
      · exact Dev.breakerOpens_leaveOver h
  rw [Dev.shipEvents_eq]
  unfold Dev.generatorChange
  split
  · exact hbreaker
  · exact Dev.generatorEvent_leaveOver hbreaker _

theorem Dev.takeView_leaveOver (h : d.leaveOver) : d.takeView.leaveOver := by
  cases hv : d.ownView with
  | none => rwa [Dev.takeView_of_none hv]
  | some v =>
    have hset : (d.setHoc { d.hoc with acted := some v }).leaveOver := h
    cases ha : d.hoc.acted with
    | none => rwa [Dev.takeView_of_first hv ha]
    | some old =>
      rw [Dev.takeView_of_change hv ha]
      exact Dev.shipEvents_leaveOver hset old v

/-- What the entry to a member state keeps of assignment and facts; DEPART_WAIT passes on to another member state. -/
theorem Dev.enter_event (d : Dev) {st : HState} (h : st.isMember = true) :
    d.hoc.eventFrom (d.enter st).hoc ∧ (d.enter st).hoc.state.isMember = true := by
  unfold Dev.enter
  split
  · exact ⟨(d.move_event rfl).trans (Dev.move_event (d.move .departWait) rfl), by rw [Dev.move_state]; rfl⟩
  · exact ⟨d.move_event h, by rwa [Dev.move_state]⟩

theorem Dev.enter_ownView (d : Dev) {st : HState} (h : st.isMember = true) : (d.enter st).ownView = d.ownView := by
  obtain ⟨⟨hassigned, -⟩, -⟩ := d.enter_event h
  simp [Dev.ownView, hassigned]

/-- Table 7-5: without a ship view the state is entered as it is. -/
theorem Dev.enter_of_no_view (h : d.ownView = none) (st : HState) : (d.enter st).hoc.state = st := by
  have hg : d.generatorsOn = false := by simp [Dev.generatorsOn, h]
  rw [Dev.enter, if_neg (by simp [hg]), Dev.move_state]

/-- A view taken keeps assignment and member state, and its facts are the ones acted on. -/
theorem Dev.takeView_took (d : Dev) :
    d.takeView.hoc.assignment = d.hoc.assignment ∧ (d.hoc.state.isMember = true → d.takeView.hoc.state.isMember = true) ∧
      d.takeView.hoc.acted = (match d.ownView with
        | none => d.hoc.acted
        | some v => some v) := by
  cases hv : d.ownView with
  | none => rw [Dev.takeView_of_none hv]; exact ⟨rfl, id, rfl⟩
  | some v =>
    obtain ⟨hassigned, hacted, hmember⟩ := Dev.takeView_event hv
    exact ⟨hassigned, hmember, hacted⟩

/-- R111: a stalled leave returns to the recorded member state, and from there takes the ship view. -/
theorem Dev.leaveStalled_effect (d : Dev) {back : HState} (hb : back.isMember = true) :
    let t := d.leaveStalled back
    t = { d with syu := t.syu, syn := t.syn, hoc := t.hoc, ntu := t.ntu } ∧ t.hoc.state.isMember = true ∧
      t.hoc.assignment = d.hoc.assignment ∧ t.leaveOver ∧
      t.ntu.entry .leaveStall = ⟨true, min 255 ((d.ntu.entry .leaveStall).count + 1)⟩ ∧
      t.hoc.acted = (match d.ownView with
        | none => d.hoc.acted
        | some v => some v) ∧
      (d.ownView = none → t.hoc.state = back) := by
  intro t
  let e := (d.raise .leaveStall).enter back
  have ht : t = e.takeView := rfl
  obtain ⟨⟨heassigned, heacted, -⟩, hemember⟩ := (d.raise .leaveStall).enter_event hb
  have heview : e.ownView = d.ownView := (d.raise .leaveStall).enter_ownView hb
  have heover : e.leaveOver := Dev.enter_leaveOver _ (by rintro rfl; cases hb)
  obtain ⟨hassigned, hmember, hacted⟩ := e.takeView_took
  refine ⟨?_, hmember hemember, hassigned.trans heassigned, Dev.takeView_leaveOver heover, ?_, ?_, fun hn => ?_⟩
  · obtain ⟨hrun, hpins, hcfg, hlnk, hptb, hmsu, hctc, hmtr, hrst, hfree⟩ := d.leaveStalled_frame back
    exact Dev.eq_of_frame_told hrun hpins hcfg hlnk hptb hmsu hctc hmtr hrst hfree
  · rw [ht, Dev.takeView_entry (by decide), ((d.raise .leaveStall).enter_frame back).2.2.2.2.2.2.2.2.2.1]
    exact d.raise_own .leaveStall
  · rw [ht, hacted, heview, heacted]
    rfl
  · rw [ht, Dev.takeView_of_none (heview.trans hn)]
    exact Dev.enter_of_no_view (d := d.raise .leaveStall) hn back

/-! ### The low-load timer (R111) -/

/-- R32: the assigned contactor left CLOSED takes f_ramp to 0. -/
theorem Dev.leftClosed_fRamp (d : Dev) (o : Origin) : (d.leftClosed o).syu.fRamp = 0 := by
  have hsyu : (d.leftClosed o).syu = (d.rampTo 0).syu := by simp [Dev.leftClosed]
  rw [hsyu]
  rfl

/-- R77, R111: in LEAVING the open request to the assigned contactor keeps the leave. -/
theorem Dev.openRequest_in_leaving {x : Outlet} (hx : d.hoc.assignment = some x) (hl : d.hoc.state = .leaving) (o : Origin) :
    let t := d.openRequest x o
    t.hoc.state = .leaving ∧ t.hoc.leave = d.hoc.leave ∧ t.hoc.assignment = some x ∧ t.hoc.lowLoad = d.hoc.lowLoad ∧ t.msu = d.msu ∧
      (d.con x = .closed → t.mtr.membership = none ∧ t.syu.fRamp = 0) := by
  intro t
  by_cases hc : d.con x = .closed
  · let e := (d.setCon x ((d.ctc.get x).openRequested d.cfg.openPulse)).leftClosed o
    have ht : t = e.setHoc { d.hoc with joinAge := 0, joinTicks := 0, lead := false, leadCount := 0 } :=
      Dev.openRequest_of_leaving hx hl hc o
    have hmsu : e.msu = d.msu := (Dev.leftClosed_frame _ o).2.2.2.2.2.1
    rw [ht]
    exact ⟨hl, rfl, hx, rfl, hmsu, fun _ => ⟨(Dev.leftClosed_records _ o).1, Dev.leftClosed_fRamp _ o⟩⟩
  · have ht : t = d.setCon x ((d.ctc.get x).openRequested d.cfg.openPulse) := Dev.openRequest_of_not_closed hx hc o
    rw [ht]
    exact ⟨hl, rfl, hx, rfl, rfl, fun h => absurd h hc⟩

end

/-! ### The settlement -/

/-- Settles O50: the timers that do not run, the release and its stall, the low-load timer's open request, and the stalled leave. -/
theorem releaseAndLeaveTimers : Obligations.ReleaseAndLeaveTimers := by
  intro s hup h
  rw [exec_releaseTimerExpiry_up hup, exec_releaseWaitExpiry_up hup, exec_lowLoadTimerExpiry_up hup, exec_leaveStallExpiry_up hup]
  refine ⟨fun hn => ?_, fun hn => ?_, fun hn => ?_, fun hn => ?_, fun hs ht hlead => ?_, fun hs ht => ?_, fun x hs ht hx => ?_,
    fun l hs ht hl => ?_⟩
  · rw [State.onDev_eq_self (Dev.releaseExpiry_of_not_due hn)]
  · rw [State.onDev_eq_self (Dev.releaseWaitExpiry_of_not_due hn)]
  · rw [State.onDev_eq_self (Dev.lowLoadExpiry_of_not_due hn)]
  · rw [State.onDev_eq_self (Dev.leaveStallExpiry_of_not_due hn)]
  · have hs : s.dev.hoc.state = .parallelDown := hs
    have hdue : s.dev.releaseExpiry = s.dev.move .releaseWait :=
      (if_pos ⟨hs, Option.isSome_iff_ne_none.2 ht⟩).trans (if_pos hlead)
    have hsyn : (s.dev.move .releaseWait).syn = s.dev.syn := Dev.move_syn (by simp [hs]) (by simp [hs]) (by decide) (by decide)
    rw [State.onDev, hdue]
    exact ⟨_, rfl, rfl, Dev.move_eq_of_syn hsyn, Dev.move_state _ _, Dev.move_releaseWait (by simp [hs]),
      Dev.move_release _ (by decide), (Dev.move_lead _ _).trans ((Bool.and_true _).trans hlead), Dev.move_member_fRamp _ rfl⟩
  · have hs : s.dev.hoc.state = .releaseWait := hs
    have hdue : s.dev.releaseWaitExpiry = (s.dev.move .parallelHold).raise .releaseStall :=
      if_pos ⟨hs, Option.isSome_iff_ne_none.2 ht⟩
    have hsyn : (s.dev.move .parallelHold).syn = s.dev.syn := Dev.move_syn (by simp [hs]) (by simp [hs]) (by decide) (by decide)
    rw [State.onDev, hdue]
    refine ⟨_, rfl, rfl, ?_, Dev.move_state _ _, Dev.move_releaseWait_stopped _ (by decide),
      (Dev.move_lead _ _).trans (Bool.and_true _), Dev.move_member_fRamp _ rfl, Ntu.raise_raisedTo _ _ _⟩
    exact congrArg (Dev.raise .releaseStall) (Dev.move_eq_of_syn hsyn)
  · let d := s.dev.setHoc { h with lowLoad := none }
    have hdx : d.hoc.assignment = some x := hx
    have hdue : s.dev.lowLoadExpiry = d.openRequest x .handover :=
      (if_pos ⟨hs, Option.isSome_iff_ne_none.2 ht⟩).trans (Dev.openOwn_of_assigned hdx)
    obtain ⟨hopened, hother⟩ := Ctc.openRequested_at (d.openRequest_ctc x .handover)
    obtain ⟨hstate, hleave, hassigned, hlow, hmsu, hrecords⟩ := Dev.openRequest_in_leaving hdx hs .handover
    obtain ⟨-, -, hcfg, hlnk, hptb, -⟩ := d.openRequest_frame x .handover
    rw [State.onDev, hdue]
    exact ⟨_, rfl, rfl, hopened, hother, hstate, hleave, hassigned, hlow, hrecords, hcfg, hlnk, hptb, hmsu,
      d.openRequest_mem x .handover⟩
  · let d := s.dev.setHoc { h with leaveStall := none }
    have hdue : s.dev.leaveStallExpiry = if s.dev.ownMember then d.leaveStalled l.back else d := by
      have hrunning : s.dev.leaveStallExpiry = match s.dev.hoc.leave with
          | none => d
          | some l => if s.dev.ownMember then d.leaveStalled l.back else d := if_pos ⟨hs, Option.isSome_iff_ne_none.2 ht⟩
      rw [hrunning, show s.dev.hoc.leave = some l from hl]
    rw [State.onDev, hdue]
    refine ⟨fun hm => ?_, fun hm hb => ?_⟩
    · rw [hm]
      rfl
    · obtain ⟨hframe, hmember, hassigned, ⟨hleave, hstall⟩, hentry, hacted, hstate⟩ := d.leaveStalled_effect hb
      rw [if_pos hm]
      exact ⟨_, rfl, rfl, hframe, hmember, hassigned, hleave, hstall, hentry, hacted, hstate⟩

end Sys2Proof.Machine

/-! # START DEPARTURE (O38; R120, R121, R178, Table 7-5, log entries 18 and 29) -/

namespace Sys2Proof.Machine

theorem exec_startDeparture {s : State} {h : OrderHead} (ht : s.dev.takes h) (code : Byte) :
    exec (.startDeparture h code) s =
      .next { s with dev := Dev.reply ((s.dev.routed .startDeparture h).stepOrder code Dev.leadDeparture) } := by
  have hrun : (s.dev.routed (Order.startDeparture code).kind h).run ≠ .shutdown := by simp [ht.1]
  refine (State.run_order ht (.startDeparture code) (by simp)).trans ?_
  simp only [Dev.decideOrder, if_neg hrun]
  rfl

/-! ### The entry to DEPART_WAIT (Table 7-5, log entry 18) -/

section
variable {d : Dev}

theorem Dev.generatorsOn_iff {x : Outlet} (hx : d.hoc.assignment = some x) :
    d.generatorsOn = true ↔ ∃ v, d.ptb.shipView x = some v ∧ 1 ≤ v.generators := by
  simp only [Dev.generatorsOn, Dev.ownView_of_assigned hx]
  split
  · next hv => simp [hv]
  · next v hv => simp [hv]

/-- DEPART_WAIT is passed through where the ship view shows generators. -/
theorem Dev.enter_departWait (d : Dev) :
    d.enter .departWait = if d.generatorsOn = true then (d.move .departWait).move .parallelDown else d.move .departWait := by
  simp [Dev.enter]

/-- What a departure leaves of the ramp and the lead claim. -/
structure Dev.departedFrom (d t : Dev) : Prop where
  frame : t = { d with syu := t.syu, syn := t.syn, hoc := t.hoc }
  lead : t.hoc.lead = d.hoc.lead
  progress : t.hoc.progress = none
  rampAbsolute : t.hoc.rampAbsolute = none

theorem Dev.move_departedFrom (d : Dev) {st : HState} (hm : st.isMember = true) (hu : st ≠ .parallelUp) : d.departedFrom (d.move st) := by
  obtain ⟨hprogress, habsolute, -⟩ := d.move_ramp_stopped hu
  exact ⟨d.move_eq st, by rw [d.move_lead, hm, Bool.and_true], hprogress, habsolute⟩

theorem Dev.departedFrom.trans {e t : Dev} (a : d.departedFrom e) (b : e.departedFrom t) : d.departedFrom t :=
  ⟨b.frame.trans (by rw [a.frame]), b.lead.trans a.lead, b.progress, b.rampAbsolute⟩

theorem Dev.enter_departWait_departedFrom (d : Dev) : d.departedFrom (d.enter .departWait) := by
  have hwait := d.move_departedFrom (st := .departWait) rfl (by decide)
  rw [Dev.enter_departWait]
  split
  · exact hwait.trans (Dev.move_departedFrom _ rfl (by decide))
  · exact hwait

/-! ### The lead's answer (R121) -/

theorem Dev.leadDeparture_of_island (h : d.hoc.state = .island) : d.leadDeparture = (d.enter .departWait).accept := by
  simp only [Dev.leadDeparture, h]

theorem Dev.leadDeparture_of_ramp (h : d.hoc.state = .parallelUp ∨ d.hoc.state = .parallelHold) :
    d.leadDeparture = (d.move .parallelDown).accept := by
  rw [← d.enter_of_ne_departWait (by decide)]
  rcases h with h | h <;> simp only [Dev.leadDeparture, h]

theorem Dev.leadDeparture_of_other (hi : d.hoc.state ≠ .island) (hu : d.hoc.state ≠ .parallelUp) (hp : d.hoc.state ≠ .parallelHold) :
    d.leadDeparture = d.refuse .state := by
  unfold Dev.leadDeparture
  split
  · contradiction
  · contradiction
  · contradiction
  · rfl

/-- R121: a lead in ISLAND, PARALLEL_UP or PARALLEL_HOLD departs. -/
theorem Dev.leadDeparture_departs {x : Outlet} (hx : d.hoc.assignment = some x)
    (hs : d.hoc.state = .island ∨ d.hoc.state = .parallelUp ∨ d.hoc.state = .parallelHold) :
    ∃ t, d.leadDeparture = t.accept ∧ d.departedFrom t ∧
      t.hoc.state =
        (if d.hoc.state = .island ∧ ¬(∃ v, d.ptb.shipView x = some v ∧ 1 ≤ v.generators) then .departWait else .parallelDown) := by
  rcases hs with hs | hs
  · refine ⟨_, Dev.leadDeparture_of_island hs, d.enter_departWait_departedFrom, ?_⟩
    simp only [Dev.enter_departWait, ← Dev.generatorsOn_iff hx]
    cases d.generatorsOn <;> simp [hs, Dev.move_state]
  · refine ⟨_, Dev.leadDeparture_of_ramp hs, d.move_departedFrom rfl (by decide), (d.move_state _).trans (if_neg fun hi => ?_).symm⟩
    rcases hs with hs | hs <;> exact absurd (hs.symm.trans hi.1) (by decide)

end

/-! ### The settlement -/

/-- Settles O38: the tests that every member makes, then the lead's answer by its state. -/
theorem startDepartureMovesTheLead : Obligations.StartDepartureMovesTheLead := by
  intro s h code ht answer
  obtain ⟨d, hd⟩ : ∃ d, d = s.dev.routed .startDeparture h := ⟨_, rfl⟩
  have hhoc : d.hoc = s.dev.hoc := by simp [hd]
  have hptb : d.ptb = s.dev.ptb := by simp [hd]
  have hexec := exec_startDeparture ht code
  rw [← hd] at hexec
  have hanswer {r : Result} (hr : d.stepOrder code Dev.leadDeparture = (d, r)) : answer r := by
    simp only [answer]
    rw [hexec, hr, hd]
    exact State.next_reply ht _ _
  refine ⟨fun hc => hanswer (Dev.stepOrder_of_range _ hc), fun x hx => ⟨fun hn => ?_, fun ha hm hl => ?_, fun ha hl => ?_⟩⟩
  · exact hanswer (Dev.stepOrder_of_state _ hx (by rwa [hhoc]))
  · have hmember := Dev.stepOrder_of_member (d := d) Dev.leadDeparture hx (by rw [hhoc, ha]) (by rw [hhoc, hm])
    exact hanswer (hmember.trans (if_neg (by simp [hhoc, hl])))
  · have hlead (hm : s.dev.hoc.state.isMember = true) : d.stepOrder code Dev.leadDeparture = d.leadDeparture :=
      (Dev.stepOrder_of_member (d := d) Dev.leadDeparture hx (by rw [hhoc, ha]) (by rw [hhoc, hm])).trans (if_pos (by rw [hhoc, hl]))
    refine ⟨fun hs => ?_, fun hm hi hu hp => ?_⟩
    · have hm : s.dev.hoc.state.isMember = true := by rcases hs with hs | hs | hs <;> rw [hs] <;> rfl
      obtain ⟨t, hdepart, hfrom, hstate⟩ := Dev.leadDeparture_departs (d := d) (x := x) (by rw [hhoc, ha]) (by rwa [hhoc])
      rw [hhoc, hptb] at hstate
      have hreply := Dev.reply_accept_of_moved (e := t) ht (k := .startDeparture) (by rw [← hd]; exact hfrom.frame)
      rw [hexec, hlead hm, hdepart, hreply]
      exact ⟨_, rfl, rfl, rfl, hfrom.lead.trans (by rw [hhoc, hl]), hfrom.progress, hfrom.rampAbsolute, hstate⟩
    · exact hanswer ((hlead hm).trans (Dev.leadDeparture_of_other (by rwa [hhoc]) (by rwa [hhoc]) (by rwa [hhoc])))

end Sys2Proof.Machine

/-! # SESSION CLOSE (O36; R108, R132, R178, log entry 29) -/

namespace Sys2Proof.Machine

theorem exec_sessionClose {s : State} {h : OrderHead} (ht : s.dev.takes h) (code : Byte) (id : BitVec 32) :
    exec (.sessionClose h code id) s =
      .next { s with dev := Dev.reply ((s.dev.routed .sessionClose h).sessionClose code id.toNat) } := by
  have hrun : (s.dev.routed (Order.sessionClose code id).kind h).run ≠ .shutdown := by simp [ht.1]
  refine (State.run_order ht (.sessionClose code id) (by simp)).trans ?_
  simp only [Dev.decideOrder, if_neg hrun]
  rfl

/-! ### The tests in their order (R108, log entry 29) -/

section
variable {d : Dev} {code : Byte} {id : Nat}

theorem Dev.sessionClose_of_range (hc : code ≠ 1 ∧ code ≠ 2) : d.sessionClose code id = d.refuse .range := by
  simp only [Dev.sessionClose, outletOfCode_eq_none.2 hc]

variable {x : Outlet} (hx : outletOfCode code = some x)
include hx

theorem Dev.sessionClose_of_none (hn : d.hoc.session x = none) : d.sessionClose code id = d.refuse .state := by
  simp only [Dev.sessionClose, hx, hn]

variable {ses : Session} (hs : d.hoc.session x = some ses)
include hs

theorem Dev.sessionClose_of_other_id (hi : ses.id ≠ id) : d.sessionClose code id = d.refuse .range := by
  simp only [Dev.sessionClose, hx, hs, if_pos hi]

/-- Behind the ID the ship breaker decides; without a view it counts as open. -/
theorem Dev.sessionClose_of_id (hi : ses.id = id) :
    d.sessionClose code id =
      if ∃ v, d.ptb.shipView x = some v ∧ v.breaker = true then d.refuse .state else (d.closeSession x).accept := by
  simp only [Dev.sessionClose, hx, hs, if_neg (not_not_intro hi)]
  cases hv : d.ptb.shipView x <;> simp

end

/-! ### What the open request to the assigned contactor leaves (R77, R116, R132) -/

section
variable {d : Dev} {x : Outlet} (hx : d.hoc.assignment = some x)
include hx

/-- R73, R77: the open request to the CLOSED assigned contactor is a change that every block takes. -/
theorem Dev.openRequest_of_closed (hc : d.con x = .closed) (o : Origin) :
    d.openRequest x o = ((d.setCon x ((d.ctc.get x).openRequested d.cfg.openPulse)).leftClosed o).assignedLeftClosed := by
  let c := (d.ctc.get x).openRequested d.cfg.openPulse
  have hopening : c.state = .opening := by
    simp only [c, Contactor.openRequested, show (d.ctc.get x).state = .closed from hc]
    rfl
  have hcon : (d.setCon x c).con x = .opening := (d.con_setCon_same x c).trans hopening
  have hchange : d.openRequest x o = (d.setCon x c).conChanged x .closed o := congrArg ((d.setCon x c).conChanged x · o) hc
  have hassign : (d.setCon x c).hoc.assignment = some x := hx
  rw [hchange, Dev.conChanged, if_neg (by simp [hcon]), if_pos hassign, if_pos rfl, hcon]
  simp [Dev.assignedChanged, c]

theorem Dev.openRequest_sameTable (o : Origin) : d.hoc.sameTable (d.openRequest x o).hoc := by
  by_cases hc : d.con x = .closed
  · rw [Dev.openRequest_of_closed hx hc]
    have hsame := (Dev.assignedLeftClosed_effect (Dev.leftClosed_fRamp (d.setCon x ((d.ctc.get x).openRequested d.cfg.openPulse)) o)).2.1
    simpa using hsame
  · rw [Dev.openRequest_of_not_closed hx hc]
    exact d.hoc.sameTable_refl

theorem Dev.openRequest_msu (o : Origin) : (d.openRequest x o).msu = d.msu := by
  by_cases hc : d.con x = .closed
  · rw [Dev.openRequest_of_closed hx hc]
    simp
  · rw [Dev.openRequest_of_not_closed hx hc]
    rfl

end

/-! ### A stopped synthesis unit at rest (R19, R32) -/

/-- R19: in STOPPED the unit does not run, and f_ramp is 0. -/
def Syu.rests (s : Syu) : Prop := s.mode = .stopped → s.run = false ∧ s.fRamp = 0

theorem Syu.setMode_rests {s : Syu} (h : s.rests) (m : Mode) (running : Bool) (ses : Option Session) :
    (s.setMode m running ses).rests := by
  unfold Syu.setMode
  split
  · exact h
  · split
    · exact fun _ => ⟨rfl, rfl⟩
    · next hm =>
      split
      · exact fun hs => absurd hs hm
      · exact fun hs => absurd hs hm

theorem Dev.move_rests {d : Dev} (h : d.syu.rests) (st : HState) : (d.move st).syu.rests := by
  have hset := Syu.setMode_rests h st.mode (d.run == .running) d.hoc.ownSession
  simp only [Dev.move, Dev.setHoc_syu, Dev.setSyn_syu, Dev.setSyu_syu, Syu.enter]
  split
  · exact hset
  · exact hset

theorem Dev.energise_rests {d : Dev} (h : d.syu.rests) : d.energise.syu.rests := by
  rcases d.energise_cases with he | ⟨-, -, he | he⟩ <;> rw [he]
  · exact h
  · exact Dev.move_rests h _
  · exact Dev.move_rests h _

theorem Dev.assignedLeftClosed_rests {d : Dev} (h : d.syu.rests) : d.assignedLeftClosed.syu.rests := by
  unfold Dev.assignedLeftClosed
  dsimp only
  split
  · exact Dev.energise_rests (Dev.move_rests h _)
  · exact h

theorem Dev.leftClosed_rests {d : Dev} (h : d.syu.rests) (o : Origin) : (d.leftClosed o).syu.rests := by
  have hsyu : (d.leftClosed o).syu = (d.rampTo 0).syu := by simp [Dev.leftClosed]
  rw [hsyu]
  exact fun hs => ⟨(h hs).1, rfl⟩

theorem Dev.openRequest_rests {d : Dev} {x : Outlet} (hx : d.hoc.assignment = some x) (h : d.syu.rests) (o : Origin) :
    (d.openRequest x o).syu.rests := by
  by_cases hc : d.con x = .closed
  · rw [Dev.openRequest_of_closed hx hc]
    exact Dev.assignedLeftClosed_rests (Dev.leftClosed_rests (d := d.setCon x _) h o)
  · rw [Dev.openRequest_of_not_closed hx hc]
    exact h

/-! ### The bus condition lost (R6, R12) -/

/-- R12: outside FORMING and JOINING a bus condition that becomes UNCERTAIN moves nothing. -/
theorem Dev.setBusCond_uncertain_of {d : Dev} (hf : d.hoc.state ≠ .forming) (hj : d.hoc.state ≠ .joining) :
    d.setBusCond .uncertain = d.setMsu { d.msu with busCond := .uncertain } := by
  unfold Dev.setBusCond
  split
  · next hu => rw [← hu]; rfl
  · have henergise : (d.setMsu { d.msu with busCond := .uncertain }).energise = d.setMsu { d.msu with busCond := .uncertain } :=
      Dev.energise_of_uncertain rfl
    unfold Dev.reconsider
    split
    · contradiction
    · contradiction
    · exact henergise
    · rfl

/-! ### The record of the assigned outlet closed (R108) -/

/-- R112: without a session a cell that comes to ASSIGNED stays there. -/
theorem Dev.toAssigned_of_no_session {d : Dev} (h : d.hoc.ownSession = none) : d.toAssigned = d.move .assigned := by
  have htable := d.move_sameTable .assigned
  have hown : (d.move .assigned).hoc.ownSession = none := by
    rw [← h, Hoc.ownSession, Hoc.ownSession, htable.1, funext htable.session]
  exact Dev.energise_of_not_mayEnergise (by simp [Dev.mayEnergise, hown])

/-- R108, R132: the membership ended before the open request. -/
def Dev.memberless (d : Dev) (x : Outlet) : Dev := (d.setHoc (d.hoc.setSession x none)).endMembership .sessionClose

theorem Dev.memberless_membership (d : Dev) (x : Outlet) : (d.memberless x).mtr.membership = none := by
  let e := d.setHoc (d.hoc.setSession x none)
  cases hm : e.mtr.membership with
  | none => exact (congrArg (fun t : Dev => t.mtr.membership) (Dev.endMembership_of_none hm .sessionClose)).trans hm
  | some k => exact (Dev.endMembership_requested hm .sessionClose).2

theorem Dev.memberless_hoc (d : Dev) (x : Outlet) : (d.memberless x).hoc = d.hoc.setSession x none := by simp [Dev.memberless]

theorem Dev.sessionGone_of_still {d : Dev} (hs : d.hoc.state = .off ∨ d.hoc.state = .assigned ∨ d.hoc.state = .tripped) :
    d.sessionGone = d := by
  rcases hs with hs | hs | hs <;> simp only [Dev.sessionGone, hs]

section
variable {d : Dev} {x : Outlet} (hx : d.hoc.assignment = some x)
include hx

theorem Dev.sessionGone_of_leaving (hs : d.hoc.state = .leaving) : d.sessionGone = d.openRequest x .handover := by
  simp only [Dev.sessionGone, hs, Dev.openOwn_of_assigned hx]

/-- R108: a cell that energises or is a member opens its contactor and is ASSIGNED. -/
theorem Dev.sessionGone_of_joined (hn : d.hoc.ownSession = none)
    (hs : d.hoc.state = .forming ∨ d.hoc.state = .joining ∨ d.hoc.state.isMember = true) :
    d.sessionGone = (d.openRequest x .handover).move .assigned := by
  have htable := Dev.openRequest_sameTable hx .handover
  have hown : (d.openRequest x .handover).hoc.ownSession = none := by
    rw [← hn, Hoc.ownSession, Hoc.ownSession, htable.1, funext htable.session]
  have hgone : d.sessionGone = (d.openRequest x .handover).toAssigned := by
    rw [← Dev.openOwn_of_assigned hx]
    unfold Dev.sessionGone
    cases hst : d.hoc.state with
    | forming | joining | onBus | matching | parallelUp | parallelHold | island | departWait | parallelDown | releaseWait => rfl
    | off | assigned | tripped | leaving => simp [hst, HState.isMember] at hs
  rw [hgone, Dev.toAssigned_of_no_session hown]

/-- What is left of a record closed: the cell's part of it, whatever its state. -/
theorem Dev.sessionGone_keeps (hn : d.hoc.ownSession = none) (hm : d.mtr.membership = none) :
    let t := d.sessionGone
    d.hoc.sameTable t.hoc ∧ t.mtr = d.mtr ∧ t.msu = d.msu ∧ t.hoc.state ≠ .forming ∧ t.hoc.state ≠ .joining := by
  intro t
  have hopened := Dev.openRequest_sameTable hx .handover
  have hmtr := (Dev.openRequest_of_no_membership hm x .handover).1
  have hmsu := Dev.openRequest_msu hx .handover
  cases hs : d.hoc.state with
  | off | assigned | tripped =>
    have ht : t = d := Dev.sessionGone_of_still (by simp [hs])
    rw [ht, hs]
    exact ⟨d.hoc.sameTable_refl, rfl, rfl, by decide, by decide⟩
  | leaving =>
    have ht : t = d.openRequest x .handover := Dev.sessionGone_of_leaving hx hs
    have hstate := (Dev.openRequest_in_leaving hx hs .handover).1
    rw [ht, hstate]
    exact ⟨hopened, hmtr, hmsu, by decide, by decide⟩
  | forming | joining | onBus | matching | parallelUp | parallelHold | island | departWait | parallelDown | releaseWait =>
    have ht : t = (d.openRequest x .handover).move .assigned :=
      Dev.sessionGone_of_joined hx hn (by simp [hs, HState.isMember])
    rw [ht, Dev.move_state]
    exact ⟨hopened.trans (Dev.move_sameTable _ _), by simpa using hmtr, by simpa using hmsu, by decide, by decide⟩

theorem Dev.memberless_assignment : (d.memberless x).hoc.assignment = some x := by
  rw [Dev.memberless_hoc, Hoc.setSession_assignment, hx]

theorem Dev.memberless_ownSession : (d.memberless x).hoc.ownSession = none := by
  rw [Hoc.ownSession, Dev.memberless_assignment hx, Dev.memberless_hoc]
  exact Hoc.session_setSession_same _ _ _

/-- R6, R108: the record of the assigned outlet closed, with the bus condition UNCERTAIN behind it. -/
theorem Dev.closeSession_own :
    d.closeSession x = (d.memberless x).sessionGone.setMsu { d.msu with busCond := .uncertain } ∧
      (d.hoc.setSession x none).sameTable (d.closeSession x).hoc ∧ (d.closeSession x).mtr.membership = none := by
  have hassigned := Dev.memberless_assignment hx
  obtain ⟨htable, hmtr, hmsu, hf, hj⟩ := Dev.sessionGone_keeps hassigned (Dev.memberless_ownSession hx) (d.memberless_membership x)
  have hclose : d.closeSession x = (d.memberless x).sessionGone.sessionChanged x := if_pos hx
  have hchanged : (d.memberless x).sessionGone.sessionChanged x =
      (d.memberless x).sessionGone.setMsu { (d.memberless x).sessionGone.msu with busCond := .uncertain } :=
    (if_pos (htable.1.trans hassigned)).trans (Dev.setBusCond_uncertain_of hf hj)
  have hkept : (d.memberless x).msu = d.msu := by simp [Dev.memberless]
  rw [hclose, hchanged, hmsu, hkept, ← d.memberless_hoc]
  exact ⟨rfl, htable, (congrArg Mtr.membership hmtr).trans (d.memberless_membership x)⟩

/-- R108: the effect on the cell by its state. -/
theorem Dev.closeSession_effect :
    let t := d.closeSession x
    (d.hoc.state = .off ∨ d.hoc.state = .assigned ∨ d.hoc.state = .tripped → t.hoc.state = d.hoc.state ∧ t.ctc = d.ctc) ∧
    (d.hoc.state = .leaving →
      t.hoc.state = .leaving ∧ t.ctc = d.ctc.set x ((d.ctc.get x).openRequested d.cfg.openPulse)) ∧
    (d.hoc.state = .forming ∨ d.hoc.state = .joining ∨ d.hoc.state.isMember = true →
      t.hoc.state = .assigned ∧ t.hoc.forming = false ∧ t.hoc.lead = false ∧ t.syu.mode = .stopped ∧
        (d.syu.mode ≠ .stopped → t.syu.run = false ∧ t.syu.fRamp = 0) ∧
        t.ctc = d.ctc.set x ((d.ctc.get x).openRequested d.cfg.openPulse)) := by
  intro t
  let e := d.memberless x
  have ht : t = e.sessionGone.setMsu { d.msu with busCond := .uncertain } := (Dev.closeSession_own hx).1
  have hassigned : e.hoc.assignment = some x := Dev.memberless_assignment hx
  have hstate : e.hoc.state = d.hoc.state := by rw [d.memberless_hoc, Hoc.setSession_state]
  have hctc : e.ctc = d.ctc := by simp [e, Dev.memberless]
  have hsyu : e.syu = d.syu := by simp [e, Dev.memberless]
  have hopened : (e.openRequest x .handover).ctc = d.ctc.set x ((d.ctc.get x).openRequested d.cfg.openPulse) := by
    rw [Dev.openRequest_ctc, hctc]
    simp [e, Dev.memberless]
  refine ⟨fun hs => ?_, fun hs => ?_, fun hs => ?_⟩
  · rw [ht, Dev.sessionGone_of_still (by rwa [hstate])]
    exact ⟨hstate, hctc⟩
  · have hleaving : e.hoc.state = .leaving := hstate.trans hs
    rw [ht, Dev.sessionGone_of_leaving hassigned hleaving]
    exact ⟨(Dev.openRequest_in_leaving hassigned hleaving .handover).1, hopened⟩
  · have hgone := Dev.sessionGone_of_joined hassigned (Dev.memberless_ownSession hx) (by rwa [hstate])
    have hrests (hm : d.syu.mode ≠ .stopped) : (e.openRequest x .handover).syu.rests :=
      Dev.openRequest_rests hassigned (fun hz => absurd (hsyu ▸ hz) hm) .handover
    rw [ht, hgone]
    generalize e.openRequest x .handover = o at hrests hopened
    have hmode := o.move_mode .assigned
    exact ⟨o.move_state _, (o.move_forming_claim (by decide)).1, (o.move_lead _).trans (Bool.and_false _), hmode,
      fun hm => Dev.move_rests (hrests hm) .assigned hmode, hopened⟩

end

/-! ### The settlement -/

/-- Settles O36: the tests in their order, and behind them the record closed, by assignment and state. -/
theorem sessionCloseEndsTheRecord : Obligations.SessionCloseEndsTheRecord := by
  intro s h code id ht refused
  obtain ⟨d, hd⟩ : ∃ d, d = s.dev.routed .sessionClose h := ⟨_, rfl⟩
  have hhoc : d.hoc = s.dev.hoc := by simp [hd]
  have hptb : d.ptb = s.dev.ptb := by simp [hd]
  have hctc : d.ctc = s.dev.ctc := by simp [hd]
  have hcfg : d.cfg = s.dev.cfg := by simp [hd]
  have hmsu : d.msu = s.dev.msu := by simp [hd]
  have hsyu : d.syu = s.dev.syu := by simp [hd]
  have hexec := exec_sessionClose ht code id
  rw [← hd] at hexec
  have hrefused {r : Reason} (hr : d.sessionClose code id.toNat = d.refuse r) : refused r := by
    simp only [refused]
    rw [hexec, hr, hd]
    exact State.next_reply ht _ _
  refine ⟨fun hc => hrefused (Dev.sessionClose_of_range hc), fun x hx => ⟨fun hn => ?_, fun ses hs => ⟨fun hi => ?_, fun hi hv => ?_,
    fun hi hv => ?_⟩⟩⟩
  · exact hrefused (Dev.sessionClose_of_none hx (by rwa [hhoc]))
  · exact hrefused (Dev.sessionClose_of_other_id hx (by rwa [hhoc]) hi)
  · exact hrefused ((Dev.sessionClose_of_id hx (by rwa [hhoc]) hi).trans (if_pos (by rwa [hptb])))
  · obtain ⟨e, he⟩ : ∃ e, e = d.closeSession x := ⟨_, rfl⟩
    have htaken : d.sessionClose code id.toNat = e.accept :=
      (Dev.sessionClose_of_id hx (by rwa [hhoc]) hi).trans ((if_neg (by rwa [hptb])).trans (by rw [he]))
    obtain ⟨-, -, hcfg', hlnk, hptb', -⟩ := d.closeSession_frame x
    have hreplies := d.closeSession_replies x
    have hmem := d.closeSession_mem x
    have hother (hn : s.dev.hoc.assignment ≠ some x) : e = d.setHoc (s.dev.hoc.setSession x none) := by
      rw [← hhoc] at hn ⊢
      exact he.trans (if_neg hn)
    have htable : (s.dev.hoc.setSession x none).sameTable e.hoc := by
      by_cases ha : s.dev.hoc.assignment = some x
      · rw [← hhoc] at ha ⊢
        rw [he]
        exact (Dev.closeSession_own ha).2.1
      · rw [hother ha]
        exact Hoc.sameTable_refl _
    rw [← he] at hcfg' hlnk hptb' hreplies hmem
    obtain ⟨hlink, hqueue⟩ := Dev.reply_accept_answered (e := e) ht (k := .sessionClose) (by rw [hlnk, hd]) (by rw [hreplies, hd])
    rw [hexec, htaken]
    refine ⟨_, rfl, rfl, (htable.session x).trans (Hoc.session_setSession_same _ _ _),
      (htable.session _).trans (Hoc.session_setSession_other _ _ _), hlink, hqueue, hcfg'.trans hcfg, hptb'.trans hptb,
      hmem.trans (by simp [hd]), fun hn => ?_, fun ha => ?_⟩
    · have hreply := Dev.reply_accept (e := e) ht (k := .sessionClose) (by rw [hother hn, hd]; rfl)
      exact hreply.trans (by rw [hother hn, hd]; rfl)
    · have hassigned : d.hoc.assignment = some x := by rw [hhoc, ha]
      obtain ⟨hclose, -, hmember⟩ := Dev.closeSession_own hassigned
      obtain ⟨hstill, hleaving, hjoined⟩ := Dev.closeSession_effect hassigned
      rw [← he, hhoc, hctc, hcfg, hsyu] at hjoined
      rw [← he, hhoc, hctc, hcfg] at hleaving
      rw [← he, hhoc, hctc] at hstill
      rw [← he] at hclose hmember
      have hbus : e.msu = { s.dev.msu with busCond := .uncertain } := by rw [hclose, hmsu]; rfl
      refine ⟨hmember, hbus, hstill, fun hs => ?_, fun hs => ?_⟩
      · obtain ⟨hstate, hopen⟩ := hleaving hs
        exact ⟨hstate, (Ctc.openRequested_at hopen).1⟩
      · obtain ⟨hstate, hforming, hlead, hmode, hrest, hopen⟩ := hjoined hs
        obtain ⟨hopened, hother⟩ := Ctc.openRequested_at hopen
        exact ⟨hstate, htable.1.trans ((Hoc.setSession_assignment _ _ _).trans ha), hforming, hlead, hmode, hrest, hopened, hother⟩

end Sys2Proof.Machine

/-! # What a cycle beginning leaves of the handover controller's claims (R40, R113, R117, R118) -/

namespace Sys2Proof.Machine

/-! ### The part as the handover controller finds it (R40, R116) -/

/-- The part at a cycle beginning after the other blocks' counts, before the handover controller's own actions. -/
def Dev.cycleEntered (n : Nat) (d : Dev) : Dev := (((d.setLnk (d.lnk.begun n)).setMtr d.mtr.tick).setNtu d.ntu.tick).joinTick

theorem Dev.beginCycle_eq (d : Dev) (n : Nat) :
    d.beginCycle n =
      if n % 8 = 0 then (d.cycleEntered n).hocCycle.claimForgotten.superframe else (d.cycleEntered n).hocCycle.claimForgotten := rfl

/-- R40, R116: of what the handover controller judges by, only the join ticks have moved. -/
theorem Dev.cycleEntered_eq (d : Dev) (n : Nat) :
    d.cycleEntered n = { d with
      lnk := d.lnk.begun n, mtr := d.mtr.tick, ntu := d.ntu.tick
      hoc := { d.hoc with joinTicks := (d.cycleEntered n).hoc.joinTicks } } := by
  unfold Dev.cycleEntered Dev.joinTick
  split <;> rfl

/-- R116: the join age counts while the assigned contactor is CLOSED alone. -/
theorem Dev.cycleEntered_of_con_ne {d : Dev} {x : Outlet} (hx : d.hoc.assignment = some x) (hc : d.con x ≠ .closed) (n : Nat) :
    d.cycleEntered n = { d with lnk := d.lnk.begun n, mtr := d.mtr.tick, ntu := d.ntu.tick } := by
  let e := ((d.setLnk (d.lnk.begun n)).setMtr d.mtr.tick).setNtu d.ntu.tick
  have hown : ¬e.ownMember = true := fun hm => hc ((Dev.ownMember_iff (d := e) hx).1 hm)
  exact if_neg hown

theorem Dev.ranksFirst_cycleEntered (d : Dev) (n : Nat) (x : Outlet) : (d.cycleEntered n).ranksFirst x = d.ranksFirst x := by
  rw [d.cycleEntered_eq n]
  rfl

theorem Dev.generatorsOn_cycleEntered (d : Dev) (n : Nat) : (d.cycleEntered n).generatorsOn = d.generatorsOn := by
  rw [d.cycleEntered_eq n]
  rfl

/-! ### The superframe boundary behind it (R39, R118) -/

/-- R118: the boundary steps write the timers and levels of the steps alone. -/
def Hoc.boundaryFrom (h t : Hoc) : Prop :=
  t = { h with progress := t.progress, lowGen := t.lowGen, release := t.release, lowLoad := t.lowLoad, lowestGen := t.lowestGen,
               shedDue := t.shedDue }

theorem Hoc.boundaryFrom_refl (h : Hoc) : h.boundaryFrom h := rfl

theorem Dev.upBoundary_writes (d : Dev) : d.hoc.boundaryFrom d.upBoundary.hoc := by
  cases hv : d.ownView with
  | none =>
    have hsame : d.upBoundary = d := by simp only [Dev.upBoundary, hv]
    rw [hsame]
    exact d.hoc.boundaryFrom_refl
  | some v =>
    rw [Dev.upBoundary_eq hv, Dev.setHoc_hoc, d.hoc.progressTest_eq v.load]
    rfl

theorem Dev.shedBoundary_writes (d : Dev) : d.hoc.boundaryFrom d.shedBoundary.hoc := by
  unfold Dev.shedBoundary
  split
  · exact d.hoc.boundaryFrom_refl
  · split
    · rfl
    · exact d.hoc.boundaryFrom_refl

theorem Dev.leavingStep_writes (d : Dev) : d.hoc.boundaryFrom d.leavingStep.hoc := by
  unfold Dev.leavingStep
  split
  · simp [Hoc.boundaryFrom]
  · exact d.hoc.boundaryFrom_refl

theorem Dev.downBoundary_writes (d : Dev) : d.hoc.boundaryFrom d.downBoundary.hoc := by
  unfold Dev.downBoundary
  split
  · exact d.hoc.boundaryFrom_refl
  · have hstep : (if !d.hoc.lead && d.leadReleases then d else d.rampBy .hocStep (-d.cfg.rampStep)).hoc = d.hoc := by
      split <;> simp
    dsimp only
    generalize (if !d.hoc.lead && d.leadReleases then d else d.rampBy .hocStep (-d.cfg.rampStep)) = e at hstep ⊢
    rw [← hstep]
    split
    · rfl
    · exact e.hoc.boundaryFrom_refl

theorem Dev.hocBoundary_writes (d : Dev) : d.hoc.boundaryFrom d.hocBoundary.hoc := by
  unfold Dev.hocBoundary
  split
  · exact d.leavingStep_writes
  · exact d.upBoundary_writes
  · exact d.shedBoundary_writes
  · exact d.shedBoundary_writes
  · exact d.downBoundary_writes
  · exact d.hoc.boundaryFrom_refl

theorem Dev.superframe_writes (d : Dev) : d.hoc.boundaryFrom d.superframe.hoc := by
  have hspend : d.spend.restore.hoc = d.hoc := by simp
  unfold Dev.superframe
  split
  · have hwrites := d.spend.restore.hocBoundary_writes
    rwa [hspend] at hwrites
  · have hwrites := d.spend.hocBoundary_writes
    simpa using hwrites

/-- R40, R113, R118: state and claims behind a cycle beginning are those that the handover controller's actions leave; the record of the
carried claim is cleared. -/
theorem Dev.beginCycle_claims (d : Dev) (n : Nat) :
    let e := (d.cycleEntered n).hocCycle
    let t := d.beginCycle n
    t.hoc.state = e.hoc.state ∧ t.hoc.lead = e.hoc.lead ∧ t.hoc.leadCount = e.hoc.leadCount ∧ t.hoc.forming = e.hoc.forming ∧
      t.hoc.formingCount = e.hoc.formingCount ∧ t.hoc.claimCarried = false ∧ t.hoc.assignment = e.hoc.assignment ∧ t.ctc = e.ctc := by
  intro e t
  have hctc : e.claimForgotten.superframe.ctc = e.ctc := e.claimForgotten.superframe_frame.2.2.2.2.2.2.1
  have ht : t = if n % 8 = 0 then e.claimForgotten.superframe else e.claimForgotten := d.beginCycle_eq n
  rw [ht]
  split
  · have hwrites := e.claimForgotten.superframe_writes
    rw [hctc]
    rw [Hoc.boundaryFrom] at hwrites
    rw [hwrites]
    exact ⟨rfl, rfl, rfl, rfl, rfl, rfl, rfl, rfl⟩
  · exact ⟨rfl, rfl, rfl, rfl, rfl, rfl, rfl, rfl⟩

/-! ### The handover controller's actions on a member (R117, R118) -/

section
variable {d : Dev}

/-- R113: outside FORMING no claim is judged. -/
theorem Dev.judgeForming_of_not_forming (h : d.hoc.state ≠ .forming) : d.judgeForming = d := by
  unfold Dev.judgeForming
  split
  · rfl
  · exact if_neg fun hf => h hf.1

theorem Dev.judgeForming_assignment (d : Dev) : d.judgeForming.hoc.assignment = d.hoc.assignment := by
  unfold Dev.judgeForming
  split
  · rfl
  · next x hx =>
    split
    · next hform =>
      obtain ⟨-, hcon⟩ := hform
      split
      · exact d.toAssigned_sameTable.1
      · split
        · dsimp only
          split
          · let d1 := d.setHoc { d.hoc with formingCount := min 3 (d.hoc.formingCount + 1) }
            have hclose : (d1.formingClose x).hoc.assignment = d1.hoc.assignment := by
              unfold Dev.formingClose
              split
              · rw [Dev.startClose, Dev.changeCon_from_opened (d := d1) hcon (by simp [Contactor.startClose])
                  (by simp [Contactor.startClose])]
                split <;> rfl
              · exact d1.toAssigned_sameTable.1
            exact hclose
          · rfl
        · rfl
    · rfl

/-- R117: behind the judgement a lower-numbered lead claimant stands unrivalled. -/
theorem Dev.judgeLead_yields {x : Outlet} (hx : d.hoc.assignment = some x) (h : ∃ c ∈ d.ptb.leadClaimants x, c.1 < d.cfg.station) :
    d.judgeLead.hoc.lead = false := by
  obtain ⟨c, hc, hlower⟩ := h
  have hany : ((d.ptb.leadClaimants x).any fun c => decide (c.1 < d.cfg.station)) = true :=
    List.any_eq_true.2 ⟨c, hc, decide_eq_true hlower⟩
  have hsome : (d.ptb.leadClaimants x).isEmpty = false := by simpa using List.ne_nil_of_mem hc
  cases hl : d.hoc.lead <;> simp [Dev.judgeLead, hx, hl, hany, hsome]

theorem Dev.enter_lead (h : d.hoc.lead = false) (st : HState) : (d.enter st).hoc.lead = false := by
  unfold Dev.enter
  split <;> simp [Dev.move_lead, h]

theorem Dev.follow_lead (h : d.hoc.lead = false) : d.follow.hoc.lead = false := by
  unfold Dev.follow
  split
  · exact h
  · split
    · exact h
    · exact Dev.enter_lead h _

theorem Dev.energiseDead_lead (h : d.hoc.lead = false) : d.energiseDead.hoc.lead = false := by
  unfold Dev.energiseDead
  split
  · rcases d.energise_cases with he | ⟨-, -, he | he⟩ <;> rw [he]
    · exact h
    · rw [Dev.move_lead, h]; rfl
    · rw [Dev.move_lead, h]; rfl
  · exact h

theorem Dev.energiseDead_of_not_assigned (h : d.hoc.state ≠ .assigned) : d.energiseDead = d := by
  rw [Dev.energiseDead, Dev.energise_of_not_assigned h, ite_self]

/-- R117: a lead with a lower-numbered rival is none after the cycle beginning. -/
theorem Dev.hocCycle_yields {x : Outlet} (hx : d.hoc.assignment = some x) (h : ∃ c ∈ d.ptb.leadClaimants x, c.1 < d.cfg.station) :
    d.hocCycle.hoc.lead = false := by
  have hyields : d.judgeForming.judgeLead.hoc.lead = false :=
    Dev.judgeLead_yields (d.judgeForming_assignment.trans hx) (by simpa using h)
  exact Dev.energiseDead_lead (Dev.follow_lead hyields)

/-- R118: without a claimant there is no state to follow. -/
theorem Dev.follow_of_no_claimant {x : Outlet} (hx : d.hoc.assignment = some x) (h : d.ptb.leadClaimants x = []) : d.follow = d := by
  simp [Dev.follow, hx, Ptb.leadState, h]

section
variable {x : Outlet} (hx : d.hoc.assignment = some x) (hm : d.hoc.state.isMember = true)
include hx hm

/-- R117: the first-ranked member counts the cycles without a claimant, and claims at the third. -/
theorem Dev.hocCycle_of_unclaimed (hl : d.hoc.lead = false) (hn : d.ptb.leadClaimants x = []) (hr : d.ranksFirst x = true) :
    d.hocCycle = d.setHoc (if 2 ≤ d.hoc.leadCount then { d.hoc with lead := true, leadCount := 0 }
      else { d.hoc with leadCount := d.hoc.leadCount + 1 }) := by
  have hjudge : d.judgeForming = d := Dev.judgeForming_of_not_forming (by rintro hs; rw [hs] at hm; cases hm)
  have hlead : d.judgeLead = d.setHoc (if 2 ≤ d.hoc.leadCount then { d.hoc with lead := true, leadCount := 0 }
      else { d.hoc with leadCount := d.hoc.leadCount + 1 }) := by
    have htaken : d.judgeLead = if 3 ≤ d.hoc.leadCount + 1 then d.setHoc { d.hoc with lead := true, leadCount := 0 }
        else d.setHoc { d.hoc with leadCount := d.hoc.leadCount + 1 } := by simp [Dev.judgeLead, hx, hm, hl, hn, hr]
    rw [htaken]
    by_cases hc : 2 ≤ d.hoc.leadCount
    · rw [if_pos hc, if_pos (by omega)]
    · rw [if_neg hc, if_neg (by omega)]
  have hkept (g : Hoc) (ha : g.assignment = d.hoc.assignment) (hs : g.state = d.hoc.state) :
      (d.setHoc g).follow.energiseDead = d.setHoc g := by
    rw [Dev.follow_of_no_claimant (d := d.setHoc g) (ha.trans hx) hn]
    exact Dev.energiseDead_of_not_assigned (d := d.setHoc g) (by rintro hg; rw [← hs, show g.state = .assigned from hg] at hm; cases hm)
  rw [Dev.hocCycle, hjudge, hlead]
  split
  · exact hkept _ rfl rfl
  · exact hkept _ rfl rfl

/-- R118, R120, Table 7-4: a member without the claim makes the move that the lead's state asks for. -/
theorem Dev.hocCycle_of_follower (hl : d.hoc.lead = false) {lead new : HState} (hlead : d.ptb.leadState x = some lead)
    (hmove : followMove d.hoc.state lead = some new) (hnew : new.isMember = true) :
    d.hocCycle.hoc.state = if new = .departWait ∧ d.generatorsOn = true then .parallelDown else new := by
  have hjudge : d.judgeForming = d := Dev.judgeForming_of_not_forming (by rintro hs; rw [hs] at hm; cases hm)
  have hsome : (d.ptb.leadClaimants x).isEmpty = false := by
    cases hc : d.ptb.leadClaimants x with
    | nil => simp [Ptb.leadState, hc] at hlead
    | cons c cs => rfl
  let e := d.setHoc { d.hoc with leadCount := 0 }
  have hcount : d.judgeLead = e := by simp [Dev.judgeLead, hx, hl, hsome, e]
  have hfollow : e.follow = e.enter new := by simp [Dev.follow, e, hl, hx, hlead, hmove]
  have hstate : (e.enter new).hoc.state = if new = .departWait ∧ d.generatorsOn = true then .parallelDown else new := by
    unfold Dev.enter
    rw [show e.generatorsOn = d.generatorsOn from rfl]
    split
    · exact Dev.move_state _ _
    · exact Dev.move_state _ _
  rw [Dev.hocCycle, hjudge, hcount, hfollow, Dev.energiseDead_of_not_assigned, hstate]
  rw [hstate]
  split
  · decide
  · rintro rfl
    cases hnew

end

end

end Sys2Proof.Machine

/-! # The lead claim (O19; R117, R118, R120, Tables 7-4 and 7-5, log entry 18) -/

namespace Sys2Proof.Machine

/-- The moves of Table 7-4. -/
theorem followMove_of_table {own lead new : HState}
    (h : (own, lead, new) ∈
      ([(.onBus, .matching, .matching), (.parallelHold, .parallelUp, .parallelUp), (.parallelUp, .parallelHold, .parallelHold),
        (.parallelUp, .parallelDown, .parallelDown), (.parallelHold, .parallelDown, .parallelDown),
        (.parallelDown, .parallelHold, .parallelHold), (.island, .departWait, .departWait), (.departWait, .parallelDown, .parallelDown)] :
        List (HState × HState × HState))) :
    followMove own lead = some new ∧ new.isMember = true := by
  fin_cases h <;> exact ⟨rfl, rfl⟩

/-- Settles O19: the rival that a lead yields to, the count of a first-ranked member, and the moves of a follower. -/
theorem leadIsYieldedClaimedAndFollowed : Obligations.LeadIsYieldedClaimedAndFollowed := by
  intro s x hup hx
  obtain ⟨n, hn⟩ : ∃ n, n = nextCycle s.dev.lnk.cycle := ⟨_, rfl⟩
  let d := s.dev.cycleEntered n
  have hd := s.dev.cycleEntered_eq n
  have hstate : d.hoc.state = s.dev.hoc.state := by simp only [d]; rw [hd]
  have hlead : d.hoc.lead = s.dev.hoc.lead := by simp only [d]; rw [hd]
  have hcount : d.hoc.leadCount = s.dev.hoc.leadCount := by simp only [d]; rw [hd]
  have hdx : d.hoc.assignment = some x := by simp only [d]; rw [hd]; exact hx
  have hptb : d.ptb = s.dev.ptb := by simp only [d]; rw [hd]
  have hcfg : d.cfg = s.dev.cfg := by simp only [d]; rw [hd]
  obtain ⟨htstate, htlead, htcount, -⟩ := s.dev.beginCycle_claims n
  rw [exec_cycleTimerExpiry_up hup, State.onDev, Dev.cycleExpiry, ← hn]
  refine ⟨_, rfl, rfl, fun hl hc => ?_, fun hl hm hc hr hk => ?_, fun hl hm hc hr hk => ?_, fun own lead new hmem hl hs hstate' => ?_⟩
  · exact htlead.trans (Dev.hocCycle_yields hdx (by rwa [hptb, hcfg]))
  · have hcycle := Dev.hocCycle_of_unclaimed hdx (by rwa [hstate]) (by rwa [hlead]) (by rwa [hptb])
      ((s.dev.ranksFirst_cycleEntered n x).trans hr)
    rw [if_pos (by omega)] at hcycle
    exact htlead.trans (by rw [hcycle]; rfl)
  · have hcycle := Dev.hocCycle_of_unclaimed hdx (by rwa [hstate]) (by rwa [hlead]) (by rwa [hptb])
      ((s.dev.ranksFirst_cycleEntered n x).trans hr)
    rw [if_neg (by omega)] at hcycle
    exact ⟨htlead.trans (by rw [hcycle]; exact hlead.trans hl), htcount.trans (by rw [hcycle, ← hcount]; rfl)⟩
  · obtain ⟨hmove, hnew⟩ := followMove_of_table hmem
    have hown : followMove d.hoc.state lead = some new := by rw [hstate, hs, hmove]
    have hcycle := Dev.hocCycle_of_follower hdx (followMove_isMember hown) (by rwa [hlead]) (by rwa [hptb]) hown hnew
    rw [show d.generatorsOn = s.dev.generatorsOn from s.dev.generatorsOn_cycleEntered n] at hcycle
    exact htstate.trans hcycle

end Sys2Proof.Machine

/-! # The forming claim at a cycle beginning (O18; R112 to R114, log entry 31) -/

namespace Sys2Proof.Machine

/-! ### The energising test by its conditions (R112) -/

/-- R112: where the test of a cell ASSIGNED to X leads. -/
def Dev.energisedState (d : Dev) (x : Outlet) : HState :=
  if d.mayEnergise then
    match d.msu.busCond with
    | .dead => if d.opposed x then .assigned else .forming
    | .live => .joining
    | .uncertain => .assigned
  else .assigned

section
variable {d : Dev} {x : Outlet}

theorem Dev.energisedState_of_stays (h : ¬d.mayEnergise = true ∨ d.msu.busCond = .uncertain) : d.energisedState x = .assigned := by
  unfold Dev.energisedState
  split
  · next hm => rw [h.resolve_left (not_not_intro hm)]
  · rfl

theorem Dev.energisedState_of_live (hm : d.mayEnergise = true) (hb : d.msu.busCond = .live) : d.energisedState x = .joining := by
  rw [Dev.energisedState, if_pos hm, hb]

theorem Dev.energisedState_of_dead (hm : d.mayEnergise = true) (hb : d.msu.busCond = .dead) :
    d.energisedState x = if d.opposed x = true then .assigned else .forming := by
  rw [Dev.energisedState, if_pos hm, hb]

/-- R113: an opposed cell forms nowhere on a DEAD bus. -/
theorem Dev.energisedState_of_opposed (ho : d.opposed x = true) (hb : d.msu.busCond = .dead) : d.energisedState x = .assigned := by
  by_cases hm : d.mayEnergise = true
  · rw [Dev.energisedState_of_dead hm hb, if_pos ho]
  · exact Dev.energisedState_of_stays (.inl hm)

variable (hx : d.hoc.assignment = some x)
include hx

theorem Dev.energise_state (hs : d.hoc.state = .assigned) : d.energise.hoc.state = d.energisedState x := by
  unfold Dev.energise Dev.energisedState
  split
  · next hn => cases hn.symm.trans hx
  next y hy =>
  obtain rfl : x = y := Option.some.inj (hx.symm.trans hy)
  by_cases hm : d.mayEnergise = true
  · rw [if_pos ⟨hs, hm⟩, if_pos hm]
    cases d.msu.busCond with
    | dead =>
      dsimp only
      split
      · exact hs
      · exact d.move_state _
    | live => exact d.move_state _
    | uncertain => exact hs
  · rw [if_neg fun h => hm h.2, if_neg hm]
    exact hs

/-- The conditions of R112 with the assigned contactor OPEN. -/
theorem Dev.mayEnergise_iff (hc : d.con x = .opened) :
    d.mayEnergise = true ↔
      d.hoc.session x ≠ none ∧ (∃ v, d.ptb.shipView x = some v ∧ v.cableReady = true) ∧ d.syn.cell.state = .idle ∧
        d.lnk.state = .aligned ∧ d.run = .running ∧ d.con (otherOutlet x) = .opened := by
  have hcable : d.cableReady = true ↔ ∃ v, d.ptb.shipView x = some v ∧ v.cableReady = true := by
    rw [Dev.cableReady, Dev.ownView_of_assigned hx]
    cases d.ptb.shipView x <;> simp
  have hopen : d.ctc.bothOpen = true ↔ d.con (otherOutlet x) = .opened := by
    rw [Ctc.bothOpen_iff]
    cases x
    · exact and_iff_right hc
    · exact and_iff_left hc
  have hsession : d.hoc.ownSession.isSome = true ↔ d.hoc.session x ≠ none := by
    rw [Hoc.ownSession, hx, Option.bind_some, Option.isSome_iff_ne_none]
  simp only [Dev.mayEnergise, Bool.and_eq_true, beq_iff_eq, hcable, hopen, hsession, and_assoc]

end

/-! ### The lead claim and the state following of a cell in no member state (R117, R118) -/

theorem Dev.judgeLead_writes (d : Dev) :
    d.judgeLead = d.setHoc { d.hoc with lead := d.judgeLead.hoc.lead, leadCount := d.judgeLead.hoc.leadCount } := by
  unfold Dev.judgeLead
  (repeat' split) <;> rfl

theorem Dev.follow_of_not_member {d : Dev} (h : d.hoc.state.isMember = false) : d.follow = d := by
  unfold Dev.follow
  split
  · rfl
  · split
    · rfl
    · next st hst =>
      obtain ⟨lead, -, hmove⟩ := Option.bind_eq_some_iff.1 hst
      rw [followMove_isMember hmove] at h
      cases h

/-- R118: the actions behind the judgement leave a cell in no member state its claim count alone, but for the energising test. -/
theorem Dev.afterJudgement_eq {d : Dev} (h : d.hoc.state.isMember = false) :
    d.judgeLead.follow.energiseDead = d.judgeLead.energiseDead := by
  rw [Dev.follow_of_not_member]
  rw [d.judgeLead_writes]
  exact h

/-! ### The claim withdrawn (R112, R113) -/

/-- R113: no cycle is counted, and the claim is the state's. -/
def Hoc.claimFresh (h : Hoc) : Prop := h.forming = decide (h.state = .forming) ∧ h.formingCount = 0

section
variable {d : Dev}

theorem Dev.move_claimFresh {st : HState} (h : d.hoc.state ≠ .forming ∨ st ≠ .forming) : (d.move st).hoc.claimFresh := by
  have hcount : ¬(st = .forming ∧ d.hoc.state = .forming) := fun hb => h.elim (· hb.2) (· hb.1)
  simp only [Hoc.claimFresh, Dev.move, Dev.setHoc_hoc, Hoc.enter, if_neg hcount]
  split <;> exact ⟨rfl, rfl⟩

theorem Dev.energise_claimFresh (h : d.hoc.claimFresh) : d.energise.hoc.claimFresh := by
  rcases d.energise_cases with he | ⟨hs, -, he | he⟩ <;> rw [he]
  · exact h
  · exact Dev.move_claimFresh (.inl (by simp [hs]))
  · exact Dev.move_claimFresh (.inr (by decide))

theorem Dev.energiseDead_claimFresh (h : d.hoc.claimFresh) : d.energiseDead.hoc.claimFresh := by
  unfold Dev.energiseDead
  split
  · exact Dev.energise_claimFresh h
  · exact h

theorem Dev.energiseDead_assignment (d : Dev) : d.energiseDead.hoc.assignment = d.hoc.assignment := by
  unfold Dev.energiseDead
  split
  · exact d.energise_sameTable.1
  · rfl

theorem Dev.energisedState_isMember (d : Dev) (x : Outlet) : (d.energisedState x).isMember = false := by
  unfold Dev.energisedState
  (repeat' split) <;> rfl

/-- R112: the test made again behind the lead's judgement leads where the first did. -/
theorem Dev.energise_afterJudgement {m : Dev} {x : Outlet} (hx : m.hoc.assignment = some x) (hs : m.hoc.state = .assigned)
    (hf : m.hoc.claimFresh) :
    let t := m.energise.judgeLead.follow.energiseDead
    t.ctc = m.ctc ∧ t.hoc.claimFresh ∧ t.hoc.assignment = some x ∧ t.hoc.state = m.energisedState x := by
  have hstate := Dev.energise_state hx hs
  obtain ⟨a, ha⟩ : ∃ a, a = m.energise := ⟨_, rfl⟩
  have hfresh : a.hoc.claimFresh := ha ▸ Dev.energise_claimFresh hf
  have hassigned : a.hoc.assignment = some x := by rw [ha, m.energise_sameTable.1, hx]
  have hctc : a.ctc = m.ctc := by simp [ha]
  rw [← ha] at hstate ⊢
  have hwrites := a.judgeLead_writes
  obtain ⟨b, hb⟩ : ∃ b, b = a.judgeLead := ⟨_, rfl⟩
  rw [Dev.afterJudgement_eq (by rw [hstate, m.energisedState_isMember]), ← hb]
  rw [← hb] at hwrites
  have hbfresh : b.hoc.claimFresh := by rw [hwrites]; exact hfresh
  have hbassigned : b.hoc.assignment = some x := by rw [hwrites]; exact hassigned
  have hbstate : b.hoc.state = m.energisedState x := by rw [hwrites]; exact hstate
  refine ⟨?_, Dev.energiseDead_claimFresh hbfresh, b.energiseDead_assignment.trans hbassigned, ?_⟩
  · rw [← hctc, show b.energiseDead.ctc = b.ctc by simp, hwrites]
    rfl
  · by_cases hstays : m.energisedState x = .assigned
    · have ham : a = m := ha.trans (Dev.energise_of_stays (by rw [← ha, hstate, hstays]))
      have hagain : b.energisedState x = m.energisedState x := by
        rw [hwrites, ham]
        rfl
      unfold Dev.energiseDead
      split
      · rw [Dev.energise_state hbassigned (hbstate.trans hstays), hagain]
      · exact hbstate
    · rw [Dev.energiseDead_of_not_assigned (by rwa [hbstate]), hbstate]

/-- R112, R113: a claim withdrawn leaves the cell ASSIGNED, or where the test at that entry leads. -/
theorem Dev.hocCycle_withdrawn {e : Dev} {x : Outlet} (hj : d.judgeForming = e.toAssigned) (hx : e.hoc.assignment = some x)
    (hs : e.hoc.state = .forming) :
    let t := d.hocCycle
    t.ctc = e.ctc ∧ t.hoc.claimFresh ∧ t.hoc.assignment = some x ∧ t.hoc.state = e.energisedState x := by
  let m := e.move .assigned
  have hmay : m.mayEnergise = e.mayEnergise := Dev.mayEnergise_move (by simp [hs]) (by decide)
  have hsame : m.energisedState x = e.energisedState x := by
    unfold Dev.energisedState
    rw [hmay]
    rfl
  have hctc : m.ctc = e.ctc := by simp [m]
  rw [← hsame, ← hctc, Dev.hocCycle, hj]
  exact Dev.energise_afterJudgement ((e.move_sameTable .assigned).1.trans hx) (e.move_state _) (Dev.move_claimFresh (.inr (by decide)))

/-- R113: a claim that stands behind its judgement stands behind the cycle beginning. -/
theorem Dev.hocCycle_standing {e : Dev} (hj : d.judgeForming = e) (hs : e.hoc.state = .forming) :
    let t := d.hocCycle
    t.ctc = e.ctc ∧ t.hoc.formingCount = e.hoc.formingCount ∧ t.hoc.state = .forming := by
  have hwrites := e.judgeLead_writes
  obtain ⟨b, hb⟩ : ∃ b, b = e.judgeLead := ⟨_, rfl⟩
  rw [← hb] at hwrites
  have hbstate : b.hoc.state = .forming := by rw [hwrites]; exact hs
  have hcycle : d.hocCycle = b := by
    rw [Dev.hocCycle, hj, Dev.afterJudgement_eq (by rw [hs]; rfl), ← hb, Dev.energiseDead_of_not_assigned (by simp [hbstate])]
  rw [hcycle, hwrites]
  exact ⟨rfl, rfl, hs⟩

/-! ### The judgement (R113, R114) -/

section
variable {x : Outlet} (hx : d.hoc.assignment = some x) (hs : d.hoc.state = .forming) (hc : d.con x = .opened)
include hx hs hc

theorem Dev.judgeForming_of_opposed (ho : d.opposed x = true) : d.judgeForming = d.toAssigned := by
  simp [Dev.judgeForming, hx, hs, hc, ho]

theorem Dev.judgeForming_of_uncarried (ho : d.opposed x = false) (hcarried : d.hoc.claimCarried = false) : d.judgeForming = d := by
  simp [Dev.judgeForming, hx, hs, hc, ho, hcarried]

/-- R113: an unopposed claim that was carried counts. -/
theorem Dev.judgeForming_of_counting (ho : d.opposed x = false) (hcarried : d.hoc.claimCarried = true)
    (hk : d.hoc.formingCount < 2) : d.judgeForming = d.setHoc { d.hoc with formingCount := d.hoc.formingCount + 1 } := by
  have hmin : min 3 (d.hoc.formingCount + 1) = d.hoc.formingCount + 1 := by omega
  simp [Dev.judgeForming, hx, hs, hc, ho, hcarried, hmin, show d.hoc.formingCount ≠ 2 by omega]

/-- R113: the third count asks for the close. -/
theorem Dev.judgeForming_of_third (ho : d.opposed x = false) (hcarried : d.hoc.claimCarried = true) (hk : 2 ≤ d.hoc.formingCount) :
    d.judgeForming = (d.setHoc { d.hoc with formingCount := 3 }).formingClose x := by
  have hmin : min 3 (d.hoc.formingCount + 1) = 3 := by omega
  simp [Dev.judgeForming, hx, hs, hc, ho, hcarried, hmin]

end

/-- R75, R102: a close started in FORMING reaches the record and the watch alone. -/
theorem Dev.startClose_hoc {x : Outlet} (hc : d.con x = .opened) : (d.startClose x).hoc = d.hoc := by
  rw [Dev.startClose, Dev.changeCon_from_opened hc (by simp [Contactor.startClose]) (by simp [Contactor.startClose])]
  split <;> rfl

end

/-! ### The settlement -/

/-- Settles O18: the claim withdrawn, standing, counted, and at the third count closed upon or refused. -/
theorem formingClaimIsJudgedEachCycle : Obligations.FormingClaimIsJudgedEachCycle := by
  intro s x hup hs hx hc energises withdrawn
  obtain ⟨n, hn⟩ : ∃ n, n = nextCycle s.dev.lnk.cycle := ⟨_, rfl⟩
  let d : Dev := { s.dev with lnk := s.dev.lnk.begun n, mtr := s.dev.mtr.tick, ntu := s.dev.ntu.tick }
  let third := d.setHoc { d.hoc with formingCount := 3 }
  have hd : s.dev.cycleEntered n = d := Dev.cycleEntered_of_con_ne hx (by simp [hc]) n
  have hclaims := s.dev.beginCycle_claims n
  rw [hd] at hclaims
  obtain ⟨hstate, -, -, hforming, hcount, hcarried, hassigned, hctc⟩ := hclaims
  rw [exec_cycleTimerExpiry_up hup, State.onDev, Dev.cycleExpiry, ← hn]
  have hmay : s.dev.mayEnergise = true ↔ energises := Dev.mayEnergise_iff hx hc
  have hwithdrawn {e : Dev} (hj : d.judgeForming = e.toAssigned) (he : e = d ∨ e = third) :
      withdrawn ⟨s.pending, s.dev.beginCycle n⟩ ∧
        (s.dev.beginCycle n).hoc.forming = decide (s.dev.energisedState x = .forming) := by
    have hehoc : e.hoc.assignment = some x ∧ e.hoc.state = .forming := by rcases he with rfl | rfl <;> exact ⟨hx, hs⟩
    have hectc : e.ctc = s.dev.ctc := by rcases he with rfl | rfl <;> rfl
    have hestate : e.energisedState x = s.dev.energisedState x := by rcases he with rfl | rfl <;> rfl
    obtain ⟨htctc, ⟨hfresh, hzero⟩, htassigned, htstate⟩ := Dev.hocCycle_withdrawn hj hehoc.1 hehoc.2
    have hled := hstate.trans (htstate.trans hestate)
    refine ⟨⟨hctc.trans (htctc.trans hectc), hcount.trans hzero, hcarried, ?_, hassigned.trans htassigned, fun h => ?_, fun h hb => ?_,
      fun h hb => ?_⟩, ?_⟩
    · rw [hforming, hfresh, hstate]
    · exact hled.trans (Dev.energisedState_of_stays (h.imp_left (mt hmay.1)))
    · exact hled.trans (Dev.energisedState_of_live (hmay.2 h) hb)
    · exact hled.trans (Dev.energisedState_of_dead (hmay.2 h) hb)
    · rw [hforming, hfresh, htstate, hestate]
  have hstanding {e : Dev} (hj : d.judgeForming = e) (he : e.hoc.state = .forming) :
      (s.dev.beginCycle n).hoc.state = .forming ∧ (s.dev.beginCycle n).hoc.formingCount = e.hoc.formingCount ∧
        (s.dev.beginCycle n).ctc = e.ctc := by
    obtain ⟨htctc, htcount, htstate⟩ := Dev.hocCycle_standing hj he
    exact ⟨hstate.trans htstate, hcount.trans htcount, hctc.trans htctc⟩
  refine ⟨_, rfl, rfl, fun ho => ?_, fun ho hn => ?_, fun ho hy hk => ?_, fun ho hy hk hr => ?_, fun ho hy hk hr => ?_⟩
  · obtain ⟨hgone, hclaim⟩ := hwithdrawn (Dev.judgeForming_of_opposed (d := d) hx hs hc ho) (.inl rfl)
    refine ⟨hgone, fun hb => hclaim.trans ?_⟩
    rw [Dev.energisedState_of_opposed ho hb]
    rfl
  · exact hstanding (e := d) (Dev.judgeForming_of_uncarried (d := d) hx hs hc ho hn) hs
  · exact hstanding (Dev.judgeForming_of_counting (d := d) hx hs hc ho hy hk) hs
  · have hjudge : d.judgeForming = third.startClose x := (Dev.judgeForming_of_third (d := d) hx hs hc ho hy hk).trans (if_pos hr)
    have hclosing : (third.startClose x).hoc.state = .forming := by rw [Dev.startClose_hoc (d := third) hc]; exact hs
    obtain ⟨hstands, -, hrecord⟩ := hstanding hjudge hclosing
    rw [third.startClose_ctc x] at hrecord
    exact ⟨hstands, by rw [hrecord, Ctc.get_set_same]; rfl, by rw [hrecord, Ctc.get_set_other]; rfl⟩
  · have hjudge : d.judgeForming = third.toAssigned := (Dev.judgeForming_of_third (d := d) hx hs hc ho hy hk).trans (if_neg hr)
    exact (hwithdrawn hjudge (.inr rfl)).1

end Sys2Proof.Machine

/-! # The limits of the meter and its schedules (O58; R131, R139, R141, R142) -/

namespace Sys2Proof.Machine

/-! ### What stays through a write of the meter -/

/-- The residue and the pending holder keep their limits (R131, R142), and no schedule moves (R139). Every operation leaves this of the meter
but START, a boundary, an adopted time and a TARIFF order. -/
structure Mtr.keeps (m n : Mtr) : Prop where
  sound : m.sound → n.sound
  active : n.active = m.active
  copyA : n.copyA = m.copyA
  copyB : n.copyB = m.copyB

namespace Mtr.keeps

@[simp] theorem refl (m : Mtr) : m.keeps m := ⟨id, rfl, rfl, rfl⟩

theorem trans {m n k : Mtr} (h : m.keeps n) (g : n.keeps k) : m.keeps k :=
  ⟨g.sound ∘ h.sound, g.active.trans h.active, g.copyA.trans h.copyA, g.copyB.trans h.copyB⟩

/-- A meter with the residue, the pending holder and the schedules of another. -/
theorem of_same {m n : Mtr} (hres : n.residue = m.residue) (hhold : n.holder = m.holder) (hact : n.active = m.active)
    (ha : n.copyA = m.copyA) (hb : n.copyB = m.copyB) : m.keeps n :=
  ⟨fun hm => by rwa [Mtr.sound, hres, hhold], hact, ha, hb⟩

/-- R142: the holder takes a third record from nobody. -/
theorem hold (m : Mtr) (r : Rec) : m.keeps (m.hold r) := by
  unfold Mtr.hold
  split
  · next hroom => exact ⟨fun ⟨hres, _⟩ => ⟨hres, by simpa using hroom⟩, rfl, rfl, rfl⟩
  · exact of_same rfl rfl rfl rfl rfl

end Mtr.keeps

/-- R131: what a truncating division leaves is smaller than its divisor. -/
theorem natAbs_sub_tdiv_mul_lt (x : Int) : (x - tdiv x whUnits * whUnits).natAbs < 345600000 := by
  have hrem : x - tdiv x whUnits * whUnits = x.tmod whUnits := by rw [Int.tmod_def, tdiv, Int.mul_comm]
  rw [hrem, Int.natAbs_tmod]
  exact Nat.mod_lt _ (by decide)

theorem Mtr.count_keeps (m : Mtr) (p : Int) : m.keeps (m.count p) :=
  ⟨fun ⟨_, hhold⟩ => ⟨natAbs_sub_tdiv_mul_lt _, hhold⟩, rfl, rfl, rfl⟩

namespace Mtr.keeps

section
variable {m : Mtr} {d : Dev}

/-! ### Record requests and memberships (R130, R132, R141, R142) -/

@[simp] theorem requestSession (h : m.keeps d.mtr) (r : Rec) : m.keeps (d.requestSession r).mtr := by
  simp only [Dev.requestSession]
  split
  · simpa using h
  · exact h.trans (hold _ r)

@[simp] theorem requestEvent (h : m.keeps d.mtr) (e : EventRec) : m.keeps (d.requestEvent e).mtr := by
  simp only [Dev.requestEvent]
  split
  · simpa using h
  · exact h.trans (of_same rfl rfl rfl rfl rfl)

theorem beginMembership (h : m.keeps d.mtr) (x : Outlet) (ses : Session) : m.keeps (d.beginMembership x ses).mtr := by
  have hbegun : m.keeps { d.mtr with
      membership := some ⟨ses.id, x, ses.fNom, ses.demand⟩, totImport := 0, totExport := 0, totCount := 0
      interval := { d.mtr.interval with session := some ses.id } } := h.trans (of_same rfl rfl rfl rfl rfl)
  simp [Dev.beginMembership, hbegun]

theorem meterSet (h : m.keeps d.mtr) (p : Int) : m.keeps (d.meterSet p).mtr := by
  simp only [Dev.meterSet]
  split
  · exact h
  · next x ses _ =>
    split
    · exact (h.beginMembership x ses).trans (Mtr.count_keeps _ p)
    · exact h.trans (Mtr.count_keeps _ p)

theorem closePartial (h : m.keeps d.mtr) : m.keeps d.closePartial.mtr := by
  simp only [Dev.closePartial]
  split
  · have hcount : m.keeps { d.mtr with totCount := d.mtr.totCount + 1 } := h.trans (of_same rfl rfl rfl rfl rfl)
    simp [hcount]
  · exact h

@[simp] theorem endMembership (h : m.keeps d.mtr) (cause : LeaveCause) : m.keeps (d.endMembership cause).mtr := by
  simp only [Dev.endMembership]
  split
  · exact h
  · exact (h.closePartial.requestSession _).trans (of_same rfl rfl rfl rfl rfl)

/-! ### The contactors (R73 to R82) -/

@[simp] theorem conChanged (h : m.keeps d.mtr) (x : Outlet) (old : CState) (o : Origin) : m.keeps (d.conChanged x old o).mtr := by
  simp only [Dev.conChanged, Dev.leftClosed]
  (repeat' split) <;> simp [h]

/-- Both records' changes, in turn. -/
@[simp] theorem bothChanged (h : m.keeps d.mtr) (p q : CState) (o : Origin) : m.keeps (d.bothChanged p q o).mtr :=
  (h.conChanged ..).conChanged ..

@[simp] theorem changeCon (h : m.keeps d.mtr) (x : Outlet) (c : Contactor) (o : Origin) : m.keeps (d.changeCon x c o).mtr := by
  simp [Dev.changeCon, h]

@[simp] theorem startClose (h : m.keeps d.mtr) (x : Outlet) : m.keeps (d.startClose x).mtr := h.changeCon ..

@[simp] theorem openRequest (h : m.keeps d.mtr) (x : Outlet) (o : Origin) : m.keeps (d.openRequest x o).mtr := h.changeCon ..

@[simp] theorem takeHeld (h : m.keeps d.mtr) (x : Outlet) : m.keeps (d.takeHeld x).mtr := by
  simp only [Dev.takeHeld]
  split <;> simp [h]

@[simp] theorem becomeOpen (h : m.keeps d.mtr) (x : Outlet) (o : Origin) : m.keeps (d.becomeOpen x o).mtr :=
  (h.changeCon ..).takeHeld _

@[simp] theorem becomeClosed (h : m.keeps d.mtr) (x : Outlet) : m.keeps (d.becomeClosed x).mtr := h.changeCon ..

@[simp] theorem trip (h : m.keeps d.mtr) (cause : TripCause) (on : Option Outlet) : m.keeps (d.trip cause on).mtr := by
  simp only [Dev.trip]
  split <;> simp [h]

@[simp] theorem closeFailed (h : m.keeps d.mtr) (x : Outlet) : m.keeps (d.closeFailed x).mtr := by
  simp [Dev.closeFailed, h]

@[simp] theorem openFailed (h : m.keeps d.mtr) (x : Outlet) : m.keeps (d.openFailed x).mtr := by
  simp [Dev.openFailed, h]

@[simp] theorem pulseEnd (h : m.keeps d.mtr) (x : Outlet) : m.keeps (d.pulseEnd x).mtr := by
  simp only [Dev.pulseEnd]
  (repeat' split) <;> simp [h]

@[simp] theorem confirmEnd (h : m.keeps d.mtr) (x : Outlet) : m.keeps (d.confirmEnd x).mtr := by
  simp only [Dev.confirmEnd]
  (repeat' split) <;> simp [h]

@[simp] theorem unexpectedClosure (h : m.keeps d.mtr) (x : Outlet) : m.keeps (d.unexpectedClosure x).mtr := by
  simp [Dev.unexpectedClosure, h]

@[simp] theorem auxEffect (h : m.keeps d.mtr) (x : Outlet) (closed : Bool) : m.keeps (d.auxEffect x closed).mtr := by
  simp only [Dev.auxEffect]
  (repeat' split) <;> simp [h]

@[simp] theorem auxLevel (h : m.keeps d.mtr) (x : Outlet) (closed : Bool) : m.keeps (d.auxLevel x closed).mtr := by
  simp only [Dev.auxLevel]
  split <;> simp [h]

/-! ### Requests of the handover controller, the cycle and the warning (R49, R86, R95, R111, R113, R145) -/

@[simp] theorem busCrossing (h : m.keeps d.mtr) : m.keeps d.busCrossing.mtr := by
  simp only [Dev.busCrossing, Dev.takeMet]
  (repeat' split) <;> simp [h]

@[simp] theorem judgeForming (h : m.keeps d.mtr) : m.keeps d.judgeForming.mtr := by
  simp only [Dev.judgeForming, Dev.formingClose]
  (repeat' split) <;> simp [h]

@[simp] theorem beginCycle (h : m.keeps d.mtr) (n : Nat) : m.keeps (d.beginCycle n).mtr := by
  have htick : m.keeps d.mtr.tick := h.trans (of_same rfl rfl rfl rfl rfl)
  simp only [Dev.beginCycle, Dev.hocCycle]
  split <;> simp [htick]

@[simp] theorem openOwn (h : m.keeps d.mtr) : m.keeps d.openOwn.mtr := by
  simp only [Dev.openOwn]
  split <;> simp [h]

@[simp] theorem lowLoadExpiry (h : m.keeps d.mtr) : m.keeps d.lowLoadExpiry.mtr := by
  simp only [Dev.lowLoadExpiry]
  split <;> simp [h]

@[simp] theorem enterMuted (h : m.keeps d.mtr) : m.keeps d.enterMuted.mtr := by
  simp only [Dev.enterMuted, Dev.ctcMuted]
  (repeat' split) <;> simp [h]

@[simp] theorem ctcWarning (h : m.keeps d.mtr) : m.keeps d.ctcWarning.mtr := (h.openRequest ..).openRequest ..

@[simp] theorem mtrWarning (h : m.keeps d.mtr) : m.keeps d.mtrWarning.mtr := h.endMembership _

@[simp] theorem warn (h : m.keeps d.mtr) : m.keeps d.warn.mtr := by
  simp only [Dev.warn, Dev.blocksWarned]
  split <;> simp [h]

/-! ### The sample port, marks and the own slot (R15, R43 to R48) -/

@[simp] theorem overTrip (h : m.keeps d.mtr) (c : Bool) : m.keeps (d.overTrip c).mtr := by
  simp only [Dev.overTrip]
  split <;> simp [h]

@[simp] theorem takeCrossings (h : m.keeps d.mtr) (bus ship : Bool) : m.keeps (d.takeCrossings bus ship).mtr := by
  simp only [Dev.takeCrossings]
  (repeat' split) <;> simp [h]

@[simp] theorem takeCond (h : m.keeps d.mtr) (c : Option BusCond) : m.keeps (d.takeCond c).mtr := by simpa using h

theorem admitSet (h : m.keeps d.mtr) (seq : Byte) (gap : Nat) (c : Channels) : m.keeps (d.admitSet seq gap c).mtr := by
  have hmetered := meterSet (m := m) (d := ((d.setMsu (d.msu.takeSet d.cfg d.hoc.assignment d.vRefNow seq gap c).1).watchesBy
    (gap + 1)).synthesisSet gap) (by simpa using h) (d.msu.takeSet d.cfg d.hoc.assignment d.vRefNow seq gap c).2.power
  exact ((hmetered.overTrip _).takeCond _).takeCrossings _ _

theorem sampleSet (h : m.keeps d.mtr) (r : RawSet) : m.keeps (d.sampleSet r).mtr := by
  simp only [Dev.sampleSet]
  (repeat' split) <;> simp [h, admitSet]

theorem watchTimerExpiry (h : m.keeps d.mtr) : m.keeps d.watchTimerExpiry.mtr := by
  simp only [Dev.watchTimerExpiry]
  (repeat' split) <;> simp [h]

theorem overloadExpiry (h : m.keeps d.mtr) : m.keeps d.overloadExpiry.mtr := by
  simp only [Dev.overloadExpiry]
  (repeat' split) <;> simp [h]

@[simp] theorem faulty (h : m.keeps d.mtr) (i : Nat) : m.keeps (d.faulty i).mtr := by
  simp only [Dev.faulty]
  split <;> simp [h]

@[simp] theorem validMark (h : m.keeps d.mtr) (n q : Nat) (r : Int) : m.keeps (d.validMark n q r).mtr := by
  simp only [Dev.validMark, Dev.adoptOutside]
  (repeat' split) <;> simp [h]

theorem markReceived (h : m.keeps d.mtr) (bytes : List Byte) (start : MarkHeard) : m.keeps (d.markReceived bytes start).mtr := by
  simp only [Dev.markReceived, Dev.markHeard, Dev.adoptEarly, Dev.cycleExpiry, Dev.markCollision, Dev.markReadBack]
  (repeat' split) <;> simp [h]

theorem ownSlotEnd (h : m.keeps d.mtr) (heard : List Byte) (overdrive : Bool) : m.keeps (d.ownSlotEnd heard overdrive).mtr := by
  simp only [Dev.ownSlotEnd, Dev.listenSlot, Dev.readBack]
  (repeat' split) <;> simp [h]

/-! ### START (R40, R87, R144, R172, R177) -/

theorem interruption (h : m.keeps d.mtr) (restart : Bool) : m.keeps (d.interruption restart).mtr := by
  simp only [Dev.interruption]
  split <;> simp [h]

theorem contactorCheck (h : m.keeps d.mtr) : m.keeps d.contactorCheck.mtr := by
  simp only [Dev.contactorCheck, Dev.startOpening]
  (repeat' split) <;> simp [h]

theorem linkEntry (h : m.keeps d.mtr) : m.keeps d.linkEntry.mtr := by
  simp only [Dev.linkEntry]
  split <;> simp [h]

theorem runEntry (h : m.keeps d.mtr) : m.keeps d.runEntry.mtr := by
  simp only [Dev.runEntry]
  split <;> simp [h]

/-! ### The orders (R108 to R111) -/

@[simp] theorem takeLeave (h : m.keeps d.mtr) (dest : Option Outlet) : m.keeps (d.takeLeave dest).1.mtr := by
  simp only [Dev.takeLeave, Dev.abandonClose]
  (repeat' split) <;> simp [h]

theorem assign (h : m.keeps d.mtr) (outlet : Byte) : m.keeps (d.assign outlet).1.mtr := by
  simp only [Dev.assign, Dev.assignTo]
  (repeat' split) <;> simp [h]

theorem sessionClose (h : m.keeps d.mtr) (outlet : Byte) (id : Nat) : m.keeps (d.sessionClose outlet id).1.mtr := by
  simp only [Dev.sessionClose, Dev.closeSession, Dev.sessionGone]
  (repeat' split) <;> simp [h]

/-- Every order but TARIFF. -/
theorem decideOrder (h : m.keeps d.mtr) (g : OrderHead) {o : Order} (ho : ∀ n l, o ≠ .tariff n l) :
    m.keeps (d.decideOrder g o).1.mtr := by
  simp only [Dev.decideOrder]
  split
  · exact h
  · cases o with
    | assign x => exact h.assign x
    | unassign => exact h.takeLeave none
    | sessionClose x id => exact h.sessionClose x _
    | startTransfer x | startDeparture x =>
      simp only [Dev.stepOrder]
      (repeat' split) <;> simp [h]
    | tariff n l => exact absurd rfl (ho n l)
    | _ => simp [h]

end

end Mtr.keeps

/-! ### The writes that move a schedule or replace the holder: the limits alone (R136, R139, R142, R172) -/

namespace Mtr.sound

theorem start : Mtr.start.sound := ⟨by decide, by decide⟩

/-- The interval, the totals and the schedules are free of the limits. -/
theorem of_same {m n : Mtr} (h : m.sound) (hres : n.residue = m.residue) (hhold : n.holder = m.holder) : n.sound := by
  rwa [Mtr.sound, hres, hhold]

section
variable {d : Dev}

theorem secondClose (h : d.mtr.sound) : d.secondClose.mtr.sound := by
  refine h.of_same ?_ ?_ <;> simp only [Dev.secondClose, Dev.setMtr_mtr, Mtr.demand_eq]

theorem boundary (h : d.mtr.sound) (i : Option Nat) : (d.boundary i).mtr.sound := by
  refine h.of_same ?_ ?_ <;>
  · simp only [Dev.boundary, Mtr.switchTariff_eq, Mtr.merge, Mtr.renew]
    (repeat' split) <;> simp

theorem advanceSecond (h : d.mtr.sound) : d.advanceSecond.mtr.sound := by
  have hclose : (d.setMtr d.mtr.nextSecond).secondClose.mtr.sound := secondClose (d := d.setMtr _) (h.of_same rfl rfl)
  simp only [Dev.advanceSecond]
  split
  · exact hclose.boundary _
  · exact hclose

theorem secondAdvance (h : d.mtr.sound) : d.secondAdvance.mtr.sound := by
  simp only [Dev.secondAdvance]
  split
  · exact h.advanceSecond
  · exact h

theorem adoptTime (h : d.mtr.sound) (t : TimeBody) : (d.adoptTime t).mtr.sound := by
  have hadopt : ((d.setMtr (d.mtr.adopt t)).raiseIf (d.mtr.isStep t) .timeStep).mtr.sound := by
    simpa using h.of_same (n := d.mtr.adopt t) rfl rfl
  simp only [Dev.adoptTime]
  split_ifs
  · exact hadopt.secondClose.boundary _
  · exact hadopt.secondClose
  · exact hadopt.boundary _
  · exact hadopt

theorem timeHandOff (h : d.mtr.sound) (k : Nat) (bytes : List Byte) : (d.timeHandOff k bytes).mtr.sound := by
  simp only [Dev.timeHandOff]
  (repeat' split)
  · exact h
  · exact h.adoptTime _
  · exact h

/-- R142: records leave the holder and none enters it. -/
theorem stageHeldFrom (l : List Rec) (h : d.mtr.residue.natAbs < 345600000) (hl : l.length ≤ 2) :
    (Dev.stageHeldFrom l d).mtr.sound := by
  induction l generalizing d with
  | nil => exact ⟨h, Nat.zero_le 2⟩
  | cons r l ih =>
    simp only [Dev.stageHeldFrom]
    split
    · exact ⟨h, hl⟩
    · exact ih (by simpa using h) (by simp at hl; omega)

theorem programComplete (h : d.mtr.sound) : d.programComplete.mtr.sound := by
  simp only [Dev.programComplete]
  split
  · exact h
  · exact h
  · next x p _ => simpa [Dev.stageHeld] using stageHeldFrom (d := d.setRst (d.rst.programmed x p)) d.mtr.holder h.1 h.2

theorem tariff (h : d.mtr.sound) (n : Byte) (l : List (BitVec 16 × Byte)) : (d.tariff n l).1.mtr.sound := by
  simp only [Dev.tariff]
  split
  · refine h.of_same ?_ ?_ <;>
    · simp only [Dev.accept, Dev.setMtr_mtr, Mtr.writeStandby]
      split <;> rfl
  · exact h

theorem decideOrder (h : d.mtr.sound) (g : OrderHead) (o : Order) : (d.decideOrder g o).1.mtr.sound := by
  by_cases ho : ∃ n l, o = .tariff n l
  · obtain ⟨n, l, rfl⟩ := ho
    simp only [Dev.decideOrder]
    split
    · exact h
    · exact h.tariff n l
  · exact (Mtr.keeps.refl d.mtr).decideOrder g (fun n l e => ho ⟨n, l, e⟩) |>.sound h

end

end Mtr.sound

/-! ### START (R129, R172) -/

/-- Raises reach the notice unit alone. -/
theorem Dev.raiseMany_eq (k : NoticeKind) (n : Nat) (d : Dev) : Dev.raiseMany k n d = d.setNtu (Dev.raiseMany k n d).ntu := by
  induction n generalizing d with
  | zero => rfl
  | succ n ih => exact ih (d.raise k)

/-- The meter at its START values, the configuration walked and the ring scanned (R129). -/
theorem Dev.scanned_mtr (mem : List Host.Cell) (pins : Pins) (d : Dev) : (d.stage1 mem pins).configure.scan.mtr = Mtr.start := by
  rw [(Dev.scan_frame _).2.2.2.2.2.2.2.2.2.2.1]
  simp only [Dev.configure]
  rw [Dev.raiseMany_eq]
  simp [Dev.stage1, Dev.reset]

theorem Mtr.sound.startOver (mem : List Host.Cell) (pins : Pins) (restart : Bool) (d : Dev) : (d.startOver mem pins restart).mtr.sound := by
  have hscan : Mtr.start.keeps (d.stage1 mem pins).configure.scan.mtr := by rw [Dev.scanned_mtr]; exact .refl _
  exact ((hscan.interruption restart).contactorCheck.linkEntry.runEntry).sound Mtr.sound.start

/-! ### The order path and the slot ends -/

theorem Mtr.sound.order {d : Dev} (h : d.mtr.sound) (g : OrderHead) (o : Order) : (d.order g o).mtr.sound := by
  have hroute {e : Dev} (he : e.mtr.sound) : (e.route g o).mtr.sound := by
    cases o with
    | restart pins =>
      simp only [Dev.route]
      split
      · exact Mtr.sound.startOver _ _ _ _
      · exact he
    | _ => exact he.decideOrder g _
  simp only [Dev.order]
  split_ifs
  · exact h
  · exact h
  · exact hroute h
  · simpa using h

theorem Mtr.sound.slotEnd {d : Dev} (h : d.mtr.sound) (k : Nat) (pins : Pins) : (d.slotEnd k pins).mtr.sound := by
  have hrole {e : Dev} (he : e.mtr.sound) (role : Role) (bytes : List Byte) (before : Ptb) :
      (e.byRole k role bytes pins before).mtr.sound := by
    have htime : ((e.viewNotice before false).timeHandOff k bytes).mtr.sound := Mtr.sound.timeHandOff (by simpa using he) k bytes
    cases role with
    | cell | vessel => simpa [Dev.byRole] using he
    | terminal =>
      simp only [Dev.byRole, Dev.terminalOrder]
      split
      · exact htime
      · exact htime.order _ _
  simp only [Dev.slotEnd, Dev.acceptedSlot]
  (repeat' split) <;> simp [h, hrole]

/-! ### Every command -/

/-- An effect that keeps the meter's limits, whatever the part. -/
def keepsMeter (f : Dev → Dev) : Prop := ∀ d : Dev, d.mtr.sound → (f d).mtr.sound

namespace keepsMeter

theorem ofEq {f : Dev → Dev} (h : ∀ d, (f d).mtr = d.mtr) : keepsMeter f := fun d hd => (h d).symm ▸ hd

theorem ofKeeps {f : Dev → Dev} (h : ∀ d : Dev, d.mtr.keeps (f d).mtr) : keepsMeter f := fun d => (h d).sound

theorem whenUp {f : Dev → Dev} (hf : keepsMeter f) : keepsMeter (Dev.whenUp f) := by
  intro d hd
  simp only [Dev.whenUp]
  split
  · exact hf d hd
  · exact hd

theorem order (g : OrderHead) (o : Order) : keepsMeter (Dev.order g o) := fun _ hd => hd.order g o

theorem resetPin (pins : Pins) : keepsMeter (Dev.resetPin pins) := by
  intro d hd
  simp only [Dev.resetPin]
  split
  · exact hd
  · exact Mtr.sound.startOver _ _ _ _

theorem supplyWarning : keepsMeter Dev.supplyWarning := by
  refine ofKeeps fun d => ?_
  simp only [Dev.supplyWarning]
  (repeat' split) <;> simp

theorem warningClear (pins : Pins) : keepsMeter (Dev.warningClear pins) := by
  intro d hd
  simp only [Dev.warningClear]
  split_ifs
  · exact Mtr.sound.startOver _ _ _ _
  · exact hd
  · exact hd

end keepsMeter

/-- Every command is such an effect: a set is counted (R131), a record requested (R141), the time moves on (R133), START (R129), or none of
these. -/
theorem exec_keepsMeter (c : Instr) : ∃ f, keepsMeter f ∧ ∀ s, exec c s = s.run f := by
  have hkeeps {f : Dev → Dev} (h : ∀ {m : Mtr} {d : Dev}, m.keeps d.mtr → m.keeps (f d).mtr) : keepsMeter (Dev.whenUp f) :=
    (keepsMeter.ofKeeps fun d => h (.refl d.mtr)).whenUp
  cases c with
  | powerUp pins => exact ⟨_, fun _ _ => Mtr.sound.startOver _ _ _ _, fun _ => rfl⟩
  | resetPin pins => exact ⟨_, keepsMeter.resetPin pins, fun _ => rfl⟩
  | supplyWarning => exact ⟨_, keepsMeter.supplyWarning, fun _ => rfl⟩
  | supplyWarningClear pins => exact ⟨_, keepsMeter.warningClear pins, fun _ => rfl⟩
  | powerFail => exact ⟨_, fun _ _ => Mtr.sound.start, fun _ => rfl⟩
  | sampleSet raw => exact ⟨_, hkeeps fun h => h.sampleSet raw, fun _ => rfl⟩
  | watchTimerExpiry => exact ⟨_, hkeeps fun h => h.watchTimerExpiry, fun _ => rfl⟩
  | overloadTimerExpiry => exact ⟨_, hkeeps fun h => h.overloadExpiry, fun _ => rfl⟩
  | cycleTimerExpiry => exact ⟨_, hkeeps fun h => h.beginCycle _, fun _ => rfl⟩
  | markReceived bytes start => exact ⟨_, hkeeps fun h => h.markReceived bytes start, fun _ => rfl⟩
  | ownSlotEnd heard overdrive => exact ⟨_, hkeeps fun h => h.ownSlotEnd heard overdrive, fun _ => rfl⟩
  | slotEnd slot => exact ⟨_, keepsMeter.whenUp fun _ h => h.slotEnd _ _, fun _ => rfl⟩
  | auxLevelQualified x closed => exact ⟨_, hkeeps fun h => h.auxLevel x closed, fun _ => rfl⟩
  | coilPulseTimerExpiry x => exact ⟨_, hkeeps fun h => h.pulseEnd x, fun _ => rfl⟩
  | confirmTimerExpiry x => exact ⟨_, hkeeps fun h => h.confirmEnd x, fun _ => rfl⟩
  | lowLoadTimerExpiry => exact ⟨_, hkeeps fun h => h.lowLoadExpiry, fun _ => rfl⟩
  | secondAdvance => exact ⟨_, keepsMeter.whenUp fun _ h => h.secondAdvance, fun _ => rfl⟩
  | pageProgramComplete => exact ⟨_, keepsMeter.whenUp fun _ h => h.programComplete, fun _ => rfl⟩
  | fallbackClose k | sendMark | markWindowClose | silenceCountExpiry | loneCountExpiry | ownBulletinAssembly
    | bulletinReceived bytes start | retryGapExpiry x | crossingWatchExpiry k | cellChannelTimeout | shipChannelTimeout | backOffExpiry
    | joinAgeTick | progressTimerExpiry | absoluteRampTimerExpiry | lowGeneratorTimerExpiry | releaseTimerExpiry | releaseWaitExpiry
    | leaveStallExpiry | packingTimerExpiry | storeAbsoluteTimerExpiry | sectorEraseComplete =>
    exact ⟨_, (keepsMeter.ofEq fun _ => by simp).whenUp, fun _ => rfl⟩
  | _ => exact ⟨_, (keepsMeter.order _ _).whenUp, fun _ => rfl⟩

/-- Settles O58: each write of the meter keeps its limits, and every command is made of such writes. -/
theorem meterStaysSound : Obligations.MeterStaysSound := by
  intro s t hs h
  unfold step at h
  split at h
  · obtain rfl : s = t := by simpa using h
    exact hs
  · next c rest _ =>
    obtain ⟨f, hf, he⟩ := exec_keepsMeter c
    rw [he] at h
    obtain rfl := Host.Outcome.next.inj h
    exact hf _ hs

end Sys2Proof.Machine

/-! # TARIFF (O40; R139, R177) -/

namespace Sys2Proof.Machine

/-! ### The schedule and the standby copy (R139) -/

theorem tariffValid_iff (count : Byte) (bands : List Band) :
    tariffValid count bands = true ↔
      1 ≤ count.toNat ∧ count.toNat ≤ 6 ∧ bands.length = count.toNat ∧ (∃ x r, bands = x :: r ∧ x.start = 0) ∧
        bands.Pairwise (fun x y => x.start < y.start) ∧ ∀ x ∈ bands, x.start ≤ 1439 ∧ x.cls ≤ 3 := by
  have hhead : bands.head?.map Band.start = some 0 ↔ ∃ x r, bands = x :: r ∧ x.start = 0 := by
    cases bands <;> simp
  simp only [tariffValid, Bool.and_eq_true, decide_eq_true_eq, beq_iff_eq, List.all_eq_true, hhead, and_assoc]

theorem Mtr.writeStandby_eq (m : Mtr) (bands : List Band) :
    m.writeStandby bands = { m with
      copyA := if m.active = .a then m.copyA else bands
      copyB := if m.active = .a then bands else m.copyB
      armed := true } := by
  unfold Mtr.writeStandby
  split <;> simp [*]

/-- The schedule in force stays where it is. -/
def Mtr.forceKept (m n : Mtr) : Prop :=
  n.active = m.active ∧ (m.active = .a → n.copyA = m.copyA) ∧ (m.active = .b → n.copyB = m.copyB)

theorem Mtr.keeps.forceKept {m n : Mtr} (h : m.keeps n) : m.forceKept n := ⟨h.active, fun _ => h.copyA, fun _ => h.copyB⟩

/-- The copy written is the one that is not active. -/
theorem Mtr.writeStandby_forceKept (m : Mtr) (bands : List Band) : m.forceKept (m.writeStandby bands) := by
  rw [Mtr.writeStandby_eq]
  exact ⟨rfl, fun ha => if_pos ha, fun hb => if_neg (by simp [hb])⟩

/-! ### The order at its owner -/

theorem Dev.tariff_of_valid {d : Dev} {n : Byte} {l : List (BitVec 16 × Byte)} (h : tariffValid n (tariffBands n l) = true) :
    d.tariff n l = (d.setMtr (d.mtr.writeStandby (tariffBands n l))).accept := if_pos h

theorem Dev.tariff_of_invalid {d : Dev} {n : Byte} {l : List (BitVec 16 × Byte)} (h : ¬tariffValid n (tariffBands n l) = true) :
    d.tariff n l = d.refuse .range := if_neg h

theorem exec_tariff {s : State} {h : OrderHead} (ht : s.dev.takes h) (n : Byte) (l : List (BitVec 16 × Byte)) :
    exec (.tariff h n l) s = .next { s with dev := Dev.reply ((s.dev.routed .tariff h).tariff n l) } := by
  have hrun : (s.dev.routed (Order.tariff n l).kind h).run ≠ .shutdown := by simp [ht.1]
  refine (State.run_order ht (.tariff n l) (by simp)).trans ?_
  simp only [Dev.decideOrder, if_neg hrun]
  rfl

/-- An accepted order whose effect stays in the meter, replied to. -/
theorem Dev.reply_accept_setMtr {d : Dev} {h : OrderHead} (ht : d.takes h) (k : OrderKind) (m : Mtr) :
    Dev.reply ((d.routed k h).setMtr m).accept = { d.answered k h .accepted with mtr := m } := by
  rw [← Dev.reply_routed ht]
  rfl

/-! ### The schedule in force through the order path -/

theorem Dev.decideOrder_forceKept (d : Dev) (g : OrderHead) (o : Order) : d.mtr.forceKept (d.decideOrder g o).1.mtr := by
  by_cases ho : ∃ n l, o = .tariff n l
  · obtain ⟨n, l, rfl⟩ := ho
    simp only [Dev.decideOrder]
    split
    · exact (Mtr.keeps.refl d.mtr).forceKept
    · by_cases hv : tariffValid n (tariffBands n l) = true
      · rw [Dev.tariff_of_valid hv]
        exact d.mtr.writeStandby_forceKept _
      · rw [Dev.tariff_of_invalid hv]
        exact (Mtr.keeps.refl d.mtr).forceKept
  · exact ((Mtr.keeps.refl d.mtr).decideOrder g fun n l e => ho ⟨n, l, e⟩).forceKept

theorem Dev.order_forceKept (d : Dev) (g : OrderHead) {o : Order} (ho : ∀ pins, o ≠ .restart pins) :
    d.mtr.forceKept (d.order g o).mtr := by
  have hsame : d.mtr.forceKept d.mtr := (Mtr.keeps.refl d.mtr).forceKept
  have hroute (e : Dev) : e.mtr.forceKept (e.route g o).mtr := by
    cases o with
    | restart pins => exact absurd rfl (ho pins)
    | _ => exact e.decideOrder_forceKept g _
  simp only [Dev.order]
  split_ifs
  · exact hsame
  · exact hsame
  · exact hroute ((d.setLnk _).setNtu _)
  · simpa using hsame

/-! ### The settlement -/

/-- Settles O40: the schedule's tests, the standby copy, and the schedule in force under every order. -/
theorem tariffWritesTheStandbyCopy : Obligations.TariffWritesTheStandbyCopy := by
  intro s h count groups bands valid
  have hvalid : tariffValid count (tariffBands count groups) = true ↔ valid := tariffValid_iff count bands
  refine ⟨fun ht hn => ?_, fun ht hv => ?_, fun hs ha hr hf hans => ?_, fun c t hc hn hexec => ?_⟩
  · rw [exec_tariff ht, Dev.tariff_of_invalid (hvalid.not.2 hn)]
    exact State.next_reply ht _ _
  · rw [exec_tariff ht, Dev.tariff_of_valid (hvalid.2 hv), Dev.reply_accept_setMtr ht, Mtr.writeStandby_eq]
    simp only [Dev.routed_frame]
    rfl
  · refine (State.run_up (.inr hs) _).trans ?_
    rw [State.onDev, Dev.order_of_place ha hr hf, Dev.route_of_shutdown (by simpa using hs)]
    exact congrArg _ (congrArg _ (Dev.reply_routed_of_answered hans _ _ _))
  · obtain ⟨o, hkind, hrun⟩ := exec_of_head hc
    have ho (pins : Pins) : o ≠ .restart pins := by
      rintro rfl
      cases c <;> cases hkind
      case restart g p => exact hn p (by cases hc; rfl)
    rw [hrun] at hexec
    obtain rfl := Host.Outcome.next.inj hexec
    have hkept : s.dev.mtr.forceKept (Dev.whenUp (Dev.order h o) s.dev).mtr := by
      simp only [Dev.whenUp]
      split
      · exact s.dev.order_forceKept h ho
      · exact (Mtr.keeps.refl _).forceKept
    exact hkept

end Sys2Proof.Machine

/-! # An admitted set at the meter (O13; R130, R131, R141, R142, R149) -/

namespace Sys2Proof.Machine

/-! ### The blocks behind the meter (R12, R91, R115) -/

/-- A close that a MET starts finds its contactor OPEN, so no membership ends. -/
theorem Dev.takeMet_meter (d : Dev) : d.takeMet.mtr = d.mtr ∧ d.takeMet.rst = d.rst := by
  simp only [Dev.takeMet]
  split
  · exact ⟨rfl, rfl⟩
  · split
    · next hmet =>
      rw [Dev.startClose, Dev.changeCon_from_opened hmet.2.1 (by simp [Contactor.startClose]) (by simp [Contactor.startClose])]
      split <;> simp
    · exact ⟨rfl, rfl⟩

theorem Dev.takeCrossings_meter (d : Dev) (bus ship : Bool) :
    (d.takeCrossings bus ship).mtr = d.mtr ∧ (d.takeCrossings bus ship).rst = d.rst := by
  have hbus : d.busCrossing.mtr = d.mtr ∧ d.busCrossing.rst = d.rst := by
    simp only [Dev.busCrossing]
    (repeat' split) <;> simp [Dev.takeMet_meter]
  simp only [Dev.takeCrossings]
  cases bus <;> cases ship <;> simp [hbus]

/-- A set below the overcurrent level leaves the meter and the store as metered. -/
theorem Dev.sampleSet_meter {d : Dev} {r : RawSet} (h : d.admits r) (hl : ¬(calibrated d.cfg.gains r).overLevel d.cfg.iTrip) :
    (d.sampleSet r).mtr = (d.metered r).mtr ∧ (d.sampleSet r).rst = (d.metered r).rst := by
  obtain ⟨c, bus, ship, he⟩ := Dev.sampleSet_eq h
  have htrip : (d.metered r).overTrip (d.comparatorTrips r) = d.metered r :=
    if_neg fun ht => hl ((d.comparatorTrips_iff r).1 ht).1
  rw [he, htrip]
  obtain ⟨hmtr, hrst⟩ := ((d.metered r).takeCond c).takeCrossings_meter bus ship
  exact ⟨hmtr.trans (by simp), hrst.trans (by simp)⟩

/-! ### Whether a set is metered (R130) -/

section
variable {d : Dev}

theorem Dev.meteredUnder_of_member {x : Outlet} {ses : Session} (hr : d.run = .running) (hx : d.hoc.assignment = some x)
    (hc : d.con x = .closed) (hs : d.hoc.session x = some ses) : d.meteredUnder = some (x, ses) := by
  simp [Dev.meteredUnder, Dev.ownMember, Dev.ownCon, hr, hx, hc, hs]

theorem Dev.meteredUnder_of_not_member (h : d.run ≠ .running ∨ d.ownCon ≠ some .closed ∨ d.hoc.ownSession = none) :
    d.meteredUnder = none := by
  unfold Dev.meteredUnder
  split
  · next hm =>
    obtain ⟨hc, hr⟩ : d.ownCon = some .closed ∧ d.run = .running := by simpa [Dev.ownMember] using hm
    have hnone : d.hoc.ownSession = none := (h.resolve_left (not_not.2 hr)).resolve_left (not_not.2 hc)
    simp only [Hoc.ownSession, Option.bind_eq_none_iff] at hnone
    simp only [Option.bind_eq_none_iff, Option.map_eq_none_iff]
    exact hnone
  · rfl

/-! ### A metered set (R131) -/

theorem Dev.meterSet_of_unmetered (h : d.meteredUnder = none) (p : Int) : d.meterSet p = d := by simp only [Dev.meterSet, h]

theorem Dev.meterSet_of_membership {x : Outlet} {ses : Session} {m : Membership} (h : d.meteredUnder = some (x, ses))
    (hm : d.mtr.membership = some m) (p : Int) : d.meterSet p = d.setMtr (d.mtr.count p) := by
  simp [Dev.meterSet, h, hm]

theorem Dev.meterSet_of_no_membership {x : Outlet} {ses : Session} (h : d.meteredUnder = some (x, ses))
    (hm : d.mtr.membership = none) (p : Int) :
    d.meterSet p = (d.beginMembership x ses).setMtr ((d.beginMembership x ses).mtr.count p) := by
  simp [Dev.meterSet, h, hm]

/-- What a membership takes from the session record (R130). -/
def Session.membership (ses : Session) (x : Outlet) : Membership := ⟨ses.id, x, ses.fNom, ses.demand⟩

/-- The meter at the first metered set of a membership, its record not yet requested (R130). -/
def Mtr.begun (m : Mtr) (k : Membership) : Mtr :=
  { m with membership := some k, totImport := 0, totExport := 0, totCount := 0, interval := { m.interval with session := some k.id } }

theorem Dev.beginMembership_eq (d : Dev) (x : Outlet) (ses : Session) :
    d.beginMembership x ses =
      (d.setMtr (d.mtr.begun (ses.membership x))).requestSession (.sessionJoin (ses.membership x) d.mtr.stamp) := rfl

end

/-- R141, R142, R149: where a session record goes that is requested of a meter and a store. -/
def Mtr.requestGoes (m : Mtr) (r : Rst) (x : Rec) (n : Mtr) (t : Rst) : Prop :=
  (m.holder = [] → 1 ≤ r.free → r.tookRecords [x] t ∧ n.holder = []) ∧
    (m.holder ≠ [] ∨ r.free = 0 → t = r ∧
      (m.holder.length < 2 → n.holder = m.holder ++ [x] ∧ n.dropped = m.dropped) ∧
      (2 ≤ m.holder.length → n.holder = m.holder ∧ n.dropped = min 255 (m.dropped + 1)))

theorem Dev.requestSession_goes (d : Dev) (x : Rec) :
    d.mtr.requestGoes d.rst x (d.requestSession x).mtr (d.requestSession x).rst := by
  refine ⟨fun hh hf => ?_, fun hfull => ?_⟩
  · obtain ⟨htook, hmtr⟩ := Dev.requestSession_tookRecords hh (by omega) x
    exact ⟨htook, by rw [hmtr, hh]⟩
  · obtain ⟨hh, hf, -⟩ | ⟨-, heq⟩ := d.requestSession_cases x
    · exact absurd hfull (by simp [hh, hf])
    · rw [heq]
      refine ⟨rfl, fun hl => ?_, fun hl => ?_⟩
      · simp [Mtr.hold, hl]
      · simp [Mtr.hold, Nat.not_lt.2 hl]

/-! ### The settlement -/

/-- Settles O13: the energy of a metered set, and the request at the first set of a membership. -/
theorem meteredSetCountsWholeWattHours : Obligations.MeteredSetCountsWholeWattHours := by
  intro s raw h hl p n
  obtain ⟨hmtr, hrst⟩ := Dev.sampleSet_meter h hl
  obtain ⟨e, he⟩ : ∃ e : Dev, s.dev.metered raw = e.meterSet p ∧ e.mtr = s.dev.mtr ∧ e.rst = s.dev.rst ∧
      e.meteredUnder = s.dev.meteredUnder :=
    ⟨_, rfl, by simp, by simp, by simp [Dev.meteredUnder, Dev.ownMember, Dev.ownCon, Dev.con]⟩
  obtain ⟨hmet, hem, her, heu⟩ := he
  rw [hmet] at hmtr hrst
  refine ⟨fun x ses hr hx hc hs => ⟨_, exec_sampleSet_up h.1 raw, rfl, ?_⟩,
    fun hn => ⟨_, exec_sampleSet_up h.1 raw, rfl, ?_⟩⟩
  · have hu := heu.trans (Dev.meteredUnder_of_member hr hx hc hs)
    simp only [State.onDev_dev, hmtr, hrst]
    cases hm : s.dev.mtr.membership with
    | some k =>
      rw [Dev.meterSet_of_membership hu (hem ▸ hm), hem]
      exact ⟨rfl, natAbs_sub_tdiv_mul_lt _, rfl, rfl, rfl, rfl, fun m hk => ⟨hm.trans hk, rfl, rfl⟩, nofun, fun _ => her⟩
    | none =>
      obtain ⟨held, dropped, hjoin⟩ := (e.setMtr (e.mtr.begun (ses.membership x))).requestSession_mtr
        (.sessionJoin (ses.membership x) e.mtr.stamp)
      have hgoes := (e.setMtr (e.mtr.begun (ses.membership x))).requestSession_goes (.sessionJoin (ses.membership x) e.mtr.stamp)
      rw [Dev.meterSet_of_no_membership hu (hem ▸ hm), Dev.beginMembership_eq]
      rw [hjoin] at hgoes ⊢
      simp only [Dev.setMtr_mtr, Dev.setMtr_rst, hem, her] at hgoes ⊢
      exact ⟨rfl, natAbs_sub_tdiv_mul_lt _, rfl, rfl, rfl, rfl, nofun,
        fun _ => ⟨rfl, Nat.zero_add _, Nat.zero_add _, rfl, hgoes⟩, fun hne => absurd rfl hne⟩
  · have hu := heu.trans (Dev.meteredUnder_of_not_member hn)
    rw [State.onDev_dev, hmtr, Dev.meterSet_of_unmetered hu, hem]

end Sys2Proof.Machine

/-! # The engine of the record store, said once (R152 to R156) -/

namespace Sys2Proof.Machine

/-! ### What the engine works on and what it leaves -/

/-- The bytes, the write position, the confirmed mark and the protected count stand as they were. -/
structure Rst.sameGround (r t : Rst) : Prop where
  mem : t.mem = r.mem
  protect : t.protect = r.protect
  posSector : t.posSector = r.posSector
  posPage : t.posPage = r.posPage
  mark : t.mark = r.mark

theorem Rst.sameGround.trans {r t u : Rst} (h : r.sameGround t) (g : t.sameGround u) : r.sameGround u :=
  ⟨g.mem.trans h.mem, g.protect.trans h.protect, g.posSector.trans h.posSector, g.posPage.trans h.posPage, g.mark.trans h.mark⟩

/-- Erase, pre-erase, program and FULL write these fields alone (R153 lines 2 to 4). -/
def Rst.workedTo (r t : Rst) : Prop :=
  t = { r with
    queue := t.queue, drain := t.drain, packTimer := t.packTimer, absTimer := t.absTimer, engine := t.engine, full := t.full
    preErase := t.preErase }

theorem Rst.workedTo.ground {r t : Rst} (h : r.workedTo t) : r.sameGround t := by
  constructor <;> rw [h]

theorem Rst.startProgram_workedTo (r : Rst) : r.workedTo r.startProgram := by
  unfold Rst.workedTo
  simp only [Rst.startProgram]
  (repeat' split) <;> rfl

/-- R153: the erase of the page at the write position, FULL, a pre-erase, a page program, or nothing. -/
theorem Dev.engineWork_cases (d : Dev) :
    (d.rst.posErased = false ∧ d.rst.full = false ∧ d.rst.eligible d.rst.posSector = true ∧
      d.engineWork = d.setRst { d.rst with engine := .erasing d.rst.posSector }) ∨
    (d.rst.posErased = false ∧ d.rst.full = false ∧ d.rst.eligible d.rst.posSector = false ∧
      d.engineWork = (d.setRst { d.rst with full := true }).raise .storeFull) ∨
    ((d.rst.posErased = true ∨ d.rst.full = true) ∧
      (d.rst.preErase = true ∧ d.rst.preEraseTest = true ∧ d.rst.full = false ∧ d.run ≠ .shutdown ∧
          d.engineWork = d.setRst { d.rst with engine := .erasing (d.rst.next d.rst.posSector), preErase := false } ∨
        ¬(d.rst.preErase = true ∧ d.rst.preEraseTest = true ∧ d.rst.full = false ∧ d.run ≠ .shutdown) ∧
          (d.rst.writeBackDue = true ∧ d.rst.full = false ∧ d.engineWork = d.setRst d.rst.startProgram ∨
            ¬(d.rst.writeBackDue = true ∧ d.rst.posErased = true ∧ d.rst.full = false) ∧ d.engineWork = d))) := by
  simp only [Dev.engineWork]
  cases hp : d.rst.posErased <;> cases hf : d.rst.full <;> simp
  · cases d.rst.eligible d.rst.posSector <;> simp
  · by_cases hpre : (d.rst.preErase = true ∧ d.rst.preEraseTest = true) ∧ ¬d.run = .shutdown
    · simp [hpre]
    · rw [if_neg hpre]
      by_cases hw : d.rst.writeBackDue = true
      · simp only [hw]; tauto
      · simp only [hw]; tauto

theorem Dev.engineWork_workedTo (d : Dev) : d.rst.workedTo d.engineWork.rst := by
  obtain ⟨-, -, -, h⟩ | ⟨-, -, -, h⟩ | ⟨-, ⟨-, -, -, -, h⟩ | ⟨-, ⟨-, -, h⟩ | ⟨-, h⟩⟩⟩ := d.engineWork_cases <;> rw [h]
  case inr.inr.inr.inl => exact d.rst.startProgram_workedTo
  all_goals rfl

/-- R160: a read, and the slots that it drops, leave the ground. -/
theorem Dev.collectionRead_ground (d : Dev) : d.rst.sameGround d.collectionRead.rst := by
  have hloop (n : Nat) (j : Job) (e : Dev) : e.rst.sameGround (Dev.readLoop n j e).rst := by
    induction n generalizing e with
    | zero => exact ⟨rfl, rfl, rfl, rfl, rfl⟩
    | succ n ih =>
      simp only [Dev.readLoop]
      split
      · exact ⟨rfl, rfl, rfl, rfl, rfl⟩
      · next g _ =>
        have hdrop : e.rst.sameGround (e.rst.dropSlot g) := ⟨rfl, rfl, rfl, rfl, rfl⟩
        exact hdrop.trans (ih ((e.setRst (e.rst.dropSlot g)).raise .badRecord))
  simp only [Dev.collectionRead]
  (repeat' split)
  · exact ⟨rfl, rfl, rfl, rfl, rfl⟩
  · exact ⟨rfl, rfl, rfl, rfl, rfl⟩
  · exact hloop _ _ _

theorem Dev.engineChoice_ground (d : Dev) : d.rst.sameGround d.engineChoice.rst := by
  simp only [Dev.engineChoice]
  split
  · exact d.collectionRead_ground.trans d.collectionRead.engineWork_workedTo.ground
  · exact ⟨rfl, rfl, rfl, rfl, rfl⟩

/-- With no read to make, the engine's choice works on the ring as it stands. -/
theorem Dev.engineChoice_workedTo {d : Dev} (h : d.rst.settled) : d.rst.workedTo d.engineChoice.rst := by
  simp only [Dev.engineChoice, Dev.collectionRead_of_settled h]
  split
  · exact d.engineWork_workedTo
  · rfl

/-- R157: the count test writes the low condition alone. -/
theorem Dev.availableTest_rst (d : Dev) (scan : Bool) :
    (d.availableTest scan).rst = { d.rst with low := decide (d.rst.available ≤ d.cfg.nearFull) } := by
  simp [Dev.availableTest]

/-! ### What follows a completion: the count test, then the engine's choice (log entry 52) -/

/-- A completion's last two steps. -/
def Dev.testAndChoose (d : Dev) : Dev := (d.availableTest false).engineChoice

theorem Dev.testAndChoose_ground (d : Dev) : d.rst.sameGround d.testAndChoose.rst := by
  have htest : d.rst.sameGround (d.availableTest false).rst := by rw [Dev.availableTest_rst]; exact ⟨rfl, rfl, rfl, rfl, rfl⟩
  exact htest.trans (Dev.engineChoice_ground _)

theorem Dev.testAndChoose_sameStaged (d : Dev) : d.rst.sameStaged d.testAndChoose.rst := by
  have htest : d.rst.sameStaged (d.availableTest false).rst := by rw [Dev.availableTest_rst]; exact ⟨rfl, rfl⟩
  exact htest.trans (Dev.engineChoice_sameStaged _)

/-- With no read to make, the held slots and the sector table stand. -/
theorem Dev.testAndChoose_ring {d : Dev} (h : d.rst.settled) :
    d.testAndChoose.rst.slots = d.rst.slots ∧ d.testAndChoose.rst.table = d.rst.table := by
  have hset : (d.availableTest false).rst.settled := by rw [Dev.availableTest_rst]; exact h
  have hwork := Dev.engineChoice_workedTo hset
  rw [Dev.availableTest_rst] at hwork
  exact ⟨by rw [Dev.testAndChoose, hwork], by rw [Dev.testAndChoose, hwork]⟩

theorem Dev.testAndChoose_frame (d : Dev) :
    d.testAndChoose = { d with rst := d.testAndChoose.rst, ntu := d.testAndChoose.ntu } := by
  obtain ⟨hrun, hpins, hcfg, hlnk, hptb, hmsu, hsyu, hctc, hsyn, hhoc, hmtr, hfree⟩ := (d.availableTest false).engineChoice_frame
  obtain ⟨grun, gpins, gcfg, glnk, gptb, gmsu, gsyu, gctc, gsyn, ghoc, gmtr, gfree⟩ := d.availableTest_frame false
  rw [← grun, ← gpins, ← gcfg, ← glnk, ← gptb, ← gmsu, ← gsyu, ← gctc, ← gsyn, ← ghoc, ← gmtr, ← gfree, ← hrun, ← hpins, ← hcfg,
    ← hlnk, ← hptb, ← hmsu, ← hsyu, ← hctc, ← hsyn, ← hhoc, ← hmtr, ← hfree]
  rfl

/-! ### The write position (R152, R163) -/

/-- The first erased page behind a page. -/
theorem nextErasedPage_eq_some {m : List Host.Cell} {x : Fin 64} {p : Nat} {q : Fin 8} (h : nextErasedPage m x p = some q) :
    p < q.val ∧ pageErased m x q = true ∧ ∀ u : Fin 8, p < u.val → u < q → pageErased m x u = false := by
  obtain ⟨hq, before, after, hsplit, hbefore⟩ := List.find?_eq_some_iff_append.1 h
  simp only [Bool.and_eq_true, decide_eq_true_eq] at hq
  refine ⟨hq.1, hq.2, fun u hpu huq => ?_⟩
  have hsorted := List.pairwise_lt_finRange 8
  have hmem : u ∈ List.finRange 8 := List.mem_finRange u
  rw [hsplit] at hsorted hmem
  rcases List.mem_append.1 hmem with hu | hu
  · simpa [hpu] using hbefore u hu
  · exfalso
    rcases List.mem_cons.1 hu with rfl | hu
    · exact absurd huq (lt_irrefl _)
    · have hlt := List.rel_of_pairwise_cons (List.pairwise_append.1 hsorted).2.1 hu
      exact absurd (huq.trans hlt) (lt_irrefl _)

theorem nextErasedPage_eq_none {m : List Host.Cell} {x : Fin 64} {p : Nat} (h : nextErasedPage m x p = none) (u : Fin 8)
    (hu : p < u.val) : pageErased m x u = false := by
  simpa [hu] using List.find?_eq_none.1 h u (List.mem_finRange u)

/-- R152, R163: the next erased page of the sector, or page 0 of the next one where there is none. -/
theorem Rst.placeAfter_place (r : Rst) (x : Fin 64) (p : Nat) :
    ((r.placeAfter x p).posSector = x ∧ p < (r.placeAfter x p).posPage.val ∧ pageErased r.mem x (r.placeAfter x p).posPage = true ∧
        ∀ u : Fin 8, p < u.val → u < (r.placeAfter x p).posPage → pageErased r.mem x u = false) ∨
      ((∀ u : Fin 8, p < u.val → pageErased r.mem x u = false) ∧ (r.placeAfter x p).posSector = r.next x ∧
        (r.placeAfter x p).posPage = 0) := by
  simp only [Rst.placeAfter]
  cases hq : nextErasedPage r.mem x p with
  | some q => exact .inl ⟨rfl, nextErasedPage_eq_some hq⟩
  | none => exact .inr ⟨nextErasedPage_eq_none hq, rfl, rfl⟩

/-- The move of the write position leaves every other field but the pre-erase mark. -/
theorem Rst.placeAfter_landed_eq (r : Rst) (x : Fin 64) (p : Nat) :
    (r.placeAfter x p).landed = { r with
      posSector := (r.placeAfter x p).posSector, posPage := (r.placeAfter x p).posPage
      preErase := (r.placeAfter x p).landed.preErase } := by
  cases h : nextErasedPage r.mem x p <;> simp only [Rst.landed, Rst.placeAfter, h]

end Sys2Proof.Machine

/-! # Completions, held records staged, and the images of records (O52; R142, R149, R152 to R154, R178, Table 12-7) -/

namespace Sys2Proof.Machine

/-! ### Held records staged (R142, R149) -/

theorem Rst.taken_tookRecords (c : Cfg) (x : Rec) (r : Rst) : r.tookRecords [x] (r.taken c x) := by
  obtain ⟨hn, hs⟩ := (r.join x).afterJoin_sameStaged c
  exact ⟨hn, hs.trans (r.join_staged x)⟩

/-- An entry that joins the queue leaves the ring and the engine. -/
theorem Rst.taken_ground (c : Cfg) (x : Rec) (r : Rst) : r.sameGround (r.taken c x) := by
  obtain ⟨_, _, _, h, -⟩ := r.taken_eq c x
  rw [h]
  exact ⟨rfl, rfl, rfl, rfl, rfl⟩

theorem Dev.stageHeldFrom_ground (l : List Rec) (d : Dev) : d.rst.sameGround (Dev.stageHeldFrom l d).rst := by
  induction l generalizing d with
  | nil => exact ⟨rfl, rfl, rfl, rfl, rfl⟩
  | cons x l ih =>
    simp only [Dev.stageHeldFrom]
    split
    · exact ⟨rfl, rfl, rfl, rfl, rfl⟩
    · exact (d.rst.taken_ground d.cfg x).trans (ih (d.joinOnly x))

/-- Short of the last sequence numbers, as many records are staged as entries are free, oldest first. -/
theorem Dev.stageHeldFrom_took (l : List Rec) {d : Dev} (hn : d.rst.newest + l.length < 4294967295) :
    (Dev.stageHeldFrom l d).mtr = { d.mtr with holder := l.drop d.rst.free } ∧
      d.rst.tookRecords (l.take d.rst.free) (Dev.stageHeldFrom l d).rst := by
  induction l generalizing d with
  | nil => simpa [Dev.stageHeldFrom] using d.rst.tookRecords_nil
  | cons x l ih =>
    rw [List.length_cons] at hn
    simp only [Dev.stageHeldFrom]
    split
    · next hf =>
      rw [hf]
      exact ⟨rfl, d.rst.tookRecords_nil⟩
    · next hf =>
      have htook : d.rst.tookRecords [x] (d.joinOnly x).rst := d.rst.taken_tookRecords d.cfg x
      have hnew : (d.joinOnly x).rst.newest = d.rst.newest + 1 := htook.1
      have hfree : d.rst.free = (d.joinOnly x).rst.free + 1 := by
        have := Rst.free_of_tookRecords htook (by simp only [List.length_singleton]; omega)
        rw [List.length_singleton] at this
        omega
      obtain ⟨hmtr, hrest⟩ := ih (d := d.joinOnly x) (by omega)
      rw [hfree]
      exact ⟨by simpa using hmtr, Rst.tookRecords_append htook hrest⟩

theorem Rst.free_of_newest {r : Rst} (h : r.newest < 4294967295) : r.free = 16 - r.queue.length := if_neg (by omega)

/-! ### The page program completes (R152) -/

/-- The slots of a page stand at consecutive places from its first on. -/
theorem heldFrom_eq_mapIdx (n : Nat) (l : List Staged) : heldFrom n l = l.mapIdx (fun i e => ⟨n + i, e.seq⟩) := by
  induction l generalizing n with
  | nil => rfl
  | cons e l ih =>
    rw [heldFrom, ih, List.mapIdx_cons]
    congr 2
    funext i g
    rw [Nat.add_right_comm, Nat.add_assoc]

theorem slotAddr_pageSlot (x : Fin 64) (p : Fin 8) : slotAddr (pageSlot x p) = x.val * 1024 + p.val * 128 := by
  simp only [slotAddr, pageSlot]
  omega

/-- The store when a page program has completed, its write position still to move (R152). -/
def Rst.pageDone (r : Rst) (x : Fin 64) (p : Fin 8) : Rst :=
  { r with
    mem := memWriteBytes r.mem (x.val * 1024 + p.val * 128) r.programImages
    slots := r.slots ++ (r.queue.filter Staged.inProgram).mapIdx (fun i e => ⟨x.val * 32 + p.val * 4 + i, e.seq⟩)
    table := r.table.set x ⟨true, (r.queue.filter Staged.inProgram).getLast?.map Staged.seq⟩
    queue := r.waiting
    engine := .idle }

theorem Rst.programmed_eq (r : Rst) (x : Fin 64) (p : Fin 8) : r.programmed x p = ((r.pageDone x p).placeAfter x p.val).landed := by
  simp only [Rst.programmed, heldFrom_eq_mapIdx, slotAddr_pageSlot]
  rfl

/-- The programmed page leaves what waits. -/
theorem Rst.programmed_staged (r : Rst) (x : Fin 64) (p : Fin 8) :
    (r.programmed x p).queue = r.waiting ∧ (r.programmed x p).newest = r.newest := by
  rw [Rst.programmed_eq, Rst.placeAfter_landed_eq]
  exact ⟨rfl, rfl⟩

theorem Rst.sameStaged.seqs {r t : Rst} (h : r.sameStaged t) : t.queue.map Staged.seq = r.queue.map Staged.seq := by
  simpa [Rst.staged, Function.comp_def] using congrArg (List.map Prod.fst) h.2

section
variable {d : Dev} {x : Fin 64} {p : Fin 8}

theorem Dev.programComplete_of_other (h : ∀ x p, d.rst.engine ≠ .programming x p) : d.programComplete = d := by
  cases he : d.rst.engine <;> simp only [Dev.programComplete, he]
  exact absurd he (h _ _)

theorem Dev.programComplete_of_programming (h : d.rst.engine = .programming x p) :
    d.programComplete = (d.setRst (d.rst.programmed x p)).stageHeld.testAndChoose := by
  simp only [Dev.programComplete, h]
  rfl

/-- A completion reaches the meter, the store and the notices, and no other block. -/
theorem Dev.programComplete_eq (d : Dev) :
    d.programComplete = { d with
      mtr := d.programComplete.mtr, rst := d.programComplete.rst, ntu := d.programComplete.ntu } := by
  obtain ⟨hrun, hpins, hcfg, hlnk, hptb, hmsu, hsyu, hctc, hsyn, hhoc, hfree⟩ := d.programComplete_frame
  rw [← hrun, ← hpins, ← hcfg, ← hlnk, ← hptb, ← hmsu, ← hsyu, ← hctc, ← hsyn, ← hhoc, ← hfree]

/-- The bytes, the write position and the mark after a completion are those of the programmed page. -/
theorem Dev.programComplete_ground (h : d.rst.engine = .programming x p) :
    (d.rst.programmed x p).sameGround d.programComplete.rst := by
  rw [Dev.programComplete_of_programming h]
  exact (Dev.stageHeldFrom_ground _ (d.setRst (d.rst.programmed x p))).trans (Dev.testAndChoose_ground _)

/-- R142, R149: the records of the holder that find an entry free. -/
theorem Dev.programComplete_took (h : d.rst.engine = .programming x p) (hn : d.rst.newest + d.mtr.holder.length < 4294967295) :
    d.programComplete.mtr = { d.mtr with holder := d.mtr.holder.drop (16 - d.rst.waiting.length) } ∧
      ({ d.rst with queue := d.rst.waiting } : Rst).tookRecords (d.mtr.holder.take (16 - d.rst.waiting.length))
        d.programComplete.rst := by
  obtain ⟨hqueue, hnew⟩ := d.rst.programmed_staged x p
  have hfree : (d.rst.programmed x p).free = 16 - d.rst.waiting.length := by
    rw [Rst.free_of_newest (by omega), hqueue]
  obtain ⟨hmtr, htook, hstaged⟩ :=
    Dev.stageHeldFrom_took d.mtr.holder (d := d.setRst (d.rst.programmed x p)) (by simpa only [Dev.setRst_rst, hnew] using hn)
  simp only [Dev.setRst_rst, hfree] at hmtr htook hstaged
  obtain ⟨gn, gs⟩ := Dev.testAndChoose_sameStaged (d.setRst (d.rst.programmed x p)).stageHeld
  rw [Dev.programComplete_of_programming h]
  refine ⟨?_, gn.trans ?_, gs.trans ?_⟩
  · rw [Dev.testAndChoose_frame]
    exact hmtr
  · rw [← hnew]
    exact htook
  · rw [← hnew]
    refine hstaged.trans ?_
    simp only [Rst.staged, hqueue]

/-- With no record held, nothing is staged: the tests and the engine's choice follow the programmed page at once. -/
theorem Dev.programComplete_of_nil (h : d.rst.engine = .programming x p) (hh : d.mtr.holder = []) :
    d.programComplete.rst = (d.setRst (d.rst.programmed x p)).testAndChoose.rst := by
  have hnone : (d.setRst (d.rst.programmed x p)).stageHeld = (d.setRst (d.rst.programmed x p)).setMtr { d.mtr with holder := [] } := by
    simp [Dev.stageHeld, hh, Dev.stageHeldFrom]
  have hsame : ({ d.mtr with holder := [] } : Mtr) = d.mtr := by rw [← hh]
  rw [Dev.programComplete_of_programming h, hnone, hsame]
  rfl

/-- With no record held, what waits is staged still, in the order it had. -/
theorem Dev.programComplete_staged_of_nil (h : d.rst.engine = .programming x p) (hh : d.mtr.holder = []) :
    d.programComplete.rst.newest = d.rst.newest ∧ d.programComplete.rst.queue.map Staged.seq = d.rst.waiting.map Staged.seq := by
  obtain ⟨hqueue, hnew⟩ := d.rst.programmed_staged x p
  have hsame := (d.setRst (d.rst.programmed x p)).testAndChoose_sameStaged
  rw [Dev.programComplete_of_nil h hh]
  exact ⟨hsame.1.trans hnew, hsame.seqs.trans (by rw [Dev.setRst_rst, hqueue])⟩

/-- With no read to make and no record held, the ring is that of the programmed page. -/
theorem Dev.programComplete_ring (h : d.rst.engine = .programming x p) (hj : d.rst.settled) (hh : d.mtr.holder = []) :
    d.programComplete.rst.slots = (d.rst.pageDone x p).slots ∧ d.programComplete.rst.table = (d.rst.pageDone x p).table := by
  have hplace := (d.rst.pageDone x p).placeAfter_landed_eq x p.val
  rw [← Rst.programmed_eq] at hplace
  have hset : (d.setRst (d.rst.programmed x p)).rst.settled := by
    rw [Dev.setRst_rst, hplace]
    exact hj
  obtain ⟨hslots, htable⟩ := Dev.testAndChoose_ring hset
  rw [Dev.programComplete_of_nil h hh, hslots, htable, Dev.setRst_rst, hplace]
  exact ⟨rfl, rfl⟩

/-- R152: the write position after the program, over the bytes that it left. -/
theorem Dev.programComplete_place (h : d.rst.engine = .programming x p) :
    (∃ q : Fin 8, d.programComplete.rst.posSector = x ∧ d.programComplete.rst.posPage = q ∧ p < q ∧
        pageErased d.programComplete.rst.mem x q = true ∧
        ∀ u : Fin 8, p < u → u < q → pageErased d.programComplete.rst.mem x u = false) ∨
      ((∀ u : Fin 8, p < u → pageErased d.programComplete.rst.mem x u = false) ∧
        d.programComplete.rst.posSector = (if x = 63 then d.rst.protect else x + 1) ∧ d.programComplete.rst.posPage = 0) := by
  have hground := Dev.programComplete_ground h
  rw [Rst.programmed_eq, Rst.placeAfter_landed_eq] at hground
  rw [hground.mem, hground.posSector, hground.posPage]
  obtain ⟨hsector, hlt, herased, hbetween⟩ | ⟨hnone, hsector, hpage⟩ := (d.rst.pageDone x p).placeAfter_place x p.val
  · exact .inl ⟨_, hsector, rfl, hlt, herased, hbetween⟩
  · exact .inr ⟨hnone, hsector, hpage⟩

/-- R152: the images reach the bytes of the page. -/
theorem Dev.programComplete_mem (h : d.rst.engine = .programming x p) :
    d.programComplete.rst.mem = memWriteBytes d.rst.mem (x.val * 1024 + p.val * 128) d.rst.programImages ∧
      d.programComplete.rst.mark = d.rst.mark := by
  have hground := Dev.programComplete_ground h
  rw [Rst.programmed_eq, Rst.placeAfter_landed_eq] at hground
  exact ⟨hground.mem, hground.mark⟩

theorem Rst.programImages_length_le (r : Rst) : r.programImages.length ≤ 128 := List.length_take_le _ _

/-! ### The sector erase completes (R154) -/

theorem Dev.eraseComplete_of_other (h : ∀ x, d.rst.engine ≠ .erasing x) : d.eraseComplete = d := by
  cases he : d.rst.engine <;> simp only [Dev.eraseComplete, he]
  exact absurd he (h _)

theorem Dev.eraseComplete_of_erasing (h : d.rst.engine = .erasing x) :
    d.eraseComplete = (d.setRst (d.rst.erased x)).testAndChoose := by
  simp only [Dev.eraseComplete, h]
  rfl

/-- A completed erase reaches the store and the notices, and no other block. -/
theorem Dev.eraseComplete_eq (d : Dev) : d.eraseComplete = { d with rst := d.eraseComplete.rst, ntu := d.eraseComplete.ntu } := by
  obtain ⟨hrun, hpins, hcfg, hlnk, hptb, hmsu, hsyu, hctc, hsyn, hhoc, hmtr, hfree⟩ := d.eraseComplete_frame
  rw [← hrun, ← hpins, ← hcfg, ← hlnk, ← hptb, ← hmsu, ← hsyu, ← hctc, ← hsyn, ← hhoc, ← hmtr, ← hfree]

/-- The bytes after a completed erase are those of the emptied sector; the position and the mark stand. -/
theorem Dev.eraseComplete_ground (h : d.rst.engine = .erasing x) : (d.rst.erased x).sameGround d.eraseComplete.rst := by
  rw [Dev.eraseComplete_of_erasing h]
  exact (d.setRst (d.rst.erased x)).testAndChoose_ground

theorem Dev.eraseComplete_staged (h : d.rst.engine = .erasing x) :
    d.eraseComplete.rst.newest = d.rst.newest ∧ d.eraseComplete.rst.queue.map Staged.seq = d.rst.queue.map Staged.seq := by
  have hsame := (d.setRst (d.rst.erased x)).testAndChoose_sameStaged
  rw [Dev.eraseComplete_of_erasing h]
  exact ⟨hsame.1, hsame.seqs⟩

/-- With no read to make, the sector holds no record and is blank. -/
theorem Dev.eraseComplete_ring (h : d.rst.engine = .erasing x) (hj : d.rst.settled) :
    d.eraseComplete.rst.slots = d.rst.slots.filter (fun g => g.slot / 32 != x.val) ∧
      d.eraseComplete.rst.table = d.rst.table.set x ⟨false, none⟩ := by
  rw [Dev.eraseComplete_of_erasing h]
  exact Dev.testAndChoose_ring (d := d.setRst (d.rst.erased x)) hj

end

/-! ### The image of a record (R178, Table 12-7) -/

/-- A record whose content is a kind with flags, a session and the bytes of its kind, nineteen at most. -/
theorem recordImage_shows {r : Rec} {kind flags session : Nat} {rest : List Byte}
    (hc : r.content = BitVec.ofNat 8 (kind * 32 + flags) :: (natBe 4 session ++ rest)) (hl : rest.length ≤ 19) (seq : Nat) :
    imageShows (recordImage seq r) seq kind flags session rest := by
  obtain ⟨tail, htail⟩ : ∃ tail, tail = rest ++ List.replicate (19 - rest.length) (0 : Byte) := ⟨_, rfl⟩
  have htaillen : tail.length = 19 := by simp [htail]; omega
  obtain ⟨body, hbody⟩ : ∃ body, body = natBe 4 seq ++ (BitVec.ofNat 8 (kind * 32 + flags) :: (natBe 4 session ++ tail)) := ⟨_, rfl⟩
  have hpad : padTo 28 (natBe 4 seq ++ r.content) = body := by
    have hzeros : 28 - (natBe 4 seq ++ r.content).length = 19 - rest.length := by simp [hc]; omega
    rw [padTo, hzeros, hc, hbody, htail]
    simp
  have hlen : body.length = 28 := by simp [hbody, htaillen]
  have himage : recordImage seq r = body ++ natBe 4 (crc32 body).toNat := by simp only [recordImage, hpad]
  have htake : (recordImage seq r).take 28 = body := by rw [himage, List.take_left' hlen]
  have hfield {off len : Nat} {front back : List Byte} (hs : body = front ++ back) (ho : front.length = off) (hfit : len ≤ back.length) :
      field (recordImage seq r) off len = back.take len := by
    rw [himage, hs, List.append_assoc, field_append_of_length ho, List.take_append_of_le_length hfit]
  refine ⟨by simp [himage, hlen], ?_, ?_, ?_, ?_, ?_⟩
  · rw [hfield (off := 0) (front := []) (back := body) rfl rfl (by omega), hbody, List.take_left' (natBe_length _ _)]
  · simp [himage, hbody, byteAt, List.getD_eq_getElem?_getD]
  · rw [hfield (front := natBe 4 seq ++ [BitVec.ofNat 8 (kind * 32 + flags)]) (back := natBe 4 session ++ tail) (by simp [hbody])
      (by simp) (by simp), List.take_left' (natBe_length _ _)]
  · rw [hfield (front := natBe 4 seq ++ BitVec.ofNat 8 (kind * 32 + flags) :: natBe 4 session) (back := tail) (by simp [hbody])
      (by simp) (by omega), List.take_of_length_le (by omega), htail]
  · rw [htake, himage, field_append_of_length hlen, List.take_of_length_le (by simp)]

theorem indexCode_eq (i : Option Nat) : indexCode i = i.getD 8388607 := by cases i <;> rfl

theorem timeBytes_eq (t : Option (Nat × Nat)) :
    timeBytes t = natBe 2 ((t.map Prod.fst).getD 0) ++ natBe 3 ((t.map Prod.snd).getD 0) := by cases t <;> rfl

/-- Table 12-7: the image of a record of each kind. -/
theorem Rec.shownBy_recordImage (r : Rec) (seq : Nat) : r.shownBy seq (recordImage seq r) := by
  cases r with
  | sessionJoin m t =>
    obtain ⟨id, x, f, demand⟩ := m
    refine recordImage_shows ?_ (by simp) seq
    cases x <;> simp [Rec.content, kindByte, bitIf, flagByte, outletCode, timeBytes_eq]
  | interval v =>
    refine recordImage_shows ?_ (by simp) seq
    simp [Rec.content, kindByte, bitIf, indexCode_eq, natBe]
  | sessionLeave id x importWh exportWh count c t =>
    refine recordImage_shows ?_ (by simp) seq
    simp only [Rec.content, kindByte, bitIf, timeBytes_eq, List.append_assoc, List.cons_append, List.nil_append]
    cases x <;> cases c <;> rfl
  | interruption id restart => exact recordImage_shows rfl (by simp) seq
  | event e =>
    obtain ⟨trip, on, session, time, conA, conB, hstate, p⟩ := e
    refine recordImage_shows ?_ (by simp) seq
    simp only [Rec.content, kindByte, bitIf, timeBytes_eq, List.append_assoc, List.cons_append, List.nil_append]
    rcases trip with _ | (_ | _ | _ | _ | _ | _) <;> rcases on with _ | (_ | _) <;> rfl

/-! ### The settlement -/

/-- Settles O52: what waited in the holder is staged by `Dev.programComplete_took`, the position is that of `Dev.programComplete_place`. -/
theorem storeOperationsComplete : Obligations.StoreOperationsComplete := by
  refine ⟨fun s hup => ⟨fun hother => ?_, fun hother => ?_, fun x p h => ?_, fun x h => ?_⟩, Rec.shownBy_recordImage⟩
  · rw [show exec .pageProgramComplete s = _ from State.run_up hup _, State.onDev_eq_self (Dev.programComplete_of_other hother)]
  · rw [show exec .sectorEraseComplete s = _ from State.run_up hup _, State.onDev_eq_self (Dev.eraseComplete_of_other hother)]
  · obtain ⟨hmem, hmark⟩ := Dev.programComplete_mem h
    refine ⟨_, State.run_up hup _, rfl, s.dev.programComplete_eq, hmem, fun a ha => ?_, hmark, fun hn => ?_,
      Dev.programComplete_place h, fun hquiet hnil => ?_⟩
    · rw [State.onDev_dev, hmem]
      have hlen := s.dev.rst.programImages_length_le
      exact memRead_memWriteBytes_outside (by omega)
    · have htook := Dev.programComplete_took h hn
      rw [List.take_eq_take_min, List.drop_eq_drop_min, Nat.min_comm] at htook
      exact htook
    · obtain ⟨hslots, htable⟩ := Dev.programComplete_ring h hquiet hnil
      obtain ⟨hnew, hqueue⟩ := Dev.programComplete_staged_of_nil h hnil
      exact ⟨hslots, htable, hqueue, hnew⟩
  · have hground := Dev.eraseComplete_ground h
    obtain ⟨hnew, hqueue⟩ := Dev.eraseComplete_staged h
    have hread (a : Nat) : memRead s.dev.eraseComplete.rst.mem a =
        if x.val * 1024 ≤ a ∧ a < x.val * 1024 + 1024 then erasedByte else memRead s.dev.rst.mem a := by
      rw [hground.mem]
      exact memRead_memErase _ _ _ _
    refine ⟨_, State.run_up hup _, rfl, s.dev.eraseComplete_eq, fun a hlo hhi => ?_, fun a ha => ?_, hground.mark, hnew,
      hground.posSector, hground.posPage, hqueue, fun hquiet => Dev.eraseComplete_ring h hquiet⟩
    · exact (hread a).trans (if_pos ⟨hlo, hhi⟩)
    · exact (hread a).trans (if_neg (by omega))

end Sys2Proof.Machine

/-! # START behind the scan: what its last stages keep of the store and the notices (R87, R144, R164, R172, R173) -/

namespace Sys2Proof.Machine

/-! ### The engine's choice after START (R153 to R156) -/

/-- What stands of the store from the scan on: its ground, and with it the ring, the low condition and the job. -/
structure Rst.sameRing (r t : Rst) : Prop extends r.sameGround t where
  table : t.table = r.table
  slots : t.slots = r.slots
  low : t.low = r.low
  job : t.job = r.job

theorem Rst.sameRing.refl (r : Rst) : r.sameRing r := ⟨⟨rfl, rfl, rfl, rfl, rfl⟩, rfl, rfl, rfl, rfl⟩

theorem Rst.sameRing.trans {r t u : Rst} (h : r.sameRing t) (g : t.sameRing u) : r.sameRing u :=
  ⟨h.tosameGround.trans g.tosameGround, g.table.trans h.table, g.slots.trans h.slots, g.low.trans h.low, g.job.trans h.job⟩

theorem Rst.workedTo.ring {r t : Rst} (h : r.workedTo t) : r.sameRing t := by
  constructor
  case tosameGround => exact h.ground
  all_goals rw [h]

section
variable {r t : Rst} (h : r.sameRing t)
include h

theorem Rst.sameRing.posErased : t.posErased = r.posErased := by
  simp only [Rst.posErased, Rst.line, h.mem, h.posSector, h.posPage, h.table]

theorem Rst.sameRing.eligible (x : Fin 64) : t.eligible x = r.eligible x := by simp only [Rst.eligible, Rst.line, h.table, h.mark]

theorem Rst.sameRing.next (x : Fin 64) : t.next x = r.next x := by simp only [Rst.next, h.protect]

theorem Rst.sameRing.preEraseTest : t.preEraseTest = r.preEraseTest := by
  simp only [Rst.preEraseTest, Rst.line, h.table, h.posSector, h.next, h.eligible]

theorem Rst.sameRing.available : t.available = r.available := by
  simp only [Rst.available, Rst.countTerms, Rst.line, h.posErased, h.eligible, h.mem, h.posSector, h.posPage, h.table, h.protect]
end

/-- Where the engine stands once START has let it choose: an erase of the sector at the write position, FULL, a pre-erase, or nothing
to do but write back. -/
structure Rst.chosen (r : Rst) : Prop where
  job : r.job = none
  erases : r.posErased = false → r.eligible r.posSector = true → r.full = false ∧ r.engine = .erasing r.posSector
  stops : r.posErased = false → r.eligible r.posSector = false → r.full = true ∧ r.engine = .idle
  preErases : r.posErased = true → r.posPage = 7 ∧ r.preEraseTest = true → r.full = false ∧ r.engine = .erasing (r.next r.posSector)
  waits : r.posErased = true → ¬(r.posPage = 7 ∧ r.preEraseTest = true) →
    r.full = false ∧ r.preErase = false ∧ (r.queue = [] → r.engine = .idle)

/-- No read waits in a store without a job. -/
theorem Rst.settled_of_no_job {r : Rst} (h : r.job = none) : r.settled := fun j hj => absurd (h.symm.trans hj) (by simp)

/-- What joins the queue or is demanded of it leaves the engine where it stands, unless it empties the queue. -/
theorem Rst.chosen.congr {r t : Rst} (h : r.chosen) (hr : r.sameRing t) (he : t.engine = r.engine) (hf : t.full = r.full)
    (hp : t.preErase = r.preErase) (hq : t.queue = [] → r.queue = []) : t.chosen := by
  constructor
  case job => exact hr.job.trans h.job
  case erases => simpa only [hr.posErased, hr.eligible, hr.posSector, he, hf] using h.erases
  case stops => simpa only [hr.posErased, hr.eligible, hr.posSector, he, hf] using h.stops
  case preErases =>
    simpa only [hr.posErased, hr.preEraseTest, hr.posSector, hr.posPage, hr.next, he, hf] using h.preErases
  case waits =>
    intro hpos hno
    rw [hr.posErased] at hpos
    rw [hr.preEraseTest, hr.posPage] at hno
    obtain ⟨hfull, hpre, hidle⟩ := h.waits hpos hno
    exact ⟨hf.trans hfull, hp.trans hpre, fun hnil => he.trans (hidle (hq hnil))⟩

/-- A page program is begun with entries in the queue only. -/
theorem Rst.queue_of_due {r : Rst} (h : r.writeBackDue = true) : r.startProgram.queue ≠ [] := by
  intro hnil
  have hlen : r.startProgram.queue.length = r.queue.length := by
    have hseqs := r.startProgram_sameStaged.seqs
    simpa using congrArg List.length hseqs
  have hq : r.queue = [] := by
    rw [hnil] at hlen
    exact List.length_eq_zero_iff.1 hlen.symm
  rw [Rst.not_due_of_empty (by simp [Rst.waiting, hq])] at h
  exact absurd h (by decide)

/-- The page program that is due leaves the engine where START may have let it stand. -/
theorem Rst.chosen.startProgram {r : Rst} (h : r.chosen) (hpos : r.posErased = true) (hno : ¬(r.posPage = 7 ∧ r.preEraseTest = true))
    (hdue : r.writeBackDue = true) : r.startProgram.chosen := by
  have hring := r.startProgram_workedTo.ring
  have hflags : r.startProgram.full = r.full ∧ r.startProgram.preErase = r.preErase := by
    simp only [Rst.startProgram]
    (repeat' split) <;> exact ⟨rfl, rfl⟩
  have hpos' : r.startProgram.posErased = true := hring.posErased.trans hpos
  have hno' : ¬(r.startProgram.posPage = 7 ∧ r.startProgram.preEraseTest = true) := by rwa [hring.preEraseTest, hring.posPage]
  obtain ⟨hfull, hpre, -⟩ := h.waits hpos hno
  exact ⟨hring.job.trans h.job, fun hn => absurd (hpos'.symm.trans hn) (by decide), fun hn => absurd (hpos'.symm.trans hn) (by decide),
    fun _ hp => absurd hp hno',
    fun _ _ => ⟨hflags.1.trans hfull, hflags.2.trans hpre, fun hnil => absurd hnil (Rst.queue_of_due hdue)⟩⟩

/-- Chosen once, the engine can at most begin a page program. -/
theorem Dev.engineChoice_of_chosen {d : Dev} (h : d.rst.chosen) :
    d.engineChoice = d ∨ (d.rst.writeBackDue = true ∧ d.engineChoice = d.setRst d.rst.startProgram ∧ d.engineChoice.rst.chosen) := by
  have hset := Rst.settled_of_no_job h.job
  by_cases hstuck : d.rst.stuck
  · exact .inl (Dev.engineChoice_of_stuck hstuck)
  · obtain ⟨hidle, hfull⟩ : d.rst.engine = .idle ∧ d.rst.full = false := by
      simpa [Rst.stuck, hset] using hstuck
    have hpos : d.rst.posErased = true := by
      by_contra hne
      rw [Bool.not_eq_true] at hne
      cases hel : d.rst.eligible d.rst.posSector
      · rw [(h.stops hne hel).1] at hfull
        exact absurd hfull (by decide)
      · rw [(h.erases hne hel).2] at hidle
        exact absurd hidle (by simp)
    have hno : ¬(d.rst.posPage = 7 ∧ d.rst.preEraseTest = true) := fun hpre => by
      rw [(h.preErases hpos hpre).2] at hidle
      exact absurd hidle (by simp)
    obtain ⟨-, hpre, -⟩ := h.waits hpos hno
    have hchoice : d.engineChoice = d.engineWork := by
      rw [Dev.engineChoice_of_idle hidle, Dev.collectionRead_of_settled hset]
    obtain ⟨hbad, -⟩ | ⟨hbad, -⟩ | ⟨-, ⟨hbad, -⟩ | ⟨-, ⟨hdue, -, heq⟩ | ⟨-, heq⟩⟩⟩ := d.engineWork_cases
    · rw [hpos] at hbad
      exact absurd hbad (by decide)
    · rw [hpos] at hbad
      exact absurd hbad (by decide)
    · rw [hpre] at hbad
      exact absurd hbad (by decide)
    · refine .inr ⟨hdue, hchoice.trans heq, ?_⟩
      rw [hchoice, heq, Dev.setRst_rst]
      exact h.startProgram hpos hno hdue
    · exact .inl (hchoice.trans heq)

/-- The store as the scan forms it, with nothing begun. -/
structure Rst.fresh (r : Rst) : Prop where
  job : r.job = none
  engine : r.engine = .idle
  full : r.full = false
  queue : r.queue = []
  preErase : r.preErase = (decide (r.posPage = 7) && r.preEraseTest)

/-- R153, R155, R156, R163: the first choice of the engine. -/
theorem Dev.engineChoice_of_fresh {d : Dev} (h : d.rst.fresh) (hrun : d.run ≠ .shutdown) :
    d.engineChoice.rst.chosen ∧ d.rst.workedTo d.engineChoice.rst ∧
      (d.rst.posErased = false → d.rst.eligible d.rst.posSector = false → (d.engineChoice.ntu.entry .storeFull).pending = true) ∧
      ∀ j, j ≠ .storeFull → d.engineChoice.ntu.entry j = d.ntu.entry j := by
  have hset := Rst.settled_of_no_job h.job
  have hchoice : d.engineChoice = d.engineWork := by rw [Dev.engineChoice_of_idle h.engine, Dev.collectionRead_of_settled hset]
  have hdue : d.rst.writeBackDue = false := Rst.not_due_of_empty (by simp [Rst.waiting, h.queue])
  have hpre := h.preErase
  rw [hchoice]
  obtain ⟨hpos, -, hel, heq⟩ | ⟨hpos, -, hel, heq⟩ | ⟨hpos, ⟨hp, ht, -, -, heq⟩ | ⟨hno, ⟨hd, -⟩ | ⟨-, heq⟩⟩⟩ := d.engineWork_cases
  · rw [heq]
    refine ⟨⟨h.job, fun _ _ => ⟨h.full, rfl⟩, fun _ hn => ?_, fun hn => ?_, fun hn => ?_⟩, rfl, fun _ hn => ?_, fun _ _ => rfl⟩
    · exact absurd (hel.symm.trans hn) (by decide)
    · exact absurd (hpos.symm.trans hn) (by decide)
    · exact absurd (hpos.symm.trans hn) (by decide)
    · exact absurd (hel.symm.trans hn) (by decide)
  · rw [heq]
    refine ⟨⟨h.job, fun _ hn => ?_, fun _ _ => ⟨rfl, h.engine⟩, fun hn => ?_, fun hn => ?_⟩, rfl, fun _ _ => ?_, fun j hj => ?_⟩
    · exact absurd (hel.symm.trans hn) (by decide)
    · exact absurd (hpos.symm.trans hn) (by decide)
    · exact absurd (hpos.symm.trans hn) (by decide)
    · rw [Dev.raise_own]
    · exact Dev.raise_entry _ _ _ hj
  · have hpos : d.rst.posErased = true := by simpa [h.full] using hpos
    have hpage : d.rst.posPage = 7 := by
      rw [hp, eq_comm, Bool.and_eq_true, decide_eq_true_eq] at hpre
      exact hpre.1
    rw [heq]
    refine ⟨⟨h.job, fun hn => ?_, fun hn => ?_, fun _ _ => ⟨h.full, rfl⟩, fun _ hn => absurd ⟨hpage, ht⟩ hn⟩, rfl, fun hn => ?_,
      fun _ _ => rfl⟩
    · exact absurd (hpos.symm.trans hn) (by decide)
    · exact absurd (hpos.symm.trans hn) (by decide)
    · exact absurd (hpos.symm.trans hn) (by decide)
  · exact absurd (hdue.symm.trans hd) (by decide)
  · have hpos : d.rst.posErased = true := by simpa [h.full] using hpos
    have hoff : ¬(d.rst.posPage = 7 ∧ d.rst.preEraseTest = true) := fun ⟨hpage, ht⟩ =>
      hno ⟨by rw [hpre, ht, hpage]; rfl, ht, h.full, hrun⟩
    rw [heq]
    refine ⟨⟨h.job, fun hn => ?_, fun hn => ?_, fun _ hp => absurd hp hoff, fun _ _ => ⟨h.full, ?_, fun _ => h.engine⟩⟩, rfl,
      fun hn => ?_, fun _ _ => rfl⟩
    · exact absurd (hpos.symm.trans hn) (by decide)
    · exact absurd (hpos.symm.trans hn) (by decide)
    · rw [hpre]
      simpa using hoff
    · exact absurd (hpos.symm.trans hn) (by decide)

/-! ### What the stages behind the scan keep -/

/-- The configuration, the ring, where the engine stands and the counts of the notices: kept from the scan on. -/
structure Dev.storeKept (d e : Dev) : Prop where
  cfg : e.cfg = d.cfg
  ring : d.rst.sameRing e.rst
  chosen : e.rst.chosen
  entry : ∀ j, e.ntu.entry j = d.ntu.entry j

theorem Dev.storeKept.trans {d e f : Dev} (h : d.storeKept e) (g : e.storeKept f) : d.storeKept f :=
  ⟨g.cfg.trans h.cfg, h.ring.trans g.ring, g.chosen, fun j => (g.entry j).trans (h.entry j)⟩

/-- The store kept, and nothing staged or taken from it. -/
structure Dev.storeStill (d e : Dev) : Prop extends d.storeKept e where
  staged : d.rst.sameStaged e.rst
  oldest : e.rst.oldest = d.rst.oldest

theorem Dev.storeStill.trans {d e f : Dev} (h : d.storeStill e) (g : e.storeStill f) : d.storeStill f :=
  ⟨h.tostoreKept.trans g.tostoreKept, h.staged.trans g.staged, g.oldest.trans h.oldest⟩

theorem Dev.storeStill_of_same {d e : Dev} (hc : d.rst.chosen) (hcfg : e.cfg = d.cfg) (hrst : e.rst = d.rst)
    (hntu : ∀ j, e.ntu.entry j = d.ntu.entry j) : d.storeStill e := by
  refine ⟨⟨hcfg, ?_, ?_, hntu⟩, ?_, by rw [hrst]⟩ <;> rw [hrst]
  · exact Rst.sameRing.refl _
  · exact hc
  · exact Rst.sameStaged_refl _

theorem Dev.engineChoice_still {d : Dev} (h : d.rst.chosen) : d.storeStill d.engineChoice := by
  rcases Dev.engineChoice_of_chosen h with heq | ⟨-, heq, hchosen⟩
  · exact Dev.storeStill_of_same h (by rw [heq]) (by rw [heq]) fun _ => by rw [heq]
  · have hwork := d.rst.startProgram_workedTo
    rw [heq] at hchosen ⊢
    exact ⟨⟨rfl, hwork.ring, hchosen, fun _ => rfl⟩, d.rst.startProgram_sameStaged, by rw [Dev.setRst_rst, hwork]⟩

/-- An entry that joins the queue leaves the engine where it stands. -/
theorem Rst.taken_chosen {r : Rst} (h : r.chosen) (c : Cfg) (x : Rec) : r.sameRing (r.taken c x) ∧ (r.taken c x).chosen := by
  obtain ⟨drain, pack, abs, ht, -⟩ := r.taken_eq c x
  have hring : r.sameRing (r.taken c x) := by rw [ht]; exact ⟨⟨rfl, rfl, rfl, rfl, rfl⟩, rfl, rfl, rfl, rfl⟩
  refine ⟨hring, h.congr hring ?_ ?_ ?_ ?_⟩ <;> rw [ht]
  · rfl
  · rfl
  · rfl
  · exact fun hnil => absurd hnil (by simp [Rst.join])

theorem Rst.taken_oldest {r : Rst} {o : Nat} (h : r.oldest = some o) (c : Cfg) (x : Rec) : (r.taken c x).oldest = some o := by
  obtain ⟨drain, pack, abs, ht, -⟩ := r.taken_eq c x
  rw [ht, Rst.join, h]
  rfl

/-- R142, R149: a session record of START. -/
theorem Dev.requestSession_kept {d : Dev} (h : d.rst.chosen) (x : Rec) :
    d.storeKept (d.requestSession x) ∧ ∀ o, d.rst.oldest = some o → (d.requestSession x).rst.oldest = some o := by
  obtain ⟨-, hfree, heq⟩ | ⟨-, heq⟩ := d.requestSession_cases x
  · obtain ⟨hring, hchosen⟩ := Rst.taken_chosen h d.cfg x
    have hstill := Dev.engineChoice_still (d := d.setRst (d.rst.taken d.cfg x)) hchosen
    rw [heq, Dev.stage_eq hfree]
    refine ⟨⟨hstill.cfg, hring.trans hstill.ring, hstill.chosen, hstill.entry⟩, fun o ho => ?_⟩
    rw [hstill.oldest]
    exact Rst.taken_oldest ho _ _
  · rw [heq]
    exact ⟨⟨rfl, .refl _, h, fun _ => rfl⟩, fun _ ho => ho⟩

/-- R164: the store's own part of the warning. -/
theorem Dev.rstWarning_still {d : Dev} (h : d.rst.chosen) : d.storeStill d.rstWarning := by
  obtain ⟨drain, hd, -⟩ := d.rst.demand_warned
  let r : Rst := { d.rst with warned := true, drain := drain }
  have hring : d.rst.sameRing r := ⟨⟨rfl, rfl, rfl, rfl, rfl⟩, rfl, rfl, rfl, rfl⟩
  have hchosen : r.chosen := h.congr hring rfl rfl rfl id
  have hstill := Dev.engineChoice_still (d := d.setRst r) hchosen
  have heq : d.rstWarning = (d.setRst r).engineChoice := by
    simp only [Dev.rstWarning, Dev.drainDemand, Dev.setRst_rst, hd]
    rfl
  rw [heq]
  exact ⟨⟨hstill.cfg, hring.trans hstill.ring, hstill.chosen, hstill.entry⟩, Rst.sameStaged.trans ⟨rfl, rfl⟩ hstill.staged,
    hstill.oldest⟩

/-! ### A part that serves no outlet -/

/-- No outlet assigned and no membership, as START leaves it. -/
structure Dev.bare (d : Dev) : Prop where
  assignment : d.hoc.assignment = none
  membership : d.mtr.membership = none

theorem Dev.energise_of_unassigned {d : Dev} (h : d.hoc.assignment = none) : d.energise = d := by
  simp only [Dev.energise, h]

/-- With no outlet assigned, a change of a contactor is handed to no one. -/
theorem Dev.changeCon_of_unassigned {d : Dev} (h : d.hoc.assignment = none) (x : Outlet) (c : Contactor) (o : Origin) :
    d.changeCon x c o = d.setCon x c := by
  have hx : (d.setCon x c).hoc.assignment ≠ some x := by
    rw [show (d.setCon x c).hoc.assignment = none from h]
    simp
  rcases Dev.conChanged_of_unassigned hx (d.con x) o with heq | heq
  · exact heq
  · exact heq.trans (Dev.energise_of_unassigned h)

theorem Dev.hocCycle_of_unassigned {d : Dev} (h : d.hoc.assignment = none) : d.hocCycle = d := by
  have hjudge : d.judgeForming = d := by simp only [Dev.judgeForming, h]
  have hlead : d.judgeLead = d := by simp only [Dev.judgeLead, h]
  have hfollow : d.follow = d := by simp [Dev.follow, h]
  rw [Dev.hocCycle, hjudge, hlead, hfollow, Dev.energiseDead, Dev.energise_of_unassigned h, ite_self]

/-- R40: the first cycle beginning leaves the part without an outlet. -/
theorem Dev.beginCycle_bare {d : Dev} (h : d.bare) (n : Nat) : (d.beginCycle n).bare := by
  obtain ⟨-, hmtr, -⟩ := d.beginCycle_keeps n
  obtain ⟨-, -, -, -, -, -, hassign, -⟩ := d.beginCycle_claims n
  have hentered : (d.cycleEntered n).hoc.assignment = none := by
    simp only [Dev.cycleEntered, Dev.joinTick]
    split <;> exact h.assignment
  refine ⟨hassign.trans ?_, by rw [hmtr]; exact h.membership⟩
  rw [Dev.hocCycle_of_unassigned hentered, hentered]

section
variable {d : Dev} (h : d.bare) (hc : d.rst.chosen)
include h hc

/-- R87: stage 6 at the contactor controller. -/
theorem Dev.contactorCheck_still : d.storeStill d.contactorCheck ∧ d.contactorCheck.bare := by
  have hset (x : Outlet) (c : Contactor) : d.storeStill (d.setCon x c) ∧ (d.setCon x c).bare :=
    ⟨Dev.storeStill_of_same hc rfl rfl fun _ => rfl, ⟨h.assignment, h.membership⟩⟩
  simp only [Dev.contactorCheck, Dev.startOpening, Dev.changeCon_of_unassigned h.assignment]
  (repeat' split)
  · exact hset _ _
  · exact hset _ _
  · exact ⟨Dev.storeStill_of_same hc rfl rfl fun _ => rfl, h⟩

/-- R40, R173: stage 6 at the link controller: nothing but CONFIG_BAD of a cell strapped to 0. -/
theorem Dev.linkEntry_still :
    ∃ e, d.storeStill e ∧ e.bare ∧ d.linkEntry = e.raiseIf (decide (d.cfg.station = 0)) .configBad := by
  obtain ⟨-, -, hntu, -, -, hrst⟩ := d.beginCycle_keeps 0
  have hcfg : (d.beginCycle 0).cfg = d.cfg := by simp
  have hbare := Dev.beginCycle_bare h 0
  have hstill (l : Lnk) : d.storeStill ((d.beginCycle 0).setLnk l) :=
    Dev.storeStill_of_same hc hcfg hrst fun j => by rw [Dev.setLnk_ntu, hntu]; rfl
  have hentry : ∃ l, d.linkEntry = ((d.beginCycle 0).setLnk l).raiseIf (decide (d.cfg.station = 0)) .configBad := by
    simp only [Dev.linkEntry, hcfg]
    by_cases hz : d.cfg.station = 0
    · exact ⟨_, by rw [if_pos hz, decide_eq_true hz, Dev.raiseIf, if_pos rfl]⟩
    · exact ⟨_, by rw [if_neg hz, decide_eq_false hz, Dev.raiseIf, if_neg Bool.false_ne_true]⟩
  obtain ⟨l, hl⟩ := hentry
  exact ⟨_, hstill l, ⟨hbare.assignment, hbare.membership⟩, hl⟩

/-- R86, R105, R126, R132: the blocks take the warning without an outlet and without a membership. -/
theorem Dev.blocksWarned_still : d.storeStill d.blocksWarned := by
  have hmtr : d.syuWarning.mtrWarning = d.syuWarning := Dev.endMembership_of_none (d := d.syuWarning) h.membership _
  have hopen {e : Dev} (he : e.hoc.assignment = none) (x : Outlet) : ∃ c, e.openRequest x .supplyWarning = e.setCon x c :=
    ⟨_, Dev.changeCon_of_unassigned he x _ _⟩
  have hctc : d.syuWarning.synWarning.ctcWarning.rst = d.rst ∧ d.syuWarning.synWarning.ctcWarning.cfg = d.cfg ∧
      d.syuWarning.synWarning.ctcWarning.ntu = d.ntu := by
    obtain ⟨a, ha⟩ := hopen (e := d.syuWarning.synWarning) h.assignment .a
    obtain ⟨b, hb⟩ := hopen (e := d.syuWarning.synWarning.setCon .a a) h.assignment .b
    rw [Dev.ctcWarning, ha, hb]
    exact ⟨rfl, rfl, rfl⟩
  obtain ⟨hrst, hcfg, hntu⟩ := hctc
  rw [Dev.blocksWarned, hmtr]
  obtain ⟨-, -, gcfg, -, -, -, -, -, grst, gntu, -⟩ := d.syuWarning.synWarning.ctcWarning.hocWarning_frame
  exact Dev.storeStill_of_same hc (gcfg.trans hcfg) (grst.trans hrst) fun j => by rw [gntu, hntu]

/-- R172, R177: stage 6 at the run state. -/
theorem Dev.runEntry_still : d.storeStill d.runEntry := by
  simp only [Dev.runEntry]
  split
  · have hfirst {e : Dev} (he : e.bare) (hce : e.rst.chosen) : e.storeStill e.rstWarning.blocksWarned := by
      have hwarn := Dev.rstWarning_still hce
      obtain ⟨-, -, -, -, -, -, -, -, -, hhoc, hmtr, -⟩ := e.rstWarning_frame
      exact hwarn.trans (Dev.blocksWarned_still ⟨by rw [hhoc]; exact he.assignment, by rw [hmtr]; exact he.membership⟩ hwarn.chosen)
    have hlast {e : Dev} (he : e.bare) (hce : e.rst.chosen) : e.storeStill e.blocksWarned.rstWarning := by
      have hblocks := Dev.blocksWarned_still he hce
      exact hblocks.trans (Dev.rstWarning_still hblocks.chosen)
    have hbefore : d.storeStill ((d.setRun .running).setRun .shutdown).spend := Dev.storeStill_of_same hc rfl rfl fun _ => rfl
    simp only [Dev.warn]
    split
    · exact hbefore.trans (hfirst ⟨h.assignment, h.membership⟩ hc)
    · exact hbefore.trans (hlast ⟨h.assignment, h.membership⟩ hc)
  · exact Dev.storeStill_of_same hc rfl rfl fun _ => rfl
end

end Sys2Proof.Machine

/-! # The scan of START, read off the bytes of the store (R154, R162, R163) -/

namespace Sys2Proof.Machine

/-! ### Slots, pages and sectors by the bytes they read -/

/-- Some byte of a slot does not read erased. -/
def programmedSlot (m : List Host.Cell) (n : Nat) : Prop := ∃ i, i < 32 ∧ memRead m (n * 32 + i) ≠ 255

/-- The check word of a programmed slot is good. -/
def goodSlot (m : List Host.Cell) (n : Nat) : Prop :=
  programmedSlot m n ∧
    field (memReadBytes m (n * 32) 32) 28 4 = natBe 4 (crc32 ((memReadBytes m (n * 32) 32).take 28)).toNat

/-- An address that does not read erased is listed with its byte. -/
theorem exists_mem_of_memRead_ne {m : List Host.Cell} {a : Nat} (h : memRead m a ≠ erasedByte) : ∃ c ∈ m, c.1 = a ∧ c.2 ≠ erasedByte := by
  induction m with
  | nil => exact absurd rfl h
  | cons c m ih =>
    rw [memRead] at h
    split at h
    · next hc => exact ⟨c, List.mem_cons_self, hc, h⟩
    · obtain ⟨g, hg, hrest⟩ := ih h
      exact ⟨g, List.mem_cons_of_mem _ hg, hrest⟩

/-- In the canonical form a listed byte is what its address reads. -/
theorem memRead_of_mem {m : List Host.Cell} (hw : memWf m) {c : Host.Cell} (hc : c ∈ m) : memRead m c.1 = c.2 := by
  obtain ⟨hsorted, -⟩ := hw
  induction hsorted with
  | nil => cases hc
  | @cons g m hlt _ ih =>
    rw [memRead]
    rcases List.mem_cons.1 hc with rfl | hc
    · exact if_pos rfl
    · rw [if_neg (by have := hlt c hc; omega)]
      exact ih hc

/-- Some listed byte stands in a set of addresses exactly where one of them does not read erased. -/
theorem any_listed_iff {m : List Host.Cell} (hw : memWf m) (p : Nat → Bool) :
    m.any (fun c => p c.1 && c.2 != erasedByte) = true ↔ ∃ a, p a = true ∧ memRead m a ≠ erasedByte := by
  simp only [List.any_eq_true, Bool.and_eq_true, bne_iff_ne]
  constructor
  · rintro ⟨c, hc, hp, hne⟩
    exact ⟨c.1, hp, by rwa [memRead_of_mem hw hc]⟩
  · rintro ⟨a, hp, hne⟩
    obtain ⟨c, hc, rfl, hb⟩ := exists_mem_of_memRead_ne hne
    exact ⟨c, hc, hp, hb⟩

section
variable {m : List Host.Cell} (hw : memWf m)
include hw

theorem slotErased_eq_false_iff (n : Nat) : slotErased m n = false ↔ programmedSlot m n := by
  rw [slotErased, Bool.not_eq_false', any_listed_iff hw (fun a => a / 32 == n)]
  constructor
  · rintro ⟨a, ha, hne⟩
    simp only [beq_iff_eq] at ha
    exact ⟨a % 32, by omega, by rwa [show n * 32 + a % 32 = a by omega]⟩
  · rintro ⟨i, hi, hne⟩
    exact ⟨n * 32 + i, by simp only [beq_iff_eq]; omega, hne⟩

theorem pageErased_iff (x : Fin 64) (p : Fin 8) :
    pageErased m x p = true ↔ ∀ n, n / 4 = x.val * 8 + p.val → ¬programmedSlot m n := by
  rw [pageErased, Bool.not_eq_true', ← Bool.not_eq_true, any_listed_iff hw (fun a => a / 128 == x.val * 8 + p.val)]
  constructor
  · rintro hno n hn ⟨i, hi, hne⟩
    exact hno ⟨n * 32 + i, by simp only [beq_iff_eq]; omega, hne⟩
  · rintro hno ⟨a, ha, hne⟩
    simp only [beq_iff_eq] at ha
    exact hno (a / 32) (by omega) ⟨a % 32, by omega, by rwa [show a / 32 * 32 + a % 32 = a by omega]⟩

theorem sectorUsed_iff (x : Nat) :
    m.any (fun c => c.1 / 1024 == x && c.2 != erasedByte) = true ↔ ∃ n, n / 32 = x ∧ programmedSlot m n := by
  rw [any_listed_iff hw (fun a => a / 1024 == x)]
  constructor
  · rintro ⟨a, ha, hne⟩
    simp only [beq_iff_eq] at ha
    exact ⟨a / 32, by omega, a % 32, by omega, by rwa [show a / 32 * 32 + a % 32 = a by omega]⟩
  · rintro ⟨n, hn, i, hi, hne⟩
    exact ⟨n * 32 + i, by simp only [beq_iff_eq]; omega, hne⟩

end

/-! ### The slots that the scan holds (R162) -/

/-- The bytes of the ring, which the scan reads. -/
def ringOf (m : List Host.Cell) (protect : Fin 64) : List Host.Cell := m.filter (fun c => decide (protect.val * 1024 ≤ c.1))

theorem memRead_ringOf (m : List Host.Cell) {protect : Fin 64} {a : Nat} (h : protect.val * 1024 ≤ a) :
    memRead (ringOf m protect) a = memRead m a := by
  rw [ringOf, memRead_filter (p := fun a => decide (protect.val * 1024 ≤ a)), if_pos (by simpa using h)]

theorem memReadBytes_ringOf (m : List Host.Cell) {protect : Fin 64} {a : Nat} (h : protect.val * 1024 ≤ a) (len : Nat) :
    memReadBytes (ringOf m protect) a len = memReadBytes m a len := by
  refine List.map_congr_left fun i _ => ?_
  exact memRead_ringOf m (by omega)

/-- The image that the scan reads of a slot of the ring. -/
theorem slotImage_ringOf (m : List Host.Cell) {protect : Fin 64} {n : Nat} (h : protect.val * 32 ≤ n) :
    slotImage (ringOf m protect) n = memReadBytes m (n * 32) 32 :=
  memReadBytes_ringOf m (by rw [slotAddr]; omega) _

theorem programmedSlot_ringOf (m : List Host.Cell) {protect : Fin 64} {n : Nat} (h : protect.val * 32 ≤ n) :
    programmedSlot (ringOf m protect) n ↔ programmedSlot m n := by
  refine exists_congr fun i => and_congr_right fun _ => ?_
  rw [memRead_ringOf m (by omega)]

theorem memWf_ringOf {m : List Host.Cell} (hw : memWf m) (protect : Fin 64) : memWf (ringOf m protect) :=
  ⟨hw.1.filter _, fun c hc => hw.2 c (List.mem_filter.1 hc).1⟩

section
variable {m : List Host.Cell} (hw : memWf m) (protect : Fin 64)
include hw

/-- The slots that the scan looks at: those of the ring that are programmed. -/
theorem mem_scanned_slots (n : Nat) :
    n ∈ (List.range' (protect.val * 32) (2048 - protect.val * 32)).filter (fun n => !slotErased (ringOf m protect) n) ↔
      (protect.val * 32 ≤ n ∧ n < 2048) ∧ programmedSlot m n := by
  rw [List.mem_filter, List.mem_range'_1, Bool.not_eq_true', slotErased_eq_false_iff (memWf_ringOf hw protect)]
  have hp := protect.isLt
  constructor
  · rintro ⟨⟨hlo, hhi⟩, hprog⟩
    exact ⟨⟨hlo, by omega⟩, (programmedSlot_ringOf m hlo).1 hprog⟩
  · rintro ⟨⟨hlo, hhi⟩, hprog⟩
    exact ⟨⟨hlo, by omega⟩, (programmedSlot_ringOf m hlo).2 hprog⟩

theorem mem_scanSlots (h : HeldSlot) :
    h ∈ (scanSlots m protect).1 ↔ (protect.val * 32 ≤ h.slot ∧ h.slot < 2048) ∧ goodSlot m h.slot ∧
      h.seq = beNat (field (memReadBytes m (h.slot * 32) 32) 0 4) := by
  have hmem (n : Nat) := mem_scanned_slots hw protect n
  simp only [scanSlots, List.mem_map, List.mem_filter (p := fun n => imageGood _)]
  constructor
  · rintro ⟨n, ⟨hn, hgood⟩, rfl⟩
    obtain ⟨hring, hprog⟩ := (hmem n).1 hn
    have himg := slotImage_ringOf m hring.1
    rw [ringOf] at himg
    rw [himg] at hgood ⊢
    exact ⟨hring, ⟨hprog, by simpa [imageGood] using hgood⟩, rfl⟩
  · rintro ⟨hring, ⟨hprog, hgood⟩, hseq⟩
    have himg := slotImage_ringOf m hring.1
    rw [ringOf] at himg
    refine ⟨h.slot, ⟨(hmem h.slot).2 ⟨hring, hprog⟩, ?_⟩, ?_⟩
    · rw [himg]
      simpa [imageGood] using hgood
    · rw [himg, imageSeq, ← hseq]

/-- BAD_RECORD is raised for a slot of the ring that is programmed and not good. -/
theorem scanSlots_bad_iff :
    (scanSlots m protect).2 = true ↔ ∃ n, (protect.val * 32 ≤ n ∧ n < 2048) ∧ programmedSlot m n ∧ ¬goodSlot m n := by
  have hmem (n : Nat) := mem_scanned_slots hw protect n
  simp only [scanSlots, List.any_eq_true, Bool.not_eq_true']
  refine exists_congr fun n => ?_
  constructor
  · rintro ⟨hn, hbad⟩
    obtain ⟨hring, hprog⟩ := (hmem n).1 hn
    have himg := slotImage_ringOf m hring.1
    rw [ringOf] at himg
    rw [himg] at hbad
    exact ⟨hring, hprog, fun hgood => by simp [imageGood, hgood.2] at hbad⟩
  · rintro ⟨hring, hprog, hbad⟩
    have himg := slotImage_ringOf m hring.1
    rw [ringOf] at himg
    refine ⟨(hmem n).2 ⟨hring, hprog⟩, ?_⟩
    rw [himg]
    rw [goodSlot, not_and] at hbad
    simpa [imageGood] using hbad hprog

end

/-! ### The highest, the oldest and the newest of held records -/

theorem highestOf_eq_some_iff (slots : List HeldSlot) (x : Fin 64) (k : Nat) :
    highestOf slots x = some k ↔
      (∃ h ∈ slots, h.slot / 32 = x.val ∧ h.seq = k) ∧ ∀ h ∈ slots, h.slot / 32 = x.val → h.seq ≤ k := by
  rw [highestOf, List.max?_eq_some_iff]
  simp only [List.mem_map, List.mem_filter, beq_iff_eq, forall_exists_index, and_imp]
  constructor
  · rintro ⟨⟨h, ⟨hm, hx⟩, hk⟩, hall⟩
    exact ⟨⟨h, hm, hx, hk⟩, fun g hg hgx => hall _ g hg hgx rfl⟩
  · rintro ⟨⟨h, hm, hx, hk⟩, hall⟩
    exact ⟨⟨h, ⟨hm, hx⟩, hk⟩, fun _ g hg hgx hgk => hgk ▸ hall g hg hgx⟩

theorem highestOf_eq_none_iff (slots : List HeldSlot) (x : Fin 64) : highestOf slots x = none ↔ ∀ h ∈ slots, h.slot / 32 ≠ x.val := by
  simp [highestOf, List.filter_eq_nil_iff]

theorem min?_seq_eq {slots : List HeldSlot} {o : HeldSlot} (ho : o ∈ slots) (hall : ∀ h ∈ slots, o.seq ≤ h.seq) :
    (slots.map HeldSlot.seq).min? = some o.seq := by
  rw [List.min?_eq_some_iff]
  exact ⟨List.mem_map_of_mem ho, by simpa using hall⟩

theorem max?_seq_eq {slots : List HeldSlot} {h : HeldSlot} (hm : h ∈ slots) (hall : ∀ g ∈ slots, g ≠ h → g.seq < h.seq) :
    (slots.map HeldSlot.seq).max? = some h.seq := by
  rw [List.max?_eq_some_iff]
  refine ⟨List.mem_map_of_mem hm, ?_⟩
  simp only [List.mem_map, forall_exists_index, and_imp, forall_apply_eq_imp_iff₂]
  intro g hg
  by_cases heq : g = h
  · rw [heq]
  · exact (hall g hg heq).le

/-- The slot of a record newer than every other. -/
theorem newestSlot_eq {slots : List HeldSlot} {h : HeldSlot} (hm : h ∈ slots) (hall : ∀ g ∈ slots, g ≠ h → g.seq < h.seq) :
    newestSlot slots = some h := by
  rw [newestSlot, max?_seq_eq hm hall, Option.bind_some]
  obtain ⟨g, hg⟩ : ∃ g, slots.find? (fun g => g.seq == h.seq) = some g := by
    rw [← Option.isSome_iff_exists, List.find?_isSome]
    exact ⟨h, hm, by simp⟩
  have hmem := List.mem_of_find?_eq_some hg
  have hseq : g.seq = h.seq := by simpa using List.find?_some hg
  by_cases heq : g = h
  · rw [hg, heq]
  · exact absurd hseq (by have := hall g hmem heq; omega)

/-! ### The store that the scan forms (R162, R163) -/

/-- The rebuilt store before its write position is found. -/
def scanBase (m : List Host.Cell) (protect : Fin 64) : Rst :=
  { Rst.start m protect with
    table := scanTable m (scanSlots m protect).1
    slots := (scanSlots m protect).1
    newest := (((scanSlots m protect).1.map HeldSlot.seq).max?).getD 0
    oldest := ((scanSlots m protect).1.map HeldSlot.seq).min?
    mark := match ((scanSlots m protect).1.map HeldSlot.seq).min? with
      | none => (((scanSlots m protect).1.map HeldSlot.seq).max?).getD 0
      | some o => o - 1 }

theorem scanned_of_newest {m : List Host.Cell} {protect : Fin 64} {h : HeldSlot} (hn : newestSlot (scanSlots m protect).1 = some h) :
    scanned m protect = ((scanBase m protect).placeAfter (Fin.ofNat 64 (h.slot / 32)) (h.slot / 4 % 8)).landed := by
  simp only [scanned, hn]
  rfl

theorem scanned_of_none {m : List Host.Cell} {protect : Fin 64} (hn : newestSlot (scanSlots m protect).1 = none) :
    scanned m protect = (scanBase m protect).landed := by
  simp only [scanned, hn]
  rfl

/-- The write position aside, what the scan forms; a pre-erase stands marked where the position is a page 7. -/
theorem scanned_eq (m : List Host.Cell) (protect : Fin 64) :
    scanned m protect = { scanBase m protect with
      posSector := (scanned m protect).posSector, posPage := (scanned m protect).posPage, preErase := (scanned m protect).preErase } := by
  cases hn : newestSlot (scanSlots m protect).1 with
  | none => rw [scanned_of_none hn]; rfl
  | some h => rw [scanned_of_newest hn, Rst.placeAfter_landed_eq]

theorem scanned_preErase (m : List Host.Cell) (protect : Fin 64) :
    (scanned m protect).preErase = (decide ((scanned m protect).posPage = 7) && (scanned m protect).preEraseTest) := by
  cases hn : newestSlot (scanSlots m protect).1 with
  | none => rw [scanned_of_none hn]; rfl
  | some h => rw [scanned_of_newest hn]; rfl

theorem scanned_fresh (m : List Host.Cell) (protect : Fin 64) : (scanned m protect).fresh := by
  constructor
  case preErase => exact scanned_preErase m protect
  all_goals rw [scanned_eq]; rfl

end Sys2Proof.Machine

/-! # The configuration chain (R174, R175, Table 12-8) -/

namespace Sys2Proof.Machine

/-! ### A block and what the walk takes of it -/

/-- The block at an offset: its ID and its payload. -/
def blockAt (m : List Host.Cell) (off : Nat) : Nat × List Byte :=
  ((memRead m off).toNat, memReadBytes m (off + 4) (memRead m (off + 1)).toNat)

/-- The next offset that the block at an offset gives. -/
def nextAt (m : List Host.Cell) (off : Nat) : Nat := beNat (memReadBytes m (off + 2) 2)

/-- The block at an offset ends inside the protected area, and its check word is good. -/
def blockSound (m : List Host.Cell) (limit off : Nat) : Prop :=
  off + 8 + (memRead m (off + 1)).toNat ≤ limit ∧
    memReadBytes m (off + 4 + (memRead m (off + 1)).toNat) 4 =
      natBe 4 (crc32 (memReadBytes m off (4 + (memRead m (off + 1)).toNat))).toNat

/-- The walk with one block taken. -/
def Walk.take (w : Walk) (x : Nat × List Byte) : Walk := ({ w with seen := x.1 :: w.seen } : Walk).values x.1 x.2

/-- The walk with blocks taken one after the other. -/
def Walk.takeAll (w : Walk) (blocks : List (Nat × List Byte)) : Walk := blocks.foldl Walk.take w

/-- Blocks whose known ones have their own lengths and IDs not seen before (R174 step 4). -/
def admitted : List Nat → List (Nat × List Byte) → Prop
  | _, [] => True
  | seen, x :: rest => (∀ n, blockLength x.1 = some n → x.2.length = n ∧ x.1 ∉ seen) ∧ admitted (x.1 :: seen) rest

@[simp] theorem memReadBytes_length (m : List Host.Cell) (a len : Nat) : (memReadBytes m a len).length = len := by simp [memReadBytes]

theorem chainAt_cons_iff {m : List Host.Cell} {limit off : Nat} {x : Nat × List Byte} {rest : List (Nat × List Byte)} :
    chainAt m limit off (x :: rest) ↔ blockSound m limit off ∧ x = blockAt m off ∧ (rest = [] ↔ nextAt m off = 0) ∧
      (rest ≠ [] → nextAt m off < limit ∧ chainAt m limit (nextAt m off) rest) := by
  obtain ⟨id, b⟩ := x
  constructor
  · rintro ⟨hfit, hid, hlen, hbytes, hcrc, hend, hnext⟩
    rw [← hlen] at hfit hbytes hcrc
    exact ⟨⟨hfit, hcrc⟩, by rw [blockAt, hid, hbytes], hend, hnext⟩
  · rintro ⟨⟨hfit, hcrc⟩, hx, hend, hnext⟩
    obtain ⟨rfl, rfl⟩ := Prod.mk.inj hx
    exact ⟨by rwa [memReadBytes_length], rfl, by rw [memReadBytes_length], by rw [memReadBytes_length],
      by rwa [memReadBytes_length], hend, hnext⟩

theorem Walk.identity_iff {w : Walk} {id len : Nat} :
    w.identity id len = true ↔ ∀ n, blockLength id = some n → len = n ∧ id ∉ w.seen := by
  cases h : blockLength id with
  | none => simp [Walk.identity, h]
  | some n => simp [Walk.identity, h, eq_comm (a := n)]

section
variable {m : List Host.Cell} {limit off : Nat} {w : Walk}

/-- R174: the walk takes a sound block that passes the identity test. -/
theorem Walk.block_of_sound (h : blockSound m limit off) (hid : w.identity (blockAt m off).1 (blockAt m off).2.length = true) :
    w.block m limit off = (w.take (blockAt m off), some (nextAt m off)) := by
  obtain ⟨hfit, hcrc⟩ := h
  rw [blockAt, memReadBytes_length] at hid
  simp only [Walk.block, if_neg (Nat.not_lt.2 hfit), if_neg (not_not.2 hcrc), hid, Bool.not_true, Bool.false_eq_true, if_false]
  rfl

/-- R174: any other block ends the walk. -/
theorem Walk.block_of_not_sound (h : ¬(blockSound m limit off ∧ w.identity (blockAt m off).1 (blockAt m off).2.length = true)) :
    w.block m limit off = (w, none) := by
  rw [blockAt, memReadBytes_length] at h
  simp only [Walk.block]
  split
  · rfl
  · next hfit =>
    split
    · rfl
    · next hcrc =>
      rw [if_pos]
      simpa using fun hid => h ⟨⟨Nat.not_lt.1 hfit, not_not.1 hcrc⟩, hid⟩

theorem Walk.values_seen (w : Walk) (id : Nat) (b : List Byte) : (w.values id b).seen = w.seen := by
  unfold Walk.values
  split_ifs <;> rfl

theorem Walk.take_seen (w : Walk) (x : Nat × List Byte) : (w.take x).seen = x.1 :: w.seen := Walk.values_seen _ _ _

/-- R174: the walk ends without error exactly where an admitted chain stands, and has then taken its blocks. -/
theorem walkFrom_iff (fuel : Nat) {w w' : Walk} :
    walkFrom m limit fuel off w = (w', true) ↔
      ∃ blocks, chainAt m limit off blocks ∧ blocks.length ≤ fuel ∧ admitted w.seen blocks ∧ w' = w.takeAll blocks := by
  induction fuel generalizing off w with
  | zero =>
    constructor
    · intro h
      exact absurd (congrArg Prod.snd h) (by simp [walkFrom])
    · rintro ⟨blocks, hchain, hlen, -⟩
      rw [List.length_eq_zero_iff.1 (Nat.le_zero.1 hlen)] at hchain
      exact hchain.elim
  | succ fuel ih =>
    have hseen : (w.take (blockAt m off)).seen = (blockAt m off).1 :: w.seen := w.take_seen _
    constructor
    · intro h
      by_cases hs : blockSound m limit off ∧ w.identity (blockAt m off).1 (blockAt m off).2.length = true
      · obtain ⟨hsound, hid⟩ := hs
        simp only [walkFrom, Walk.block_of_sound hsound hid] at h
        split at h
        · next hz =>
          refine ⟨[blockAt m off], chainAt_cons_iff.2 ⟨hsound, rfl, by simp [hz], by simp⟩, by simp, ⟨Walk.identity_iff.1 hid, trivial⟩,
            (congrArg Prod.fst h).symm⟩
        · next hz =>
          split at h
          · exact absurd (congrArg Prod.snd h) (by simp)
          · next hlt =>
            obtain ⟨rest, hchain, hlen, hadm, hw⟩ := ih.1 h
            have hne : rest ≠ [] := by rintro rfl; exact hchain
            rw [hseen] at hadm
            exact ⟨blockAt m off :: rest, chainAt_cons_iff.2 ⟨hsound, rfl, by simp [hz, hne], fun _ => ⟨by omega, hchain⟩⟩,
              by simpa using hlen, ⟨Walk.identity_iff.1 hid, hadm⟩, hw⟩
      · simp only [walkFrom, Walk.block_of_not_sound hs] at h
        exact absurd (congrArg Prod.snd h) (by simp)
    · rintro ⟨blocks, hchain, hlen, hadm, rfl⟩
      match blocks, hchain with
      | x :: rest, hchain =>
        obtain ⟨hsound, rfl, hend, hnext⟩ := chainAt_cons_iff.1 hchain
        obtain ⟨hid, hadm⟩ := hadm
        simp only [walkFrom, Walk.block_of_sound hsound (Walk.identity_iff.2 hid)]
        split
        · next hz =>
          rw [hend.2 hz]
          rfl
        · next hz =>
          obtain ⟨hlt, hrest⟩ := hnext fun hnil => hz (hend.1 hnil)
          rw [if_neg (by omega)]
          refine ih.2 ⟨rest, hrest, by simpa using hlen, by rwa [hseen], rfl⟩

end

/-! ### The tests of the whole chain (R174) -/

theorem blockLength_eq_some_iff (id n : Nat) :
    blockLength id = some n ↔ (id, n) ∈ [(1, 4), (2, 5), (3, 4), (4, 8), (5, 22), (6, 5), (7, 4)] := by
  unfold blockLength
  split_ifs <;> simp_all [eq_comm]

theorem blockLength_known (id : Nat) : (∃ n, blockLength id = some n) ↔ 1 ≤ id ∧ id ≤ 7 := by
  simp only [blockLength_eq_some_iff, List.mem_cons, Prod.mk.injEq, List.not_mem_nil, or_false]
  constructor
  · rintro ⟨n, h⟩
    omega
  · rintro ⟨hlo, hhi⟩
    interval_cases id <;> simp

/-- Admitted blocks are known ones of their own lengths, each once. -/
theorem admitted_iff (seen : List Nat) (blocks : List (Nat × List Byte)) :
    admitted seen blocks ↔ (∀ x ∈ blocks, ∀ n, blockLength x.1 = some n → x.2.length = n ∧ x.1 ∉ seen) ∧
      ((blocks.map Prod.fst).filter (fun i => decide (1 ≤ i ∧ i ≤ 7))).Nodup := by
  induction blocks generalizing seen with
  | nil => simp [admitted]
  | cons x rest ih =>
    rw [admitted, ih, List.map_cons, List.filter_cons]
    constructor
    · rintro ⟨hx, hrest, hnodup⟩
      refine ⟨fun y hy n hn => ?_, ?_⟩
      · rcases List.mem_cons.1 hy with rfl | hy
        · exact hx n hn
        · obtain ⟨hlen, hns⟩ := hrest y hy n hn
          exact ⟨hlen, fun hs => hns (List.mem_cons_of_mem _ hs)⟩
      · split
        · refine List.nodup_cons.2 ⟨fun hmem => ?_, hnodup⟩
          obtain ⟨hm, hknown⟩ := List.mem_filter.1 hmem
          obtain ⟨y, hy, hyx⟩ := List.mem_map.1 hm
          obtain ⟨n, hn⟩ := (blockLength_known y.1).2 (by rw [hyx]; simpa using hknown)
          exact (hrest y hy n hn).2 (by rw [hyx]; exact List.mem_cons_self)
        · exact hnodup
    · rintro ⟨hall, hnodup⟩
      refine ⟨hall x List.mem_cons_self, fun y hy n hn => ?_, ?_⟩
      · obtain ⟨hlen, hns⟩ := hall y (List.mem_cons_of_mem _ hy) n hn
        refine ⟨hlen, fun hmem => ?_⟩
        rcases List.mem_cons.1 hmem with heq | hmem
        · have hknown := (blockLength_known y.1).1 ⟨n, hn⟩
          rw [if_pos (by simpa [← heq] using hknown)] at hnodup
          exact (List.nodup_cons.1 hnodup).1 (List.mem_filter.2 ⟨heq ▸ List.mem_map_of_mem hy, by simpa [← heq] using hknown⟩)
        · exact hns hmem
      · split at hnodup
        · exact (List.nodup_cons.1 hnodup).2
        · exact hnodup

theorem Walk.takeAll_seen (w : Walk) (blocks : List (Nat × List Byte)) (i : Nat) :
    i ∈ (w.takeAll blocks).seen ↔ i ∈ blocks.map Prod.fst ∨ i ∈ w.seen := by
  induction blocks generalizing w with
  | nil => simp [Walk.takeAll]
  | cons x rest ih =>
    rw [Walk.takeAll, List.foldl_cons, ← Walk.takeAll, ih, Walk.take_seen]
    simp only [List.map_cons, List.mem_cons]
    tauto

/-- The walk before the first block. -/
def Walk.first : Walk := ⟨Cfg.fallback, [], 0⟩

/-- A chain is clean where the walk of it ends without error, and every mandatory block is among its blocks. -/
theorem cleanChain_iff {m : List Host.Cell} {protect : Fin 64} {blocks : List (Nat × List Byte)} :
    cleanChain m (protect.val * 1024) blocks ↔ (chainAt m (protect.val * 1024) 4 blocks ∧ blocks.length ≤ 16 ∧ admitted [] blocks) ∧
      ∀ i, 1 ≤ i → i ≤ 5 → i ∈ (Walk.first.takeAll blocks).seen := by
  have hseen (i : Nat) : i ∈ (Walk.first.takeAll blocks).seen ↔ i ∈ blocks.map Prod.fst := by
    rw [Walk.takeAll_seen]
    simp [Walk.first]
  simp only [cleanChain, admitted_iff, hseen, ← blockLength_eq_some_iff, List.not_mem_nil, not_false_eq_true, and_true]
  tauto

theorem mandatory_iff (seen : List Nat) : [1, 2, 3, 4, 5].all (fun id => seen.contains id) = true ↔ ∀ i, 1 ≤ i → i ≤ 5 → i ∈ seen := by
  simp only [List.all_cons, List.all_nil, Bool.and_true, Bool.and_eq_true, List.contains_iff_mem]
  constructor
  · rintro ⟨h1, h2, h3, h4, h5⟩ i hlo hhi
    interval_cases i <;> assumption
  · intro h
    exact ⟨h 1 (by decide) (by decide), h 2 (by decide) (by decide), h 3 (by decide) (by decide), h 4 (by decide) (by decide),
      h 5 (by decide) (by decide)⟩

/-- R174: the walk of a clean chain. -/
theorem chainWalk_of_clean {m : List Host.Cell} {protect : Fin 64} {blocks : List (Nat × List Byte)}
    (h : cleanChain m (protect.val * 1024) blocks) : chainWalk m protect = (Walk.first.takeAll blocks, true) := by
  obtain ⟨⟨hchain, hlen, hadm⟩, hall⟩ := cleanChain_iff.1 h
  have hwalk : walkFrom m (protect.val * 1024) 16 4 Walk.first = (Walk.first.takeAll blocks, true) :=
    (walkFrom_iff 16).2 ⟨blocks, hchain, hlen, hadm, rfl⟩
  rw [Walk.first] at hwalk hall
  simp only [chainWalk, hwalk, Bool.true_and, (mandatory_iff _).2 hall]
  rfl

/-- R174: a walk that ends without error has walked a clean chain. -/
theorem exists_clean_of_chainWalk {m : List Host.Cell} {protect : Fin 64} (h : (chainWalk m protect).2 = true) :
    ∃ blocks, cleanChain m (protect.val * 1024) blocks := by
  simp only [chainWalk, Bool.and_eq_true, mandatory_iff] at h
  obtain ⟨hend, hall⟩ := h
  obtain ⟨blocks, hchain, hlen, hadm, hw⟩ := (walkFrom_iff 16).1 (Prod.ext rfl hend)
  exact ⟨blocks, cleanChain_iff.2 ⟨⟨hchain, hlen, hadm⟩, fun i hlo hhi => by rw [Walk.first, ← hw]; exact hall i hlo hhi⟩⟩

/-! ### What the blocks deliver (R175) -/

section
variable {α : Type} {g : Cfg → α} {i : Nat} (hother : ∀ (w : Walk) (x : Nat × List Byte), x.1 ≠ i → g (w.take x).cfg = g w.cfg)
  {blocks : List (Nat × List Byte)}
include hother

/-- Values that one kind of block sets stand as they were over the other kinds. -/
theorem Walk.takeAll_of_not_mem (w : Walk) (h : i ∉ blocks.map Prod.fst) : g (w.takeAll blocks).cfg = g w.cfg := by
  induction blocks generalizing w with
  | nil => rfl
  | cons x rest ih =>
    rw [List.map_cons, List.mem_cons, not_or] at h
    rw [Walk.takeAll, List.foldl_cons, ← Walk.takeAll, ih _ h.2, hother w x (Ne.symm h.1)]

/-- The one block of a kind sets its values. -/
theorem Walk.takeAll_of_mem (hown : ∀ (w : Walk) (b : List Byte), g (w.take (i, b)).cfg = g (Walk.first.take (i, b)).cfg)
    (hi : 1 ≤ i ∧ i ≤ 7) (hnodup : ((blocks.map Prod.fst).filter (fun i => decide (1 ≤ i ∧ i ≤ 7))).Nodup)
    {b : List Byte} (h : (i, b) ∈ blocks) : g (Walk.first.takeAll blocks).cfg = g (Walk.first.take (i, b)).cfg := by
  obtain ⟨before, after, rfl⟩ := List.append_of_mem h
  have hlater : i ∉ after.map Prod.fst := by
    intro hmem
    rw [List.map_append, List.map_cons, List.filter_append, List.filter_cons_of_pos (by simpa using hi)] at hnodup
    have htail := (List.nodup_cons.1 (List.nodup_append.1 hnodup).2.1).1
    exact htail (List.mem_filter.2 ⟨hmem, by simpa using hi⟩)
  rw [Walk.takeAll, List.foldl_append, List.foldl_cons, ← Walk.takeAll, Walk.takeAll_of_not_mem hother _ hlater]
  exact hown _ _

end

theorem defaulted_fst (dflt lo hi v : Nat) : (defaulted dflt lo hi v).1 = bringOr dflt lo hi v := by
  unfold defaulted bringOr
  split <;> rfl

/-- What a block of each kind sets (Table 12-8). -/
def Cfg.cellValues (c : Cfg) : Nat × Nat := (c.rating, c.vRated)
def Cfg.controlValues (c : Cfg) : Nat × Nat × Nat × Nat := (c.dF, c.kShare, c.dQ, c.rampStep)
def Cfg.protectValues (c : Cfg) : Nat × Nat := (c.iTrip, c.limitPu)
def Cfg.contactorValues (c : Cfg) : Nat × Nat × Nat × Nat := (c.closePulse, c.openPulse, c.confirmTime, c.cellClosing)
def Cfg.linkValues (c : Cfg) : BitVec 32 × Bool × Bool × Bool := (c.accept, c.enCorr, c.enNonFatal, c.enFatal)
def Cfg.storeValues (c : Cfg) : Nat × Nat × Nat := (c.packing, c.absolute, c.nearFull)

section
variable (w : Walk) {x : Nat × List Byte}

theorem Walk.take_cellValues (h : x.1 ≠ 1) : (w.take x).cfg.cellValues = w.cfg.cellValues := by
  simp only [Walk.take, Walk.values, if_neg h]
  split_ifs <;> rfl

theorem Walk.take_controlValues (h : x.1 ≠ 2) : (w.take x).cfg.controlValues = w.cfg.controlValues := by
  simp only [Walk.take, Walk.values, if_neg h]
  split_ifs <;> rfl

theorem Walk.take_protectValues (h : x.1 ≠ 3) : (w.take x).cfg.protectValues = w.cfg.protectValues := by
  simp only [Walk.take, Walk.values, if_neg h]
  split_ifs <;> rfl

theorem Walk.take_contactorValues (h : x.1 ≠ 4) : (w.take x).cfg.contactorValues = w.cfg.contactorValues := by
  simp only [Walk.take, Walk.values, if_neg h]
  split_ifs <;> rfl

theorem Walk.take_gains (h : x.1 ≠ 5) : (w.take x).cfg.gains = w.cfg.gains := by
  simp only [Walk.take, Walk.values, if_neg h]
  split_ifs <;> rfl

theorem Walk.take_linkValues (h : x.1 ≠ 6) : (w.take x).cfg.linkValues = w.cfg.linkValues := by
  simp only [Walk.take, Walk.values, if_neg h]
  split_ifs <;> rfl

theorem Walk.take_storeValues (h : x.1 ≠ 7) : (w.take x).cfg.storeValues = w.cfg.storeValues := by
  simp only [Walk.take, Walk.values, if_neg h]
  split_ifs <;> rfl

end

/-- Table 12-8: each kind of block sets its own values and no others. -/
theorem Cfg.deliveredBy_takeAll {blocks : List (Nat × List Byte)}
    (hnodup : ((blocks.map Prod.fst).filter (fun i => decide (1 ≤ i ∧ i ≤ 7))).Nodup) :
    (Walk.first.takeAll blocks).cfg.deliveredBy blocks := by
  have hbyte (x : Byte) : clampNat 0 255 x.toNat = x.toNat := by
    have := x.isLt
    rw [clampNat]
    omega
  refine ⟨fun b hb => ?_, fun b hb => ?_, fun b hb => ?_, fun b hb => ?_, fun b hb => ?_, fun b hb => ?_, fun b hb => ?_,
    fun hno => ?_, fun hno => ?_⟩
  · have hval := Walk.takeAll_of_mem (fun w _ => w.take_cellValues) (fun _ _ => rfl) (by decide) hnodup hb
    obtain ⟨hrating, hrated⟩ := Prod.mk.inj hval
    exact ⟨hrating, hrated⟩
  · have hval := Walk.takeAll_of_mem (fun w _ => w.take_controlValues) (fun _ _ => rfl) (by decide) hnodup hb
    obtain ⟨hdF, hrest⟩ := Prod.mk.inj hval
    obtain ⟨hk, hrest⟩ := Prod.mk.inj hrest
    obtain ⟨hdQ, hstep⟩ := Prod.mk.inj hrest
    exact ⟨hdF, hk.trans (hbyte _), hdQ, hstep⟩
  · have hval := Walk.takeAll_of_mem (fun w _ => w.take_protectValues) (fun _ _ => rfl) (by decide) hnodup hb
    obtain ⟨htrip, hlimit⟩ := Prod.mk.inj hval
    exact ⟨htrip, hlimit.trans (defaulted_fst _ _ _ _)⟩
  · have hval := Walk.takeAll_of_mem (fun w _ => w.take_contactorValues) (fun _ _ => rfl) (by decide) hnodup hb
    obtain ⟨hclose, hrest⟩ := Prod.mk.inj hval
    obtain ⟨hopen, hrest⟩ := Prod.mk.inj hrest
    obtain ⟨hconfirm, hclosing⟩ := Prod.mk.inj hrest
    exact ⟨hclose.trans (defaulted_fst _ _ _ _), hopen.trans (defaulted_fst _ _ _ _), hconfirm.trans (defaulted_fst _ _ _ _),
      hclosing.trans (defaulted_fst _ _ _ _)⟩
  · exact Walk.takeAll_of_mem (g := Cfg.gains) (fun w _ => w.take_gains) (fun _ _ => rfl) (by decide) hnodup hb
  · have hval := Walk.takeAll_of_mem (fun w _ => w.take_linkValues) (fun _ _ => rfl) (by decide) hnodup hb
    obtain ⟨haccept, hrest⟩ := Prod.mk.inj hval
    obtain ⟨hcorr, hrest⟩ := Prod.mk.inj hrest
    obtain ⟨hnon, hfatal⟩ := Prod.mk.inj hrest
    refine ⟨fun k _ hk => ?_, hcorr, hnon, hfatal⟩
    have hbits : (Walk.first.takeAll blocks).cfg.accept = BitVec.ofNat 32 (beNat (field b 0 4)) := haccept
    rw [hbits, BitVec.getLsbD_ofNat, decide_eq_true (by omega), Bool.true_and]
  · have hval := Walk.takeAll_of_mem (fun w _ => w.take_storeValues) (fun _ _ => rfl) (by decide) hnodup hb
    obtain ⟨hpacking, hrest⟩ := Prod.mk.inj hval
    obtain ⟨habsolute, hnear⟩ := Prod.mk.inj hrest
    exact ⟨hpacking, habsolute, hnear⟩
  · have hval := Walk.takeAll_of_not_mem (fun w _ => w.take_linkValues) Walk.first hno
    obtain ⟨haccept, hrest⟩ := Prod.mk.inj hval
    obtain ⟨hcorr, hrest⟩ := Prod.mk.inj hrest
    obtain ⟨hnon, hfatal⟩ := Prod.mk.inj hrest
    refine ⟨fun k hlo hhi => ?_, hcorr, hnon, hfatal⟩
    have hbits : (Walk.first.takeAll blocks).cfg.accept = Cfg.fallback.accept := haccept
    rw [hbits]
    interval_cases k <;> rfl
  · have hval := Walk.takeAll_of_not_mem (fun w _ => w.take_storeValues) Walk.first hno
    obtain ⟨hpacking, hrest⟩ := Prod.mk.inj hval
    obtain ⟨habsolute, hnear⟩ := Prod.mk.inj hrest
    exact ⟨hpacking, habsolute, hnear⟩

/-- R175: a block counts the values of it that stand outside their ranges. -/
theorem blockClamps_take (w : Walk) (x : Nat × List Byte) : (w.take x).clamps = w.clamps + blockClamps x := by
  obtain ⟨id, b⟩ := x
  have hbyte : (clamped 0 255 (byteAt b 2).toNat).2 = 0 := if_pos ⟨Nat.zero_le _, by have := (byteAt b 2).isLt; omega⟩
  have hdefault (dflt lo hi v : Nat) : (defaulted dflt lo hi v).2 = if v = 0 then 0 else if lo ≤ v ∧ v ≤ hi then 0 else 1 := by
    unfold defaulted clamped
    split <;> rfl
  simp only [Walk.take, Walk.values]
  split_ifs with h1 h2 h3 h4 h5 h6 h7
  · subst h1
    simp only [Walk.cellBlock, clamped, blockClamps, Nat.add_assoc]
  · subst h2
    simp only [Walk.controlBlock, hbyte, Nat.add_zero]
    simp only [clamped, blockClamps, Nat.add_assoc]
  · subst h3
    simp only [Walk.protectBlock, hdefault, clamped, blockClamps, Nat.add_assoc]
  · subst h4
    simp only [Walk.contactorBlock, hdefault, blockClamps, Nat.add_assoc]
  · subst h5
    rfl
  · subst h6
    rfl
  · subst h7
    simp only [Walk.storeBlock, clamped, blockClamps, Nat.add_assoc]
  · have hnone : blockClamps (id, b) = 0 := by
      simp only [blockClamps]
    rw [hnone]
    rfl

theorem Walk.takeAll_clamps (w : Walk) (blocks : List (Nat × List Byte)) :
    (w.takeAll blocks).clamps = w.clamps + (blocks.map blockClamps).sum := by
  induction blocks generalizing w with
  | nil => rfl
  | cons x rest ih =>
    rw [Walk.takeAll, List.foldl_cons, ← Walk.takeAll, ih, blockClamps_take, List.map_cons, List.sum_cons, Nat.add_assoc]

end Sys2Proof.Machine

/-! # What START reads from the store (O6; R144, R147, R155 to R157, R162, R163, R172 to R175) -/

namespace Sys2Proof.Machine

/-! ### Stages 1 to 3: the notices of the configuration (R165, R174, R175) -/

theorem Ntu.start_entry (j : NoticeKind) : Ntu.start.entry j = ⟨false, 0⟩ := by simp [Ntu.entry, Ntu.start]

theorem Dev.raiseIf_own (d : Dev) (c : Bool) (k : NoticeKind) : (d.raiseIf c k).ntu.entry k =
    if c then ⟨true, min 255 ((d.ntu.entry k).count + 1)⟩ else d.ntu.entry k := by
  rw [Dev.raiseIf]
  split
  · exact d.raise_own k
  · rfl

/-- A raise reaches the notices alone. -/
theorem Dev.raiseIf_eq (d : Dev) (c : Bool) (k : NoticeKind) : d.raiseIf c k = d.setNtu (d.raiseIf c k).ntu := by
  rw [Dev.raiseIf]
  split <;> rfl

theorem Dev.raiseMany_entry (k j : NoticeKind) (h : j ≠ k) (n : Nat) (d : Dev) :
    (Dev.raiseMany k n d).ntu.entry j = d.ntu.entry j := by
  induction n generalizing d with
  | zero => rfl
  | succ n ih => rw [Dev.raiseMany, ih, Dev.raise_entry _ _ _ h]

/-- R165: a count over several raises. -/
theorem Dev.raiseMany_own (k : NoticeKind) (n : Nat) {d : Dev} (h : (d.ntu.entry k).count ≤ 255) :
    (Dev.raiseMany k n d).ntu.entry k = ⟨(d.ntu.entry k).pending || decide (0 < n), min 255 ((d.ntu.entry k).count + n)⟩ := by
  induction n generalizing d with
  | zero => simp [Dev.raiseMany, Nat.min_eq_right h]
  | succ n ih =>
    rw [Dev.raiseMany, ih (by rw [Dev.raise_own]; exact Nat.min_le_left _ _), Dev.raise_own]
    congr 1
    · simp
    · simp only
      omega

/-- How many values stages 1 to 3 clamp: the word of the protected count, and those of the walk. -/
def clampsOf (mem : List Host.Cell) : Nat := (if (readProtect mem).2 then 1 else 0) + (chainWalk mem (readProtect mem).1).1.clamps

/-- What stages 1 to 3 leave: the values delivered or the fallback set, over the bytes of the store, and their notices. -/
theorem Dev.configured_eq (mem : List Host.Cell) (pins : Pins) (d : Dev) :
    let w := chainWalk mem (readProtect mem).1
    let e := (d.stage1 mem pins).configure
    e.cfg = { (if w.2 then w.1.cfg else Cfg.fallback) with station := pins.strap.toNat, configBad := !w.2 } ∧
      e.rst = Rst.start mem (readProtect mem).1 ∧ e.run = .starting ∧ e.bare ∧ e.mtr.holder = [] ∧
      e.ntu.entry .configClamped = ⟨decide (0 < clampsOf mem), min 255 (clampsOf mem)⟩ ∧
      e.ntu.entry .configBad = ⟨!w.2, if w.2 then 0 else 1⟩ ∧
      ∀ j, j ≠ .configClamped → j ≠ .configBad → e.ntu.entry j = ⟨false, 0⟩ := by
  intro w e
  obtain ⟨f, hf, hrst, hcfg, hrun, hbare, hhold, hntu⟩ : ∃ f : Dev,
      e = (Dev.raiseMany .configClamped (clampsOf mem) f).raiseIf (!w.2) .configBad ∧ f.rst = Rst.start mem (readProtect mem).1 ∧
        f.cfg = { (if w.2 then w.1.cfg else Cfg.fallback) with station := pins.strap.toNat, configBad := !w.2 } ∧
        f.run = .starting ∧ f.bare ∧ f.mtr.holder = [] ∧ f.ntu = Ntu.start :=
    ⟨_, rfl, rfl, rfl, rfl, ⟨rfl, rfl⟩, rfl, rfl⟩
  have hclamped := Dev.raiseMany_own .configClamped (clampsOf mem) (d := f) (by rw [hntu, Ntu.start_entry]; decide)
  rw [hntu, Ntu.start_entry, Bool.false_or, Nat.zero_add] at hclamped
  have hrest (j : NoticeKind) (hj : j ≠ .configClamped) : (Dev.raiseMany .configClamped (clampsOf mem) f).ntu.entry j = ⟨false, 0⟩ := by
    rw [Dev.raiseMany_entry _ _ hj, hntu, Ntu.start_entry]
  have hmany := Dev.raiseMany_eq .configClamped (clampsOf mem) f
  obtain ⟨g, hg⟩ : ∃ g, g = Dev.raiseMany .configClamped (clampsOf mem) f := ⟨_, rfl⟩
  rw [← hg] at hf hclamped hrest hmany
  have heq : e = f.setNtu e.ntu := by
    rw [hf, Dev.raiseIf_eq, hmany]
    rfl
  refine ⟨by rw [heq]; exact hcfg, by rw [heq]; exact hrst, by rw [heq]; exact hrun, by rw [heq]; exact ⟨hbare.assignment, hbare.membership⟩,
    by rw [heq]; exact hhold, ?_, ?_, fun j hc hb => ?_⟩
  · rw [hf, Dev.raiseIf_entry _ _ (by decide), hclamped]
  · rw [hf, Dev.raiseIf_own, hrest _ (by decide)]
    cases w.2 <;> rfl
  · rw [hf, Dev.raiseIf_entry _ _ hb, hrest j hc]

/-! ### Stage 4: the scan (R157, R162, R163) -/

/-- What the scan leaves, over a part that has just read its configuration. -/
theorem Dev.scan_leaves {d : Dev} {mem : List Host.Cell} {protect : Fin 64} (hr : d.rst = Rst.start mem protect) (hrun : d.run ≠ .shutdown) :
    ({ scanned mem protect with low := d.scan.rst.low } : Rst).sameRing d.scan.rst ∧ d.scan.rst.chosen ∧
      d.scan.rst.newest = (scanned mem protect).newest ∧ d.scan.rst.oldest = (scanned mem protect).oldest ∧ d.scan.rst.queue = [] ∧
      d.scan.rst.low = decide ((scanned mem protect).available ≤ d.cfg.nearFull) ∧
      ((scanned mem protect).posErased = false → (scanned mem protect).eligible (scanned mem protect).posSector = false →
        (d.scan.ntu.entry .storeFull).pending = true) ∧
      d.scan.ntu.entry .storeLow =
        (if d.scan.rst.low then ⟨true, min 255 ((d.ntu.entry .storeLow).count + 1)⟩ else d.ntu.entry .storeLow) ∧
      d.scan.ntu.entry .badRecord =
        (if (scanSlots mem protect).2 then ⟨true, min 255 ((d.ntu.entry .badRecord).count + 1)⟩ else d.ntu.entry .badRecord) ∧
      ∀ j, j ≠ .storeFull → j ≠ .storeLow → j ≠ .badRecord → d.scan.ntu.entry j = d.ntu.entry j := by
  obtain ⟨e, he, hrst, herun, hcfg, hbad, hother⟩ : ∃ e : Dev, d.scan = e.engineChoice.availableTest true ∧ e.rst = scanned mem protect ∧
      e.run = d.run ∧ e.cfg = d.cfg ∧
      e.ntu.entry .badRecord =
        (if (scanSlots mem protect).2 then ⟨true, min 255 ((d.ntu.entry .badRecord).count + 1)⟩ else d.ntu.entry .badRecord) ∧
      ∀ j, j ≠ .badRecord → e.ntu.entry j = d.ntu.entry j := by
    have hscan : d.scan =
        (((d.setRst (scanned mem protect)).raiseIf (scanSlots mem protect).2 .badRecord).engineChoice).availableTest true := by
      rw [Dev.scan, hr]
      rfl
    refine ⟨_, hscan, by rw [Dev.raiseIf_eq]; rfl, by rw [Dev.raiseIf_eq]; rfl, by rw [Dev.raiseIf_eq]; rfl, Dev.raiseIf_own _ _ _,
      fun j hj => Dev.raiseIf_entry _ _ hj⟩
  have hfresh : e.rst.fresh := by rw [hrst]; exact scanned_fresh mem protect
  obtain ⟨hchosen, hwork, hfull, hkept⟩ := Dev.engineChoice_of_fresh hfresh (herun ▸ hrun)
  have hring := hwork.ring
  have hsame := e.engineChoice_sameStaged
  have hnear : e.engineChoice.cfg = d.cfg := by simp [hcfg]
  have htest := e.engineChoice.availableTest_rst true
  have hlow : d.scan.rst.low = decide ((scanned mem protect).available ≤ d.cfg.nearFull) := by
    rw [he, htest, hring.available, hrst, hnear]
  have hntu : d.scan.ntu.entry .storeLow =
      (if d.scan.rst.low then ⟨true, min 255 ((d.ntu.entry .storeLow).count + 1)⟩ else d.ntu.entry .storeLow) ∧
      ∀ j, j ≠ .storeLow → d.scan.ntu.entry j = e.engineChoice.ntu.entry j := by
    have hlow' : d.scan.rst.low = decide (e.engineChoice.rst.available ≤ e.engineChoice.cfg.nearFull) := by rw [he, htest]
    have hbefore : e.engineChoice.ntu.entry .storeLow = d.ntu.entry .storeLow :=
      (hkept _ (by decide)).trans (hother _ (by decide))
    rw [hlow', he]
    simp only [Dev.availableTest, Bool.true_or, Bool.and_true]
    refine ⟨?_, fun j hj => Dev.raiseIf_entry _ _ hj⟩
    rw [Dev.raiseIf_own, Dev.setRst_ntu, hbefore]
  obtain ⟨hstoreLow, hrest⟩ := hntu
  have holdest : e.engineChoice.rst.oldest = e.rst.oldest := by rw [hwork]
  refine ⟨?_, ?_, ?_, ?_, ?_, hlow, fun hp hel => ?_, hstoreLow, ?_, fun j hf hl hb => ?_⟩
  · rw [hrst] at hring
    rw [he, htest]
    exact ⟨⟨hring.mem, hring.protect, hring.posSector, hring.posPage, hring.mark⟩, hring.table, hring.slots, rfl, hring.job⟩
  · rw [he, htest]
    exact ⟨hchosen.job, hchosen.erases, hchosen.stops, hchosen.preErases, hchosen.waits⟩
  · rw [he, htest, ← hrst]
    exact hsame.1
  · rw [he, htest, ← hrst]
    exact holdest
  · have hseqs := hsame.seqs
    rw [hfresh.queue, List.map_nil, List.map_eq_nil_iff] at hseqs
    rw [he, htest]
    exact hseqs
  · rw [hrest _ (by decide)]
    rw [hrst] at hfull
    exact hfull hp hel
  · rw [hrest _ (by decide), hkept _ (by decide), hbad]
  · rw [hrest j hl, hkept j hf, hother j hb]

/-! ### Stages 5 and 6 -/

/-- R144: the INTERRUPTION of the run before. -/
theorem Dev.interruption_kept {f : Dev} (hb : f.bare) (hc : f.rst.chosen) (restart : Bool) :
    f.storeKept (f.interruption restart) ∧ (∀ o, f.rst.oldest = some o → (f.interruption restart).rst.oldest = some o) ∧
      (f.interruption restart).bare := by
  obtain ⟨-, -, -, -, -, -, -, -, -, hhoc, -⟩ := f.interruption_frame restart
  have hassign : (f.interruption restart).hoc.assignment = none := by rw [hhoc]; exact hb.assignment
  cases hi : f.rst.newestImage.bind imageOpenSession with
  | none =>
    have heq : f.interruption restart = f := by simp only [Dev.interruption, hi]
    rw [heq]
    exact ⟨⟨rfl, .refl _, hc, fun _ => rfl⟩, fun _ ho => ho, hb⟩
  | some id =>
    have heq : f.interruption restart = f.requestSession (.interruption id restart) := by simp only [Dev.interruption, hi]
    rw [heq] at hassign ⊢
    obtain ⟨hkept, holdest⟩ := Dev.requestSession_kept hc (.interruption id restart)
    obtain ⟨_, _, hmtr⟩ := f.requestSession_mtr (.interruption id restart)
    exact ⟨hkept, holdest, hassign, by rw [hmtr]; exact hb.membership⟩

/-- Stage 6: the contactors, the link and the run state. -/
theorem Dev.stage6_leaves {g : Dev} (hb : g.bare) (hc : g.rst.chosen) :
    let t := g.contactorCheck.linkEntry.runEntry
    t.cfg = g.cfg ∧ g.rst.sameRing t.rst ∧ t.rst.chosen ∧ g.rst.sameStaged t.rst ∧ t.rst.oldest = g.rst.oldest ∧
      (∀ j, j ≠ .configBad → t.ntu.entry j = g.ntu.entry j) ∧
      t.ntu.entry .configBad =
        (if decide (g.cfg.station = 0) then ⟨true, min 255 ((g.ntu.entry .configBad).count + 1)⟩ else g.ntu.entry .configBad) := by
  obtain ⟨hcheck, hcbare⟩ := Dev.contactorCheck_still hb hc
  obtain ⟨e, hlink, hebare, heq⟩ := Dev.linkEntry_still hcbare hcheck.chosen
  have hstill : g.storeStill e := hcheck.trans hlink
  rw [hcheck.cfg] at heq
  have hsame : g.contactorCheck.linkEntry = e.setNtu g.contactorCheck.linkEntry.ntu := by rw [heq, ← Dev.raiseIf_eq]
  have hrst : g.contactorCheck.linkEntry.rst = e.rst := by rw [hsame]; rfl
  have hcfg : g.contactorCheck.linkEntry.cfg = e.cfg := by rw [hsame]; rfl
  have hbare : g.contactorCheck.linkEntry.bare := by rw [hsame]; exact ⟨hebare.assignment, hebare.membership⟩
  have hrun := Dev.runEntry_still hbare (by rw [hrst]; exact hstill.chosen)
  have hring := hrun.ring
  have hstaged := hrun.staged
  rw [hrst] at hring hstaged
  refine ⟨hrun.cfg.trans (hcfg.trans hstill.cfg), hstill.ring.trans hring, hrun.chosen, hstill.staged.trans hstaged,
    hrun.oldest.trans (by rw [hrst, hstill.oldest]), fun j hj => ?_, ?_⟩
  · rw [hrun.entry, heq, Dev.raiseIf_entry _ _ hj, hstill.entry]
  · rw [hrun.entry, heq, Dev.raiseIf_own, hstill.entry]

end Sys2Proof.Machine

/-! # START over the bytes of a store: the settlement of O6 -/

namespace Sys2Proof.Machine

/-! ### The ring after START, read off the bytes (R154, R162, R163) -/

/-- The low condition is no part of where the store stands. -/
theorem Rst.sameRing.but_low {r t : Rst} {low : Bool} (h : ({ r with low := low } : Rst).sameRing t) :
    t.available = r.available ∧ t.posErased = r.posErased ∧ (∀ x, t.eligible x = r.eligible x) ∧ t.posSector = r.posSector :=
  ⟨h.available, h.posErased, h.eligible, h.posSector⟩

/-- A store whose ring is the one that the scan of these bytes forms. -/
abbrev Rst.scannedAs (r : Rst) (mem : List Host.Cell) (protect : Fin 64) : Prop :=
  ({ scanned mem protect with low := r.low } : Rst).sameRing r

section
variable {mem : List Host.Cell} {protect : Fin 64} {r : Rst} (h : r.scannedAs mem protect)
include h

theorem Rst.scannedAs.fields :
    r.mem = mem ∧ r.protect = protect ∧ r.slots = (scanSlots mem protect).1 ∧ r.table = scanTable mem (scanSlots mem protect).1 ∧
      r.mark = (scanBase mem protect).mark := by
  have heq := scanned_eq mem protect
  refine ⟨h.mem.trans ?_, h.protect.trans ?_, h.slots.trans ?_, h.table.trans ?_, h.mark.trans ?_⟩ <;> rw [heq] <;> rfl

theorem Rst.scannedAs.line (x : Fin 64) :
    r.line x = ⟨mem.any (fun c => c.1 / 1024 == x.val && c.2 != erasedByte), highestOf r.slots x⟩ := by
  obtain ⟨-, -, hslots, htable, -⟩ := h.fields
  rw [Rst.line, htable, hslots]
  simp [scanTable]

theorem Rst.scannedAs.eligible_iff (x : Fin 64) :
    r.eligible x = true ↔ ∀ g ∈ r.slots, g.slot / 32 = x.val → g.seq ≤ r.mark := by
  simp only [Rst.eligible, h.line]
  cases hk : highestOf r.slots x with
  | none =>
    rw [highestOf_eq_none_iff] at hk
    simp only [true_iff]
    exact fun g hg hx => absurd hx (hk g hg)
  | some k =>
    obtain ⟨⟨g, hg, hx, rfl⟩, hall⟩ := (highestOf_eq_some_iff _ _ _).1 hk
    simp only [decide_eq_true_eq]
    exact ⟨fun hle e he hex => (hall e he hex).trans hle, fun hle => hle g hg hx⟩

/-- R163: with nothing held, the ring begins at its first page. -/
theorem Rst.scannedAs.position_of_empty (hnil : r.slots = []) : r.mark = 0 ∧ r.posSector = r.protect ∧ r.posPage = 0 := by
  obtain ⟨-, hprotect, hslots, -, hmark⟩ := h.fields
  rw [hnil] at hslots
  have hscan := scanned_of_none (m := mem) (protect := protect) (by rw [← hslots]; rfl)
  refine ⟨hmark.trans ?_, h.posSector.trans ?_, h.posPage.trans ?_⟩
  · simp [scanBase, ← hslots]
  · rw [hprotect]
    exact congrArg Rst.posSector hscan
  · exact congrArg Rst.posPage hscan

variable (hw : memWf mem)
include hw

theorem Rst.scannedAs.used_iff (x : Fin 64) : (r.line x).used = true ↔ ∃ n, n / 32 = x.val ∧ programmedSlot mem n := by
  rw [h.line]
  exact sectorUsed_iff hw x.val

theorem Rst.scannedAs.pageErased_iff (x : Fin 64) (p : Fin 8) :
    pageErased r.mem x p = true ↔ ∀ n, n / 4 = x.val * 8 + p.val → ¬programmedSlot mem n := by
  rw [h.fields.1]
  exact Sys2Proof.Machine.pageErased_iff hw x p

theorem Rst.scannedAs.posErased_iff :
    r.posErased = true ↔ (∀ n, n / 4 = r.posSector.val * 8 + r.posPage.val → ¬programmedSlot mem n) ∧
      ¬(r.posPage = 0 ∧ ∃ n, n / 32 = r.posSector.val ∧ programmedSlot mem n) := by
  rw [Rst.posErased, Bool.and_eq_true, h.pageErased_iff hw, ← h.used_iff hw]
  simp [imp_iff_not_or]

theorem Rst.scannedAs.preEraseTest_iff :
    r.preEraseTest = true ↔ (∃ n, n / 32 = (r.next r.posSector).val ∧ programmedSlot mem n) ∧
      ∀ g ∈ r.slots, g.slot / 32 = (r.next r.posSector).val → g.seq ≤ r.mark := by
  rw [Rst.preEraseTest, Bool.and_eq_true, h.used_iff hw, h.eligible_iff]

/-- R163: the write position behind the page of the newest record. -/
theorem Rst.scannedAs.position {g : HeldSlot} (hn : newestSlot r.slots = some g) (hg : g.slot < 2048) :
    (r.posSector.val = g.slot / 32 ∧ g.slot / 4 % 8 < r.posPage.val ∧ r.posErased = true ∧
        ∀ q, g.slot / 4 % 8 < q → q < r.posPage.val → ¬∀ n, n / 4 = g.slot / 32 * 8 + q → ¬programmedSlot mem n) ∨
      ((∀ q, g.slot / 4 % 8 < q → q < 8 → ¬∀ n, n / 4 = g.slot / 32 * 8 + q → ¬programmedSlot mem n) ∧
        r.posSector = r.next (Fin.ofNat 64 (g.slot / 32)) ∧ r.posPage = 0) := by
  obtain ⟨hmem, hprotect, hslots, -, -⟩ := h.fields
  have hx : (Fin.ofNat 64 (g.slot / 32)).val = g.slot / 32 := Nat.mod_eq_of_lt (by omega)
  rw [hslots] at hn
  have hpos := scanned_of_newest hn
  have hsector := congrArg Rst.posSector hpos
  have hpage := congrArg Rst.posPage hpos
  rw [Rst.placeAfter_landed_eq] at hsector hpage
  have hrsector := h.posSector.trans hsector
  have hrpage := h.posPage.trans hpage
  have hbusy (q : Fin 8) (hq : pageErased mem (Fin.ofNat 64 (g.slot / 32)) q = false) :
      ¬∀ n, n / 4 = g.slot / 32 * 8 + q.val → ¬programmedSlot mem n := by
    rw [← hx, ← Sys2Proof.Machine.pageErased_iff hw, hq]
    decide
  obtain ⟨psector, plt, perased, pbetween⟩ | ⟨pnone, psector, ppage⟩ :=
    (scanBase mem protect).placeAfter_place (Fin.ofNat 64 (g.slot / 32)) (g.slot / 4 % 8)
  · rw [psector] at hrsector
    rw [← hrpage] at plt perased pbetween
    refine .inl ⟨by rw [hrsector, hx], plt, ?_, fun q hlo hhi => ?_⟩
    · have hne : r.posPage ≠ 0 := by
        intro h0
        rw [h0] at plt
        exact absurd plt (Nat.not_lt_zero _)
      rw [Rst.posErased, hrsector, hmem, show pageErased mem _ r.posPage = true from perased]
      simp [hne]
    · have hq8 : q < 8 := hhi.trans r.posPage.isLt
      exact hbusy ⟨q, hq8⟩ (pbetween ⟨q, hq8⟩ hlo hhi)
  · refine .inr ⟨fun q hlo hhi => hbusy ⟨q, hhi⟩ (pnone ⟨q, hhi⟩ hlo), ?_, hrpage.trans ppage⟩
    rw [hrsector, psector, Rst.next, Rst.next, hprotect]
    rfl

end

/-! ### INTERRUPTION (R144) -/

/-- R144: what the newest record shows of an open membership. -/
theorem imageOpenSession_eq (img : List Byte) :
    imageOpenSession img =
      if (byteAt img 4).toNat / 32 = 1 ∨ (byteAt img 4).toNat / 32 = 2 ∨
        ((byteAt img 4).toNat / 32 = 5 ∧ (byteAt img 4).getLsbD 4 = false) then some (beNat (field img 5 4)) else none := by
  simp only [imageOpenSession]
  congr 1
  simp [or_assoc]

/-- The INTERRUPTION is staged under the next number, with an empty queue and numbers left. -/
theorem Dev.interruption_staged {f : Dev} {g : HeldSlot} {restart : Bool} (hn : newestSlot f.rst.slots = some g)
    (hq : f.rst.queue = []) (hh : f.mtr.holder = []) (hnew : f.rst.newest < 4294967295) :
    let img := memReadBytes f.rst.mem (g.slot * 32) 32
    let kind := (byteAt img 4).toNat / 32
    let due := kind = 1 ∨ kind = 2 ∨ (kind = 5 ∧ (byteAt img 4).getLsbD 4 = false)
    (due → f.rst.tookRecords [.interruption (beNat (field img 5 4)) restart] (f.interruption restart).rst) ∧
      (¬due → f.interruption restart = f) := by
  intro img kind due
  have himage : f.rst.newestImage = some img := by
    rw [Rst.newestImage, hn]
    rfl
  have hfree : f.rst.free ≠ 0 := by
    rw [Rst.free_of_newest hnew, hq]
    decide
  refine ⟨fun hdue => ?_, fun hdue => ?_⟩
  · have hopen : f.rst.newestImage.bind imageOpenSession = some (beNat (field img 5 4)) := by
      rw [himage, Option.bind_some, imageOpenSession_eq, if_pos hdue]
    simp only [Dev.interruption, hopen]
    exact (Dev.requestSession_tookRecords hh hfree _).1
  · have hopen : f.rst.newestImage.bind imageOpenSession = none := by
      rw [himage, Option.bind_some, imageOpenSession_eq, if_neg hdue]
    simp only [Dev.interruption, hopen]

/-- Without a held record there was no run to interrupt. -/
theorem Dev.interruption_of_empty {f : Dev} (hs : f.rst.slots = []) (restart : Bool) : f.interruption restart = f := by
  have hopen : f.rst.newestImage.bind imageOpenSession = none := by rw [Rst.newestImage, hs]; rfl
  simp only [Dev.interruption, hopen]

/-! ### The whole of START -/

/-- R147: the protected count that START reads. -/
theorem readProtect_eq (m : List Host.Cell) {v : Nat} (hv : beNat (memReadBytes m 0 4) = v) :
    (readProtect m).1.val = (if v = 2 ∨ v = 4 ∨ v = 8 then v else 8) ∧ (readProtect m).2 = !decide (v = 2 ∨ v = 4 ∨ v = 8) := by
  simp only [readProtect, hv]
  split_ifs <;> simp_all

/-- What stands after START over the bytes of a store. -/
structure Dev.startedFrom (t : Dev) (mem : List Host.Cell) (pins : Pins) (restart : Bool) : Prop where
  cfg : t.cfg = { (if (chainWalk mem (readProtect mem).1).2 then (chainWalk mem (readProtect mem).1).1.cfg else Cfg.fallback) with
    station := pins.strap.toNat, configBad := !(chainWalk mem (readProtect mem).1).2 }
  ring : t.rst.scannedAs mem (readProtect mem).1
  chosen : t.rst.chosen
  low : t.rst.low = decide (t.rst.available ≤ t.cfg.nearFull)
  clamped : t.ntu.entry .configClamped = ⟨decide (0 < clampsOf mem), min 255 (clampsOf mem)⟩
  bad : t.ntu.entry .configBad =
    ⟨!(chainWalk mem (readProtect mem).1).2 || decide (pins.strap.toNat = 0),
      (if (chainWalk mem (readProtect mem).1).2 then 0 else 1) + if pins.strap.toNat = 0 then 1 else 0⟩
  storeLow : t.ntu.entry .storeLow = ⟨t.rst.low, if t.rst.low then 1 else 0⟩
  badRecord : t.ntu.entry .badRecord = if (scanSlots mem (readProtect mem).1).2 then ⟨true, 1⟩ else ⟨false, 0⟩
  storeFull : t.rst.posErased = false → t.rst.eligible t.rst.posSector = false → (t.ntu.entry .storeFull).pending = true
  staged : ∃ f : Dev, f.rst.slots = t.rst.slots ∧ f.rst.mem = mem ∧ f.rst.newest = (scanned mem (readProtect mem).1).newest ∧
    f.rst.oldest = (scanned mem (readProtect mem).1).oldest ∧ f.rst.queue = [] ∧ f.mtr.holder = [] ∧
    (f.interruption restart).rst.sameStaged t.rst ∧ t.rst.oldest = (f.interruption restart).rst.oldest ∧
    ∀ o, f.rst.oldest = some o → (f.interruption restart).rst.oldest = some o

/-- START, stage by stage. -/
theorem Dev.startOver_startedFrom {mem : List Host.Cell} {pins : Pins} {restart : Bool} {d t : Dev}
    (ht : t = d.startOver mem pins restart) : t.startedFrom mem pins restart := by
  obtain ⟨ecfg, erst, erun, ebare, ehold, eclamped, ebad, eother⟩ := Dev.configured_eq mem pins d
  obtain ⟨e, he⟩ : ∃ e, e = (d.stage1 mem pins).configure := ⟨_, rfl⟩
  rw [← he] at ecfg erst erun ebare ehold eclamped ebad eother
  obtain ⟨fring, fchosen, fnewest, foldest, fqueue, flow, ffull, fstoreLow, fbadRecord, fother⟩ :=
    Dev.scan_leaves erst (by rw [erun]; decide)
  obtain ⟨-, -, fcfg, -, -, -, -, -, -, fhoc, fmtr, -⟩ := e.scan_frame
  obtain ⟨f, hf⟩ : ∃ f, f = e.scan := ⟨_, rfl⟩
  rw [← hf] at fring fchosen fnewest foldest fqueue flow ffull fstoreLow fbadRecord fother fcfg fhoc fmtr
  have fbare : f.bare := ⟨by rw [fhoc]; exact ebare.assignment, by rw [fmtr]; exact ebare.membership⟩
  obtain ⟨gkept, goldest, gbare⟩ := Dev.interruption_kept fbare fchosen restart
  obtain ⟨tcfg, tring, tchosen, tstaged, toldest, tother, tbad⟩ := Dev.stage6_leaves gbare gkept.chosen
  replace ht : t = (f.interruption restart).contactorCheck.linkEntry.runEntry := by
    rw [ht, Dev.startOver, hf, he]
  rw [← ht] at tcfg tring tchosen tstaged toldest tother tbad
  have hring : f.rst.sameRing t.rst := gkept.ring.trans tring
  have hscanned : t.rst.scannedAs mem (readProtect mem).1 := by
    have hboth := fring.trans hring
    rwa [← hring.low] at hboth
  have hcfg : t.cfg = e.cfg := tcfg.trans (gkept.cfg.trans fcfg)
  have hentry (j : NoticeKind) (hj : j ≠ .configBad) : t.ntu.entry j = f.ntu.entry j := (tother j hj).trans (gkept.entry j)
  obtain ⟨havail, hpos, hel, hsector⟩ := Rst.sameRing.but_low hscanned
  refine ⟨hcfg.trans ecfg, hscanned, tchosen, ?_, ?_, ?_, ?_, ?_, fun hp he => ?_, ?_⟩
  · rw [hring.low, flow, havail, hcfg]
  · rw [hentry _ (by decide), fother _ (by decide) (by decide) (by decide), eclamped]
  · rw [tbad, gkept.entry, fother _ (by decide) (by decide) (by decide), ebad, gkept.cfg, fcfg, ecfg]
    cases (chainWalk mem (readProtect mem).1).2 <;> by_cases hz : pins.strap.toNat = 0 <;> simp [hz]
  · rw [hentry _ (by decide), fstoreLow, eother _ (by decide) (by decide), hring.low]
    cases f.rst.low <;> rfl
  · rw [hentry _ (by decide), fbadRecord, eother _ (by decide) (by decide)]
    rfl
  · rw [hentry _ (by decide)]
    exact ffull (hpos.symm.trans hp) (by rw [← hel, ← hsector]; exact he)
  · exact ⟨f, hring.slots.symm, (hring.mem.symm.trans hscanned.fields.1), fnewest, foldest, fqueue, by rw [fmtr]; exact ehold, tstaged,
      toldest, goldest⟩

/-- R147, R174, R175: what START makes of the first word and the chain. -/
theorem Dev.startedFrom.configured {t : Dev} {mem : List Host.Cell} {pins : Pins} {restart : Bool} (h : t.startedFrom mem pins restart) :
    t.configuredFrom mem pins.strap := by
  obtain ⟨hcount, hword⟩ := readProtect_eq mem rfl
  have hprotect : t.rst.protect = (readProtect mem).1 := h.ring.fields.2.1
  have hstrap : pins.strap.toNat = 0 ↔ pins.strap = 0 := ⟨fun h0 => BitVec.eq_of_toNat_eq h0, fun h0 => by rw [h0]; rfl⟩
  have hcfg := h.cfg
  have hbad := h.bad
  unfold Dev.configuredFrom
  intro v p badWord unset
  have hp : p = (readProtect mem).1.val := hcount.symm
  have hbadWord : badWord = if (readProtect mem).2 then 1 else 0 := by
    rw [hword]
    simp only [badWord]
    split <;> simp_all [v]
  refine ⟨by rw [hprotect]; exact hcount, by rw [hcfg], fun blocks hclean => ?_, fun hno => ?_⟩
  · rw [hp] at hclean
    have hwalk := chainWalk_of_clean hclean
    obtain ⟨⟨-, -, hadm⟩, -⟩ := cleanChain_iff.1 hclean
    have hn : clampsOf mem = badWord + (blocks.map blockClamps).sum := by
      rw [clampsOf, hwalk, hbadWord, Walk.takeAll_clamps]
      simp [Walk.first]
    rw [hwalk] at hcfg hbad
    refine ⟨by rw [hcfg]; rfl, ?_, by rw [h.clamped, hn], ?_⟩
    · rw [hcfg]
      exact Cfg.deliveredBy_takeAll ((admitted_iff _ _).1 hadm).2
    · rw [hbad]
      by_cases hz : pins.strap = 0
      · rw [show unset = 1 from if_pos hz, if_pos (hstrap.2 hz), decide_eq_true (hstrap.2 hz)]
        rfl
      · rw [show unset = 0 from if_neg hz, if_neg (mt hstrap.1 hz), decide_eq_false (mt hstrap.1 hz)]
        rfl
  · rw [hp] at hno
    have hwalk : (chainWalk mem (readProtect mem).1).2 = false := by
      by_contra hne
      exact hno (exists_clean_of_chainWalk (Bool.eq_true_of_not_eq_false hne))
    rw [hwalk] at hcfg hbad
    refine ⟨hcfg, hbad.trans ?_⟩
    simp only [unset, hstrap]
    rfl

/-- R162: the newest and the oldest number that the scan finds. -/
theorem scanned_numbers (m : List Host.Cell) (protect : Fin 64) :
    (scanned m protect).newest = (((scanSlots m protect).1.map HeldSlot.seq).max?).getD 0 ∧
      (scanned m protect).oldest = ((scanSlots m protect).1.map HeldSlot.seq).min? := by
  rw [scanned_eq]
  exact ⟨rfl, rfl⟩

section
variable {t : Dev} {mem : List Host.Cell} {pins : Pins} {restart : Bool} (h : t.startedFrom mem pins restart)
include h

/-- With nothing held, START numbers and stages nothing. -/
theorem Dev.startedFrom.of_empty (hnil : t.rst.slots = []) : t.rst.newest = 0 ∧ t.rst.oldest = none ∧ t.rst.queue = [] := by
  obtain ⟨f, fslots, -, fnewest, foldest, fqueue, -, hsame, holdest, -⟩ := h.staged
  obtain ⟨hnew, hold⟩ := scanned_numbers mem (readProtect mem).1
  obtain ⟨-, -, hslots, -⟩ := h.ring.fields
  rw [hnil] at hslots
  rw [← hslots] at hnew hold
  rw [Dev.interruption_of_empty (fslots.trans hnil)] at hsame holdest
  have hqueue := hsame.seqs
  rw [fqueue] at hqueue
  exact ⟨hsame.1.trans (fnewest.trans hnew), holdest.trans (foldest.trans hold), List.map_eq_nil_iff.1 hqueue⟩

/-- R158, R162: the oldest held record, and the mark below it. -/
theorem Dev.startedFrom.oldest {o : HeldSlot} (ho : o ∈ t.rst.slots) (hall : ∀ g ∈ t.rst.slots, o.seq ≤ g.seq) :
    t.rst.oldest = some o.seq ∧ t.rst.mark = o.seq - 1 := by
  obtain ⟨f, -, -, -, foldest, -, -, -, holdest, hkept⟩ := h.staged
  obtain ⟨-, hold⟩ := scanned_numbers mem (readProtect mem).1
  obtain ⟨-, -, hslots, -, hmark⟩ := h.ring.fields
  have hmin := min?_seq_eq ho hall
  rw [hslots] at hmin
  refine ⟨holdest.trans (hkept _ (foldest.trans (hold.trans hmin))), hmark.trans ?_⟩
  simp only [scanBase, hmin]

/-- R144, R162: the newest held record, and the INTERRUPTION that it calls for. -/
theorem Dev.startedFrom.newest {g : HeldSlot} (hg : g ∈ t.rst.slots) (hall : ∀ e ∈ t.rst.slots, e ≠ g → e.seq < g.seq)
    (hlt : g.seq < 4294967295) :
    let img := memReadBytes mem (g.slot * 32) 32
    let kind := (byteAt img 4).toNat / 32
    let due := kind = 1 ∨ kind = 2 ∨ (kind = 5 ∧ (byteAt img 4).getLsbD 4 = false)
    (due → t.rst.newest = g.seq + 1 ∧
      t.rst.staged = [(g.seq + 1, recordImage (g.seq + 1) (.interruption (beNat (field img 5 4)) restart))]) ∧
      (¬due → t.rst.newest = g.seq ∧ t.rst.queue = []) := by
  intro img kind due
  obtain ⟨f, fslots, fmem, fnewest, -, fqueue, fhold, hsame, -, -⟩ := h.staged
  obtain ⟨hnew, -⟩ := scanned_numbers mem (readProtect mem).1
  obtain ⟨-, -, hslots, -⟩ := h.ring.fields
  have hmax := max?_seq_eq hg hall
  rw [← hslots, hmax] at hnew
  have hfnew : f.rst.newest = g.seq := fnewest.trans hnew
  have hslot : newestSlot f.rst.slots = some g := by
    rw [fslots]
    exact newestSlot_eq hg hall
  obtain ⟨hdue, hnot⟩ := Dev.interruption_staged (restart := restart) hslot fqueue fhold (by rw [hfnew]; exact hlt)
  rw [fmem] at hdue hnot
  refine ⟨fun hd => ?_, fun hd => ?_⟩
  · obtain ⟨tnew, tstaged⟩ := hdue hd
    refine ⟨hsame.1.trans (tnew.trans (by rw [hfnew]; rfl)), hsame.2.trans (tstaged.trans ?_)⟩
    simp [Rst.staged, fqueue, hfnew, img]
  · rw [hnot hd] at hsame
    have hqueue := hsame.seqs
    rw [fqueue] at hqueue
    exact ⟨hsame.1.trans hfnew, List.map_eq_nil_iff.1 hqueue⟩

end

/-- R144, R155 to R157, R162, R163: what START makes of the ring. -/
theorem Dev.startedFrom.scannedFrom {t : Dev} {mem : List Host.Cell} {pins : Pins} {restart : Bool} (h : t.startedFrom mem pins restart)
    (hw : memWf mem) : t.scannedFrom mem restart := by
  obtain ⟨hmem, hprotect, hslots, htable, hmark⟩ := h.ring.fields
  have hheld := mem_scanSlots hw (readProtect mem).1
  have hbad := scanSlots_bad_iff hw (readProtect mem).1
  rw [← hslots, ← hprotect] at hheld
  rw [← hprotect] at hbad
  have hpos := h.ring.posErased_iff hw
  have hel := h.ring.eligible_iff t.rst.posSector
  have hpre := h.ring.preEraseTest_iff hw
  unfold Dev.scannedFrom
  intro r img programmed good ring blank used eligible next at0
  have hnotAt (hn : ¬at0) : t.rst.posErased = false := by
    rw [← Bool.not_eq_true, hpos]
    exact hn
  refine ⟨hheld, fun hex => ?_, fun hno => ?_, fun x _ => ?_, fun hnil => ?_, fun o ho hall => ?_, fun g hg hall hlt => ?_,
    fun hn he => ?_, fun hn he => ?_, fun hat => ?_, h.low, h.storeLow, h.chosen.job⟩
  · rw [h.badRecord, if_pos (hprotect ▸ hbad.2 hex)]
  · rw [h.badRecord, if_neg (fun hb => hno (hbad.1 (hprotect ▸ hb)))]
  · have hline := h.ring.line x
    refine ⟨h.ring.used_iff hw x, fun k => ?_⟩
    rw [show t.rst.table[x].highest = highestOf t.rst.slots x from congrArg SectorLine.highest hline]
    exact highestOf_eq_some_iff _ _ _
  · obtain ⟨hnew, hold, hqueue⟩ := h.of_empty hnil
    obtain ⟨hmark, hsector, hpage⟩ := h.ring.position_of_empty hnil
    exact ⟨hnew, hold, hmark, hqueue, hsector, hpage⟩
  · exact h.oldest ho hall
  · obtain ⟨hdue, hnot⟩ := h.newest hg hall hlt
    have hslot : g.slot < 2048 := ((hheld g).1 hg).1.2
    obtain ⟨hsector, hpage, hat, hbetween⟩ | hnext := h.ring.position hw (newestSlot_eq hg hall) hslot
    · exact ⟨hdue, hnot, .inl ⟨hsector, hpage, hpos.1 hat, hbetween⟩⟩
    · exact ⟨hdue, hnot, .inr hnext⟩
  · exact h.chosen.erases (hnotAt hn) (hel.2 he)
  · have hel' : t.rst.eligible t.rst.posSector = false := by
      rw [← Bool.not_eq_true, hel]
      exact he
    obtain ⟨hfull, hidle⟩ := h.chosen.stops (hnotAt hn) hel'
    exact ⟨hfull, hidle, h.storeFull (hnotAt hn) hel'⟩
  · have hat' : t.rst.posErased = true := hpos.2 hat
    by_cases hp : t.rst.posPage = 7 ∧ t.rst.preEraseTest = true
    · obtain ⟨hfull, hengine⟩ := h.chosen.preErases hat' hp
      refine ⟨hfull, fun _ _ _ => hengine, fun hno _ => ?_⟩
      obtain ⟨hu, he⟩ := hpre.1 hp.2
      exact absurd hno (by rintro (hno | hno | hno) <;> [exact hno hp.1; exact hno hu; exact hno he])
    · obtain ⟨hfull, -, hidle⟩ := h.chosen.waits hat' hp
      exact ⟨hfull, fun hpage hu he => absurd ⟨hpage, hpre.2 ⟨hu, he⟩⟩ hp, fun _ => hidle⟩

/-! ### An erased store -/

theorem readProtect_erased : readProtect [] = (8, true) := by decide

/-- The CRC-32 register over 37 erased bytes at a time, from its start value on. -/
theorem crc32_erased_runs :
    [4294967295#32, 1978763848#32, 2555858817#32, 1809835217#32, 3563078357#32, 2778118579#32, 37869134#32].map
        (fun r => (List.replicate 37 erasedByte).foldl crc32Byte r) =
      [1978763848#32, 2555858817#32, 1809835217#32, 3563078357#32, 2778118579#32, 37869134#32, 3079420641#32] := by decide +kernel

theorem crc32_erased : crc32 (memReadBytes [] 4 259) = ~~~3079420641#32 := by
  have hbytes : memReadBytes [] 4 259 = (List.replicate 7 (List.replicate 37 erasedByte)).flatten := by
    rw [List.flatten_replicate_replicate, memReadBytes]
    simp [memRead]
  have hruns := crc32_erased_runs
  rw [crc32, hbytes]
  generalize List.replicate 37 erasedByte = run at hruns ⊢
  simp only [List.map_cons, List.cons.injEq] at hruns
  obtain ⟨h1, h2, h3, h4, h5, h6, h7, -⟩ := hruns
  simp only [List.replicate_succ, List.replicate_zero, List.flatten_cons, List.flatten_nil, List.append_nil, List.foldl_append, h1, h2, h3,
    h4, h5, h6, h7]

/-- A walk that meets no block at its first offset ends with nothing taken. -/
theorem chainWalk_of_not_sound {m : List Host.Cell} {protect : Fin 64} (h : ¬blockSound m (protect.val * 1024) 4) :
    chainWalk m protect = (Walk.first, false) := by
  have hwalk : walkFrom m (protect.val * 1024) 16 4 Walk.first = (Walk.first, false) := by
    simp only [walkFrom, Walk.block_of_not_sound fun hs => h hs.1]
  rw [Walk.first] at hwalk ⊢
  simp only [chainWalk, hwalk, Bool.false_and]

/-- Erased bytes are no block: 255 bytes of payload, and a check word that is not theirs. -/
theorem not_blockSound_erased (limit : Nat) : ¬blockSound [] limit 4 := by
  rintro ⟨-, hcrc⟩
  have hlen : (memRead [] (4 + 1)).toNat = 255 := rfl
  rw [hlen, show 4 + 255 = 259 from rfl, crc32_erased] at hcrc
  exact absurd hcrc (by decide)

theorem not_programmedSlot_erased (n : Nat) : ¬programmedSlot [] n := fun ⟨_, _, hne⟩ => hne rfl

/-- START over an erased store (R147, R174, Table 11-2). -/
theorem Dev.startedFrom.erased {t : Dev} {pins : Pins} {restart : Bool} (h : t.startedFrom [] pins restart) :
    t.cfg = { Cfg.fallback with station := pins.strap.toNat, configBad := true } ∧ t.rst.protect = 8 ∧
      t.ntu.entry .configClamped = ⟨true, 1⟩ ∧ t.ntu.entry .configBad = ⟨true, if pins.strap = 0 then 2 else 1⟩ ∧
      t.rst.newest = 0 ∧ t.rst.oldest = none ∧ t.rst.slots = [] ∧ t.rst.queue = [] ∧
      t.rst.posSector = 8 ∧ t.rst.posPage = 0 ∧ t.rst.engine = .idle ∧ t.rst.full = false := by
  obtain ⟨-, hprotect, hslots, -⟩ := h.ring.fields
  rw [readProtect_erased] at hprotect
  have hwalk : chainWalk [] (readProtect []).1 = (Walk.first, false) := chainWalk_of_not_sound (not_blockSound_erased _)
  have hcfg := h.cfg
  have hbad := h.bad
  rw [hwalk] at hcfg hbad
  have hclamps : clampsOf [] = 1 := by
    rw [clampsOf, hwalk, readProtect_erased]
    rfl
  have hnil : t.rst.slots = [] := by
    refine List.eq_nil_iff_forall_not_mem.2 fun g hg => ?_
    rw [hslots] at hg
    exact not_programmedSlot_erased _ ((mem_scanSlots memWf_nil _ g).1 hg).2.1.1
  obtain ⟨hnew, hold, hqueue⟩ := h.of_empty hnil
  obtain ⟨-, hsector, hpage⟩ := h.ring.position_of_empty hnil
  have hat : t.rst.posErased = true :=
    (h.ring.posErased_iff memWf_nil).2 ⟨fun n _ => not_programmedSlot_erased n, fun ⟨_, n, _, hp⟩ => not_programmedSlot_erased n hp⟩
  obtain ⟨hfull, -, hidle⟩ := h.chosen.waits hat (by rw [hpage]; exact fun hp => absurd hp.1 (by decide))
  refine ⟨hcfg, hprotect, by rw [h.clamped, hclamps]; rfl, hbad.trans ?_, hnew, hold, hnil, hqueue, hsector.trans hprotect, hpage,
    hidle hqueue, hfull⟩
  by_cases hz : pins.strap = 0
  · rw [if_pos hz, hz]
    rfl
  · have hnat : ¬pins.strap.toNat = 0 := fun h0 => hz (BitVec.eq_of_toNat_eq h0)
    rw [if_neg hz, if_neg hnat]
    rfl

/-! ### The causes of START (R172, R176, R177) -/

/-- A command whose whole effect on the part is START over these bytes. -/
def startsOver (c : Instr) (s : State) (mem : List Host.Cell) (pins : Pins) (restart : Bool) : Prop :=
  ∃ d, exec c s = .next { s with dev := Dev.startOver mem pins restart d }

theorem startsOver.reads {c : Instr} {s : State} {mem : List Host.Cell} {pins : Pins} {restart : Bool}
    (h : startsOver c s mem pins restart) (hw : memWf mem) :
    ∃ t, exec c s = .next t ∧ t.dev.configuredFrom mem pins.strap ∧ t.dev.scannedFrom mem restart := by
  obtain ⟨d, hexec⟩ := h
  have hstarted : (Dev.startOver mem pins restart d).startedFrom mem pins restart := Dev.startOver_startedFrom rfl
  exact ⟨_, hexec, hstarted.configured, hstarted.scannedFrom hw⟩

section
variable {s : State} (pins : Pins)

theorem exec_powerUp_starts (h : s.dev.run = .unpowered) : startsOver (.powerUp pins) s s.dev.rst.mem pins false := by
  refine ⟨s.dev, ?_⟩
  have heq : s.dev.powerUp pins = s.dev.startOver s.dev.rst.mem pins false := by simp only [Dev.powerUp, h, if_true]
  rw [← heq]
  rfl

theorem exec_resetPin_starts (h : s.dev.run ≠ .unpowered) : startsOver (.resetPin pins) s s.dev.rst.settledMem pins false := by
  refine ⟨s.dev, ?_⟩
  have heq : s.dev.resetPin pins = s.dev.startOver s.dev.rst.settledMem pins false := if_neg h
  rw [← heq]
  rfl

theorem exec_supplyWarningClear_starts (h : s.dev.run = .shutdown) :
    startsOver (.supplyWarningClear pins) s s.dev.rst.settledMem { pins with warning := false } false := by
  refine ⟨s.dev, ?_⟩
  have heq : s.dev.warningClear pins = s.dev.startOver s.dev.rst.settledMem { pins with warning := false } false := if_pos h
  rw [← heq]
  rfl

/-- R176: RESTART with both contactors OPEN and no membership. -/
theorem exec_restart_starts {h : OrderHead} (ht : s.dev.takes h) (hopen : s.dev.ctc.bothOpen = true)
    (hmember : s.dev.hoc.state.isMember = false) : startsOver (.restart h pins) s s.dev.rst.settledMem pins true := by
  have hrun : s.dev.run = .running := ht.1
  refine ⟨Dev.reply (s.dev.routed .restart h).accept, ?_⟩
  have htest : (s.dev.routed .restart h).run = .running ∧ (s.dev.routed .restart h).restartAccepted = true :=
    ⟨hrun, by simp [Dev.restartAccepted, Dev.routed, hopen, hmember]⟩
  have horder : s.dev.order h (.restart pins) =
      Dev.startOver s.dev.rst.settledMem pins true (Dev.reply (s.dev.routed .restart h).accept) :=
    (Dev.order_taken ht (.restart pins)).trans (if_pos htest)
  rw [← horder]
  exact State.run_up (.inl hrun) _

end

/-- Settles O6: every cause of START leaves what `Dev.startedFrom` says, read off the bytes by `Dev.startedFrom.configured` and
`Dev.startedFrom.scannedFrom`. -/
theorem startReadsTheStore : Obligations.StartReadsTheStore := by
  refine ⟨fun s pins hrun hmem => ?_, fun s pins => ⟨fun hrun hw => ?_, fun hw => ⟨fun hrun => ?_, fun hrun => ?_,
    fun h ht hopen hmember => ?_⟩⟩⟩
  · obtain ⟨d, hexec⟩ := exec_powerUp_starts pins hrun
    rw [hmem] at hexec
    exact ⟨_, hexec, (Dev.startOver_startedFrom rfl).erased⟩
  · exact (exec_powerUp_starts pins hrun).reads hw
  · exact (exec_resetPin_starts pins hrun).reads hw
  · exact (exec_supplyWarningClear_starts pins hrun).reads hw
  · exact (exec_restart_starts pins ht hopen hmember).reads hw

end Sys2Proof.Machine
